-- ==== Sys2Proof/Word.lean ====
section
/-! DEFINITION. The word types of the KS9640 and their plainest arithmetic (R4: bit 0 is the least
significant bit). -/

namespace Sys2Proof

/-- A register word: registers are 32 bits wide and naturally aligned (R18). -/
abbrev Word := BitVec 32

/-- A 64-bit word of a descriptor, record or scalar register. -/
abbrev DWord := BitVec 64

/-- One byte. -/
abbrev Byte := BitVec 8

/-- A 48-bit device address (02, device address map). -/
abbrev DevAddr := BitVec 48

/-- Bits `[hi:lo]` of a natural number. -/
def bitsOf (n hi lo : Nat) : Nat := n / 2 ^ lo % 2 ^ (hi + 1 - lo)

/-- Bit `i` of a natural number. -/
def bitOf (n i : Nat) : Bool := n / 2 ^ i % 2 == 1

/-- `n` with bits `[hi:lo]` replaced by the low bits of `v`. -/
def putBits (n hi lo v : Nat) : Nat :=
  let w := 2 ^ (hi + 1 - lo)
  n / 2 ^ (hi + 1) * 2 ^ (hi + 1) + (v % w) * 2 ^ lo + n % 2 ^ lo

/-- 1 or 0. -/
def bitNat (b : Bool) : Nat := if b then 1 else 0

end Sys2Proof
end

