-- ==== Sys2Proof/Syntax.lean ====
section
/-! DEFINITION. The commands of the KS9640: one constructor per row of the opcode table, with the
operands a command carries (an address, a value, a unit number, what an event brings from outside). -/

namespace Sys2Proof

/-- Offset in the 64 MiB register window (02). -/
abbrev WinAddr := BitVec 26
/-- Page number: offset divided by 4,096 (02). -/
abbrev PageNo := BitVec 14
abbrev BayNo := Fin 8
abbrev CoreNo := Fin 72
abbrev EngineNo := Fin 67
abbrev SkidNo := Fin 64
abbrev HostNo := Fin 4
/-- Function 0 is the physical function, 1 to 16 the virtual functions (R382). -/
abbrev FnNo := Fin 17
abbrev CarrierNo := Fin 256
abbrev QueueNo := Fin 1024
/-- A Ledger record index (R82). -/
abbrev RecNo := BitVec 24
abbrev LinkNo := Fin 4
abbrev ChanNo := Fin 16
/-- Lanes 0 to 47 are Scarf lanes, 48 to 55 Peg lanes 0 to 7 (R338). -/
abbrev LaneNo := Fin 56
/-- PLLs 0 to 11 belong to the Scarf quads, 12 to 19 to the Peg lanes (R357, R361). -/
abbrev PllNo := Fin 20
abbrev FlowNo := BitVec 12
abbrev BentNo := Fin 8
/-- Island number (R396). -/
abbrev IslandNo := BitVec 7
abbrev RouterNo := Fin 48

/-- Who makes an access. The first four kinds are those of R21; the others reach memory only. -/
inductive Requester where
  | host (h : HostNo) (fn : FnNo)
  | core (c : CoreNo)
  | plate (p : Fin 4)
  | skid (ch : SkidNo)
  | engine (e : EngineNo)
  | air (ch : CoreNo)
  | tys
  | girt (b : BayNo)
  | gauge
  | truss
  deriving DecidableEq, Repr

/-- Width of an access in bytes (R18 accepts 4 and 8). -/
inductive AccessSize where
  | b1 | b2 | b4 | b8
  deriving DecidableEq, Repr

/-- The phase sources of R46. -/
inductive PhaseSource where
  | ptpPort (p : Fin 40)
  | ppsIn (j : Fin 2)
  | tysarPeer
  deriving DecidableEq, Repr

/-- A consumer in the encoding of the last-consumer field (R82). -/
inductive Consumer where
  | core (c : CoreNo)
  | engine (e : EngineNo)
  deriving DecidableEq, Repr

/-- What a consumer reports at the end of a task (R84, R133, R168). -/
inductive Report where
  | finished | failed | inputError | descriptor
  deriving DecidableEq, Repr

/-- Why the Truss takes a task away (R138, cause 0x0B). -/
inductive AbandonCause where
  | grace | cancel | drain
  deriving DecidableEq, Repr

/-- S-class R format (R116). -/
structure RForm where
  rd : BitVec 5
  ra : BitVec 5
  rb : BitVec 5
  s : Bool
  cj : Bool
  deriving DecidableEq, Repr

/-- S-class I format (R116). -/
structure IForm where
  rd : BitVec 5
  ra : BitVec 5
  s : Bool
  imm : BitVec 12
  deriving DecidableEq, Repr

/-- S-class W format (R116). -/
structure WForm where
  rd : BitVec 5
  hw : BitVec 2
  imm : BitVec 16
  deriving DecidableEq, Repr

/-- S-class B format (R116). -/
structure BForm where
  cond : BitVec 3
  ra : BitVec 5
  off : BitVec 15
  deriving DecidableEq, Repr

/-- S-class L format (R116). -/
structure LForm where
  level : Bool
  creg : Bool
  start : BitVec 4
  stop : BitVec 8
  cnt : BitVec 9
  deriving DecidableEq, Repr

/-- M-class M format (R116, R117). `imm8` also carries the g index in its bits [7:3]. -/
structure MForm where
  rt : BitVec 5
  an : BitVec 4
  mode : BitVec 3
  size : BitVec 3
  imm8 : BitVec 8
  deriving DecidableEq, Repr

/-- V-class and D-class layout (R147). -/
structure VForm where
  rd : BitVec 5
  ra : BitVec 5
  rb : BitVec 5
  ng : BitVec 3
  s : Bool
  cj : Bool
  esz : BitVec 2
  zm : Bool
  deriving DecidableEq, Repr

/-- Vector memory forms (R148): M format with size 101 or 110. `mode` is [13:11], `ng` [7:5] and `low` [4:0]. -/
structure VMForm where
  rt : BitVec 5
  an : BitVec 4
  mode : BitVec 3
  ng : BitVec 3
  low : BitVec 5
  esz : BitVec 2
  /-- A load sets its inactive elements to 0 (R145, R155). -/
  zm : Bool
  deriving DecidableEq, Repr

/-- A memory of R270: a Loft or Mortise buffer bank (0 to 59), or a core's data or program memory. -/
inductive MemId where
  | bank (b : Fin 60)
  | data (c : CoreNo)
  | prog (c : CoreNo)
  deriving DecidableEq, Repr

/-- What the detector measures at a sync word (R256, R264, R265). -/
structure SyncWord where
  signErrors : BitVec 7
  peakQ88 : BitVec 16
  rssi : BitVec 16
  stampSec : BitVec 48
  stampNs : BitVec 30
  stampQuarter : BitVec 2
  offset : BitVec 32
  sampleIndex : BitVec 32
  sample : BitVec 32
  deriving DecidableEq, Repr

/-- One U-plane section of a received frame (R365, R371). -/
structure Section where
  frameId : BitVec 8
  subframeId : BitVec 4
  slotId : BitVec 6
  symbolId : BitVec 6
  firstPrb : BitVec 10
  numPrb : BitVec 9
  method : BitVec 4
  width : BitVec 5
  payload : List (BitVec 8)
  deriving DecidableEq, Repr

/-- A frame arriving on a port, as the key of R365 and the checks of R367 and R371 see it. -/
structure RxFrame where
  fcsOk : Bool
  headerOk : Bool
  revOk : Bool
  tagged : Bool
  vlan : BitVec 12
  proto : BitVec 2
  msg : BitVec 8
  id : BitVec 16
  ptpEvent : Bool
  sectionType3 : Bool
  sections : List Section
  bytes : List (BitVec 8)
  deriving DecidableEq, Repr

/-- How a PCIe completion returns (R384). -/
inductive CplStatus where
  | ok | unsupported | abort | poisoned
  deriving DecidableEq, Repr

/-- The PCIe resets of R386. -/
inductive FnReset where
  | flr (fn : FnNo)
  | hotReset
  | linkDown
  deriving DecidableEq, Repr

/-- A configuration-space write the device acts on (R385). -/
inductive ConfigWrite where
  | busMaster (on : Bool)
  | msixEnable (on : Bool)
  | functionMask (on : Bool)
  deriving DecidableEq, Repr

/-- The wake sources of R433 and R432. -/
inductive WakeSource where
  | pin | timer | doorbell | flow | ready | req
  deriving DecidableEq, Repr

/-- TAP instructions named by R472. -/
inductive JtagInstr where
  | idcode | bypass | sample | extest | extestPulse | extestTrain | clamp | highz | plateDebug
  deriving DecidableEq, Repr

/-- A command of the KS9640: one constructor per row of the opcode table. -/
inductive Instr where
  -- Page hub and Scribe log (02)
  | registerWrite (r : Requester) (a : WinAddr) (size : AccessSize) (v : BitVec 64)
  | rcRead (r : Requester) (second : Option Requester) (a : WinAddr) (sameCycleEvent : BitVec 32)
  | wideLatchRead (r : Requester) (a : WinAddr)
  | wideStageWrite (r : Requester) (a : WinAddr) (v : BitVec 32)
  | wideLatchCommit (r : Requester) (a : WinAddr) (v : BitVec 32)
  | ownerLock (r : Requester) (page : PageNo)
  | softReset (r : Requester) (page : PageNo)
  | softResetDone (page : PageNo)
  | irqRawClear (r : Requester) (page : PageNo) (v sameCycleEvent : BitVec 32)
  | irqEnWrite (r : Requester) (page : PageNo) (v : BitVec 32)
  | irqForce (r : Requester) (page : PageNo) (v : BitVec 32)
  | errCaptClear (r : Requester) (page : PageNo) (v : BitVec 32)
  | ownerChange (r : Requester) (page : PageNo) (v : BitVec 32)
  | scribeDrain
  | scribeFetch (r : Requester) (n : BayNo) (v : BitVec 32)
  | scribeFetchDone (n : BayNo)
  | heartbeatStall
  -- Ridge timebase (03)
  | adjCommit (r : Requester) (ns : BitVec 32)
  | slewComplete
  | relock (r : Requester) (v : BitVec 32)
  | rateWrite (r : Requester) (lo : BitVec 32)
  | phaseSourceQualify (src : PhaseSource)
  | servoMeasurement (valid : Bool) (sec : BitVec 48) (ns frac : BitVec 32) (freqErr rateAfter : BitVec 40)
  | phaseSourceLost
  | measurementTimeout
  | holdoverExpiry
  | sourceQualify (src : Fin 5)
  | sourceLoss (src : Fin 5)
  | sourceDisqualify (src : Fin 5)
  | dpllAFail
  | txsPop (r : Requester)
  | ppsOutEdge (k : Fin 2)
  | ppsInEdge (j : Fin 2) (rising : Bool) (quarter : Fin 4)
  | todRxMessage (bytes : List (BitVec 8)) (sincePulseMs : BitVec 16)
  | todTxSend
  | extCaptureEdge (i : Fin 4) (rising : Bool) (quarter : Fin 4) (widthNs : BitVec 32)
  | capPop (r : Requester) (i : Fin 4)
  | carrierConfig (r : Requester) (c : CarrierNo) (v : BitVec 32)
  | carrierStart (c : CarrierNo)
  | gridEvent (c : CarrierNo)
  | timerArm (r : Requester) (k : Fin 32) (v : BitVec 32)
  | timerClearFlags (r : Requester) (k : Fin 32) (v : BitVec 32)
  | timerFire (k : Fin 32)
  -- Truss and Ledger (04)
  | doorbell (r : Requester) (q : QueueNo) (p : BitVec 32)
  | frameFetch (q : QueueNo)
  | frameAccepted (q : QueueNo)
  | admissionRoom (q : QueueNo)
  | taskDeadline (rec : RecNo)
  | taskGraceExpiry (rec : RecNo)
  | engineRequest (e : EngineNo)
  | taskFinishReport (c : Consumer) (rep : Report)
  | closureDurable (rec : RecNo)
  | completionDelivery (q : QueueNo)
  | deliveryRetry (q : QueueNo)
  | crConsWrite (r : Requester) (b : BayNo) (ring : Fin 16) (v : BitVec 32)
  | crCtlWrite (r : Requester) (b : BayNo) (ring : Fin 16) (v : BitVec 32)
  | cancel (r : Requester) (q : QueueNo) (seqLow : BitVec 32)
  | cancelAll (r : Requester) (q : QueueNo) (v : BitVec 32)
  | consumerDrain (r : Requester) (c : BitVec 8) (force : Bool)
  | consumerRejoin (r : Requester) (c : BitVec 8) (force : Bool)
  | drainComplete
  | queueConfig (r : Requester) (b : BayNo) (v : BitVec 32)
  | queueMove (q : QueueNo)
  | consumerFault (c : Consumer)
  | trussRebuild
  | ledgerMirrorFail (m : Fin 2)
  | ledgerResync
  | ldgRegionWrite (r : Requester) (b : BayNo) (v : BitVec 32)
  | ledgerRdFetch (r : Requester) (v : BitVec 32)
  -- Rafter scalar instructions (05). `c` is the core, `last` is bit 31 (the packet ends here).
  | add (c : CoreNo) (last : Bool) (f : RForm)
  | sub (c : CoreNo) (last : Bool) (f : RForm)
  | addH4 (c : CoreNo) (last : Bool) (f : RForm)
  | subH4 (c : CoreNo) (last : Bool) (f : RForm)
  | addW2 (c : CoreNo) (last : Bool) (f : RForm)
  | subW2 (c : CoreNo) (last : Bool) (f : RForm)
  | addQ (c : CoreNo) (last : Bool) (f : RForm)
  | subQ (c : CoreNo) (last : Bool) (f : RForm)
  | and (c : CoreNo) (last : Bool) (f : RForm)
  | or (c : CoreNo) (last : Bool) (f : RForm)
  | xor (c : CoreNo) (last : Bool) (f : RForm)
  | andn (c : CoreNo) (last : Bool) (f : RForm)
  | shl (c : CoreNo) (last : Bool) (f : RForm)
  | shr (c : CoreNo) (last : Bool) (f : RForm)
  | sar (c : CoreNo) (last : Bool) (f : RForm)
  | min (c : CoreNo) (last : Bool) (f : RForm)
  | max (c : CoreNo) (last : Bool) (f : RForm)
  | abs (c : CoreNo) (last : Bool) (f : RForm)
  | clrp (c : CoreNo) (last : Bool) (f : RForm)
  | mov (c : CoreNo) (last : Bool) (f : RForm)
  | cmpCc (c : CoreNo) (last : Bool) (f : RForm) (cond : BitVec 6)
  | addi (c : CoreNo) (last : Bool) (f : IForm)
  | andi (c : CoreNo) (last : Bool) (f : IForm)
  | shli (c : CoreNo) (last : Bool) (f : IForm)
  | shri (c : CoreNo) (last : Bool) (f : IForm)
  | sari (c : CoreNo) (last : Bool) (f : IForm)
  | movz (c : CoreNo) (last : Bool) (f : WForm)
  | movi (c : CoreNo) (last : Bool) (f : WForm)
  | mul (c : CoreNo) (last : Bool) (f : RForm)
  | mulh (c : CoreNo) (last : Bool) (f : RForm)
  | mulhu (c : CoreNo) (last : Bool) (f : RForm)
  | mulq15H4 (c : CoreNo) (last : Bool) (f : RForm)
  | mulq31W2 (c : CoreNo) (last : Bool) (f : RForm)
  | cmac (c : CoreNo) (last : Bool) (f : RForm)
  | cmul (c : CoreNo) (last : Bool) (f : RForm)
  | narrow (c : CoreNo) (last : Bool) (f : RForm)
  | bCc (c : CoreNo) (last : Bool) (f : BForm)
  | bl (c : CoreNo) (last : Bool) (f : BForm)
  | jr (c : CoreNo) (last : Bool) (f : RForm)
  | jrl (c : CoreNo) (last : Bool) (f : RForm)
  | loop (c : CoreNo) (last : Bool) (f : LForm)
  | take (c : CoreNo) (last : Bool) (f : RForm)
  | takeHandoff (c : CoreNo)
  | tend (c : CoreNo) (last : Bool) (f : RForm)
  | tendAck (c : CoreNo)
  | enq (c : CoreNo) (last : Bool) (f : RForm)
  | enqRetire (c : CoreNo)
  | mfc (c : CoreNo) (last : Bool) (f : IForm)
  | mtc (c : CoreNo) (last : Bool) (f : IForm)
  | syscall (c : CoreNo) (last : Bool) (f : IForm)
  | kcall (c : CoreNo) (last : Bool) (f : IForm)
  | bkpt (c : CoreNo) (last : Bool) (f : IForm)
  | eret (c : CoreNo) (last : Bool) (f : RForm)
  | wait (c : CoreNo) (last : Bool) (f : RForm)
  | isync (c : CoreNo) (last : Bool) (f : RForm)
  | fence (c : CoreNo) (last : Bool) (f : RForm)
  | nop (c : CoreNo) (last : Bool) (other : BitVec 23)
  | ld (c : CoreNo) (last : Bool) (f : MForm)
  | ldu (c : CoreNo) (last : Bool) (f : MForm)
  | st (c : CoreNo) (last : Bool) (f : MForm)
  | lda (c : CoreNo) (last : Bool) (f : MForm)
  | sta (c : CoreNo) (last : Bool) (f : MForm)
  | adda (c : CoreNo) (last : Bool) (f : MForm)
  | mova (c : CoreNo) (last : Bool) (f : MForm)
  | movg (c : CoreNo) (last : Bool) (f : MForm)
  -- Core events (05)
  | interruptTaken (c : CoreNo)
  | coreTimerMatch (c : CoreNo)
  | mailboxWrite (r : Requester) (c : CoreNo) (v : BitVec 32)
  | taskAbandon (c : CoreNo) (why : AbandonCause)
  | abandonException (c : CoreNo)
  | storeError (c : CoreNo) (addr : BitVec 48)
  | externalCoreAccess (r : Requester) (c : CoreNo) (off : BitVec 19) (size : AccessSize) (write : Bool) (v : BitVec 64) (waited : BitVec 16)
  | memHoldEnd (c : CoreNo)
  | coreRun (r : Requester) (c : CoreNo) (run : Bool)
  | coreHalt (r : Requester) (c : CoreNo) (halt : Bool)
  | coreStart (c : CoreNo)
  -- Rafter vector instructions (06)
  | vadd (c : CoreNo) (last : Bool) (f : VForm)
  | vsub (c : CoreNo) (last : Bool) (f : VForm)
  | vneg (c : CoreNo) (last : Bool) (f : VForm)
  | vabs (c : CoreNo) (last : Bool) (f : VForm)
  | vmin (c : CoreNo) (last : Bool) (f : VForm)
  | vmax (c : CoreNo) (last : Bool) (f : VForm)
  | vand (c : CoreNo) (last : Bool) (f : VForm)
  | vor (c : CoreNo) (last : Bool) (f : VForm)
  | vxor (c : CoreNo) (last : Bool) (f : VForm)
  | vbic (c : CoreNo) (last : Bool) (f : VForm)
  | vshl (c : CoreNo) (last : Bool) (f : VForm)
  | vshr (c : CoreNo) (last : Bool) (f : VForm)
  | vsar (c : CoreNo) (last : Bool) (f : VForm)
  | vrsar (c : CoreNo) (last : Bool) (f : VForm)
  | vqdmulh (c : CoreNo) (last : Bool) (f : VForm)
  | vcmul (c : CoreNo) (last : Bool) (f : VForm)
  | vcmac (c : CoreNo) (last : Bool) (f : VForm)
  | vmac (c : CoreNo) (last : Bool) (f : VForm)
  | vmac2 (c : CoreNo) (last : Bool) (f : VForm)
  | vmclr (c : CoreNo) (last : Bool) (f : VForm)
  | vnarrow (c : CoreNo) (last : Bool) (f : VForm)
  | vnarw (c : CoreNo) (last : Bool) (f : VForm)
  | vmfm (c : CoreNo) (last : Bool) (f : VForm)
  | vmtm (c : CoreNo) (last : Bool) (f : VForm)
  | vcmpEq (c : CoreNo) (last : Bool) (f : VForm)
  | vcmpNe (c : CoreNo) (last : Bool) (f : VForm)
  | vcmpLt (c : CoreNo) (last : Bool) (f : VForm)
  | vcmpLe (c : CoreNo) (last : Bool) (f : VForm)
  | vcmpLtu (c : CoreNo) (last : Bool) (f : VForm)
  | vcmpLeu (c : CoreNo) (last : Bool) (f : VForm)
  | vsel (c : CoreNo) (last : Bool) (f : VForm)
  | vdup (c : CoreNo) (last : Bool) (f : VForm)
  | vradd (c : CoreNo) (last : Bool) (f : VForm)
  | vperm (c : CoreNo) (last : Bool) (f : VForm)
  | vspan (c : CoreNo) (last : Bool) (f : VForm)
  | vlanes (c : CoreNo) (last : Bool) (f : VForm)
  | mkall (c : CoreNo) (last : Bool) (f : VForm)
  | mkand (c : CoreNo) (last : Bool) (f : VForm)
  | mkor (c : CoreNo) (last : Bool) (f : VForm)
  | mkbic (c : CoreNo) (last : Bool) (f : VForm)
  | mkcnt (c : CoreNo) (last : Bool) (f : VForm)
  | mktov (c : CoreNo) (last : Bool) (f : VForm)
  | vtomk (c : CoreNo) (last : Bool) (f : VForm)
  | runset (c : CoreNo) (last : Bool) (f : VForm)
  | runmk (c : CoreNo) (last : Bool) (f : VForm)
  | runput (c : CoreNo) (last : Bool) (f : VForm)
  | runget (c : CoreNo) (last : Bool) (f : VForm)
  | vld (c : CoreNo) (last : Bool) (f : VMForm)
  | vst (c : CoreNo) (last : Bool) (f : VMForm)
  | vsplit2 (c : CoreNo) (last : Bool) (f : VMForm)
  | vsplit3 (c : CoreNo) (last : Bool) (f : VMForm)
  | vsplit4 (c : CoreNo) (last : Bool) (f : VMForm)
  | vweave2 (c : CoreNo) (last : Bool) (f : VMForm)
  | vweave3 (c : CoreNo) (last : Bool) (f : VMForm)
  | vweave4 (c : CoreNo) (last : Bool) (f : VMForm)
  | vgath (c : CoreNo) (last : Bool) (f : VMForm)
  | vscat (c : CoreNo) (last : Bool) (f : VMForm)
  -- Dowels (06)
  | cmr (c : CoreNo) (last : Bool) (f : VForm) (op2 : BitVec 2)
  | rsq (c : CoreNo) (last : Bool) (f : VForm)
  | divSigned (c : CoreNo) (last : Bool) (f : VForm)
  | divUnsigned (c : CoreNo) (last : Bool) (f : VForm)
  | divQ31 (c : CoreNo) (last : Bool) (f : VForm)
  | atn (c : CoreNo) (last : Bool) (f : VForm)
  | gld (c : CoreNo) (last : Bool) (f : VForm)
  | gldInit (c : CoreNo) (last : Bool) (f : VForm)
  | crc (c : CoreNo) (last : Bool) (f : VForm) (op2 : BitVec 2)
  | hiv (c : CoreNo) (last : Bool) (f : VForm)
  | llr (c : CoreNo) (last : Bool) (f : VForm) (op2 : BitVec 2)
  | brvBits (c : CoreNo) (last : Bool) (f : VForm)
  | brvIndex (c : CoreNo) (last : Bool) (f : VForm)
  | brvTranspose (c : CoreNo) (last : Bool) (f : VForm)
  | lxpLog2 (c : CoreNo) (last : Bool) (f : VForm)
  | lxpExp2 (c : CoreNo) (last : Bool) (f : VForm)
  | srt (c : CoreNo) (last : Bool) (f : VForm)
  | dowelResult (c : CoreNo) (hiv : Bool)
  -- Mortise engines (07, 08)
  | fftFwdCp (e : Fin 7)
  | fftInvCp (e : Fin 7)
  | fftFwd (e : Fin 7)
  | fftInv (e : Fin 7)
  | bfmPrecode (e : Fin 9)
  | bfmCombine (e : Fin 9)
  | detWMmse (e : Fin 9)
  | detWIrc (e : Fin 9)
  | detApply (e : Fin 9)
  | praDetect (e : Fin 3)
  | lddDecode (e : Fin 13)
  | ldeLdpcEnc (e : Fin 7)
  | ldeTurboEnc (e : Fin 7)
  | plrEncode (e : Fin 5)
  | plrDecode (e : Fin 5)
  | trbDecode (e : Fin 5)
  | hqRmLdpc (e : Fin 9)
  | hqRmTurbo (e : Fin 9)
  | hqDrmLdpc (e : Fin 9)
  | hqDrmTurbo (e : Fin 9)
  | engineJobFinish (e : EngineNo)
  | engineFault (e : EngineNo) (unit : BitVec 32)
  | engineAbandon (e : EngineNo)
  | hqCacheInv (r : Requester) (i : Fin 9) (v : BitVec 32)
  -- AIR mapper and demapper (09)
  | airProducerStore (r : Requester) (ch : CoreNo) (p : BitVec 32)
  | airMap (ch : CoreNo)
  | airDemap (ch : CoreNo)
  | airMeasure (ch : CoreNo)
  | airLoad (ch : CoreNo)
  | airJobComplete (ch : CoreNo)
  | airPurge (ch : CoreNo)
  | airLaneFault (demap : Bool) (lane : Fin 3)
  -- Tysar link (09)
  | tysTxBuild (l : LinkNo) (f : BitVec 32)
  | tysSyncRecognised (l : LinkNo) (f : BitVec 32) (w : SyncWord)
  | tysCapture (l : LinkNo) (f : BitVec 32) (w : SyncWord)
  | tysHeaderChecked (l : LinkNo) (w0 w1 w2 : BitVec 64) (crc : BitVec 32) (cfo : BitVec 32)
  | tysFrameEnd (l : LinkNo)
  | tysJoinStart (r : Requester) (v : BitVec 32)
  | tysJoinSend
  | tysJoinTimeout
  | tysJoinAbort (r : Requester) (v : BitVec 32)
  | tysNrsDetect (l : LinkNo) (f : BitVec 32) (nId2 : BitVec 2) (w : SyncWord) (cfo : BitVec 32)
  -- Loft, Shim table and Plane scrubber (10)
  | lftWinWrite (r : Requester) (w : Fin 64) (sizeReg : Bool) (v : BitVec 32)
  | verifyRead (m : MemId)
  | scrubRead (m : MemId)
  | scrubWriteback (g : Fin 10)
  | wipeDone (m : MemId)
  -- Host accesses through the BARs (14)
  | hostBar0Access (h : HostNo) (fn : FnNo) (off : BitVec 32) (size : AccessSize) (write : Bool) (v : BitVec 64)
  | hostBar2Access (h : HostNo) (fn : FnNo) (off : BitVec 48) (len : BitVec 7) (write : Bool) (v : BitVec 512)
  | hostBar4Access (h : HostNo) (fn : FnNo) (off : BitVec 48) (len : BitVec 7) (write : Bool) (v : BitVec 512)
  -- DRAM controller (11)
  | dramRequest (r : Requester) (addr : BitVec 48) (len : BitVec 7) (write : Bool) (data : BitVec 512)
  | dramReadReturn (ch : ChanNo)
  | writeBatchStart (ch : ChanNo)
  | readAgeExpiry (ch : ChanNo)
  | dramRefresh (ch : ChanNo) (bank : Fin 32)
  | dramTempRead (ch : ChanNo) (code : BitVec 5) (outOfRange : Bool)
  | dramRetrain (ch : ChanNo) (ok : Bool)
  | channelFailed (ch : ChanNo)
  | drcWinWrite (r : Requester) (w : Fin 32) (sizeReg : Bool) (v : BitVec 32)
  | srKeepWrite (r : Requester) (h : Fin 2) (v : BitVec 32)
  -- Skid DMA engines (12)
  | skidGo (r : Requester) (ch : SkidNo) (v : BitVec 32)
  | skidAbort (r : Requester) (ch : SkidNo) (v : BitVec 32)
  | skidResume (r : Requester) (ch : SkidNo) (v : BitVec 32)
  | skidSkip (r : Requester) (ch : SkidNo) (v : BitVec 32)
  | skidSwTrig (r : Requester) (ch : SkidNo) (v : BitVec 32)
  | skidTrigger (ch : SkidNo) (kind : BitVec 2) (src : BitVec 6)
  | skidDescFetch (ch : SkidNo)
  | skidDescEnd (ch : SkidNo)
  | skidSubmitResult (ch : SkidNo)
  | skidHalt (ch : SkidNo) (addr : BitVec 48) (dir : Bool) (kind : BitVec 3) (more : Bool)
  -- Scarf and Peg lanes (13)
  | laneEnable (r : Requester) (l : LaneNo) (v : BitVec 32)
  | laneDisable (r : Requester) (l : LaneNo) (v : BitVec 32)
  | laneRestart (r : Requester) (l : LaneNo) (v : BitVec 32)
  | laneTest (r : Requester) (l : LaneNo) (v : BitVec 32)
  | laneProtoWrite (r : Requester) (l : LaneNo) (v : BitVec 32)
  | tableLoadDone (l : LaneNo)
  | seqActionSuccess (l : LaneNo) (info : BitVec 8)
  | seqActionFail (l : LaneNo)
  | linkDrop (l : LaneNo) (cause : BitVec 4)
  | quadPllLoss (q : PllNo)
  | pllRelockAttempt (q : PllNo) (ok : Bool)
  | prbsClear (r : Requester) (l : LaneNo) (v : BitVec 32)
  | prbsLockLoss (l : LaneNo)
  | eyeStart (r : Requester) (l : LaneNo) (v : BitVec 32)
  | eyeDone (l : LaneNo)
  | perstChange (h : HostNo) (asserted : Bool)
  -- Girt switch (14)
  | frameReceived (p : Fin 40) (f : RxFrame)
  | receiveWindowOpen (fg : FlowNo) (slot : BitVec 32) (symbol : BitVec 4)
  | receiveWindowClose (fg : FlowNo)
  | gclAnchor (p : Fin 40) (slot : BitVec 32) (symbol : BitVec 4)
  | gclIntervalEnd (p : Fin 40)
  | txSectionsBuild (fg : FlowNo)
  | txFrameSent (p : Fin 40)
  | txRingProducer (r : Requester) (b : BayNo) (ring : Fin 16) (v : BitVec 32)
  | clsWrite (r : Requester) (v : BitVec 32)
  | clsRead (r : Requester) (v : BitVec 32)
  | clsDelete (r : Requester) (v : BitVec 32)
  | fgWrite (r : Requester) (v : BitVec 32)
  | fgRead (r : Requester) (v : BitVec 32)
  | fgDelete (r : Requester) (v : BitVec 32)
  | gclSwap (r : Requester) (p : Fin 40) (v : BitVec 32)
  | portCfgWrite (r : Requester) (p : Fin 40) (v : BitVec 32)
  -- Host attachment and Bays (14)
  | fnCfgWrite (r : Requester) (h : HostNo) (v : BitVec 32)
  | bayIrqWrite (r : Requester) (b : BayNo) (v : BitVec 32)
  | hostWindowRequest (r : Requester) (addr : BitVec 48) (len : BitVec 7) (write : Bool) (data : BitVec 512)
  | hostCompletion (h : HostNo) (status : CplStatus) (data : BitVec 512)
  | hostCompletionTimeout (h : HostNo)
  | functionLevelReset (h : HostNo) (kind : FnReset)
  | bayBentsWrite (r : Requester) (b : BayNo) (v : BitVec 32)
  | bentMoveDone (b : BentNo)
  | bayEngWrite (r : Requester) (b : BayNo) (cls : Fin 9) (v : BitVec 32)
  | bayReset (r : Requester) (b : BayNo) (onBay0Page : Bool) (v : BitVec 32)
  | bayResetDone (b : BayNo)
  -- Clocks, resets, boot and life cycle (15)
  | refclkLoss
  | crossingHold (isl : IslandNo)
  | quarantineEntry (isl : IslandNo) (qcause : BitVec 2)
  | islandReset (r : Requester) (v : BitVec 32)
  | islandResetDone (isl : IslandNo)
  | warmReset (pin : Bool) (r : Requester) (v : BitVec 32)
  | coldReset (powerOn : Bool) (bootSel : BitVec 2) (lcStrap : BitVec 3)
  | hostBootGo (r : Requester) (v : BitVec 32)
  | hostBootTimeout
  | lcTransitionGo (r : Requester) (v : BitVec 32)
  | routerDown (n : RouterNo)
  | rerouteComplete
  | purlinTimeout (r : Requester) (router : RouterNo) (hostTarget : Bool)
  | pllPartnerTakeover (isl : IslandNo)
  -- Power states, profiles and wake (16)
  | pwrDevRequest (r : Requester) (v : BitVec 32)
  | pwrIslRequest (r : Requester) (v : BitVec 32)
  | powerTransitionDone (isl : Option IslandNo)
  | powerEntryAbort (cause : BitVec 2)
  | trimGate (isl : IslandNo)
  | trimUngate (rec : RecNo)
  | deviceWake (source : WakeSource) (detail : BitVec 12)
  | wakePin (k : Fin 8) (high : Bool) (widthNs : BitVec 32)
  | carrierSleepRequest (r : Requester) (v : BitVec 32)
  | carrierSleepBoundary (c : CarrierNo)
  | profileSwitch (r : Requester) (v : BitVec 32)
  | profileSwitchDone
  | avsAdjust (lowestMv : BitVec 10)
  -- Gauge monitor ADC (17)
  | gaugeSwStart (r : Requester) (v : BitVec 32)
  | gaugeTrigger (timer : Fin 32)
  | conversionEnd (code owCode : BitVec 16) (quarter : Fin 4)
  -- Faults, sparing and service (18)
  | spareStandIn (e : EngineNo)
  | coreSpareStart (c : CoreNo)
  | faultLogFetch (r : Requester) (v : BitVec 32)
  | serviceClear (r : Requester) (v : BitVec 32)
  -- Further events (13, 14, 15, 19, 05)
  | prbsCheckerLock (l : LaneNo)
  | quadPllLock (q : PllNo)
  | hostConfigWrite (h : HostNo) (fn : FnNo) (w : ConfigWrite)
  | smbusReadWord (addr : BitVec 7) (cmd : BitVec 8) (write : Bool)
  | jtagTapAccess (instr : JtagInstr) (scanIn : BitVec 64)
  | resetNAssert (widthNs : BitVec 32)
  | refclkRestored
  | memHoldDeferredStart (c : CoreNo)
  deriving DecidableEq, Repr

end Sys2Proof
end

