-- ==== Sys2Proof/Decode.lean ====
section
/-! DEFINITION. The decoder of the opcode table's words: no row of the table gives bits (every row's field list is
empty), so no word spells a command. -/

namespace Sys2Proof

/-- The command that a word of `nbits` bits spells by the table's bits: the table gives none. [log 2] -/
def decodeTableWord (_nbits _w : Nat) : Option Instr := none

end Sys2Proof
end

