-- ==== Sys2Proof/Config.lean ====
section
/-! DEFINITION. What an implementation fixes, and the free values: constants without a body, so that no proof can
see a value the spec leaves open. -/

namespace Sys2Proof.Config

/-- A value the spec leaves open, applied to the model's counter of free values taken. [log 5] -/
opaque freeWord : Nat → BitVec 64

/-- A byte of a host's own memory, as the device reads it through a host window: counter, host, host address. [log 13] -/
opaque hostByte : Nat → Nat → Nat → BitVec 8

/-- A byte that the rules leave undefined: counter, offset. [log 5] -/
opaque freeByte : Nat → Nat → BitVec 8

/-- SHA-384 as the extend operation of R412 uses it: old measurement and digest to the new measurement. [log 102] -/
opaque sha384 : List (BitVec 32) → List (BitVec 32) → List (BitVec 32)

/-- The part of a fixed unit's result that the spec leaves open: which unit, then its inputs. A fixed unit holds no
state, so the same inputs give the same value. [log 6] -/
opaque unit : Nat → List Nat → Nat

end Sys2Proof.Config
end

