-- ==== Sys2Proof/Machine/RegAddr.lean ====
section
/-! DEFINITION. Addresses of the registers: byte offsets in the register window (02), from the page map and from each
chapter's register table. An array takes its page's index first, then the index in the page. -/

namespace Sys2Proof.Machine

abbrev GLB_PART : Nat := 0x100
abbrev GLB_FW_VER : Nat := 0x104
abbrev GLB_CFG_VER : Nat := 0x108
abbrev GLB_UNITS : Nat := 0x10C
abbrev GLB_SCRATCH (i : Nat) : Nat := 0x120 + 0x4 * i
abbrev BNT_STAT (n : Nat) : Nat := 0x40100 + 0x1000 * n
abbrev BNT_CLK (n : Nat) : Nat := 0x40104 + 0x1000 * n
abbrev BNT_TAKE_CNT (n : Nat) : Nat := 0x40108 + 0x1000 * n
abbrev BNT_GATE_CNT (n : Nat) : Nat := 0x4010C + 0x1000 * n
abbrev PLT_FW_STAT : Nat := 0x8100
abbrev PLT_HEARTBEAT : Nat := 0x8104
abbrev SCB_HEAD_SEQ_LO : Nat := 0x4100
abbrev SCB_HEAD_SEQ_HI : Nat := 0x4104
abbrev SCB_REFUSE_CNT (i : Nat) : Nat := 0x4110 + 0x4 * i
abbrev SCB_STALL_CNT : Nat := 0x4130
abbrev SCB_RD_SEQ_LO (i : Nat) : Nat := 0x4200 + 0x40 * i
abbrev SCB_RD_SEQ_HI (i : Nat) : Nat := 0x4204 + 0x40 * i
abbrev SCB_RD_DATA (i j : Nat) : Nat := 0x4210 + 0x40 * i + 0x4 * j
abbrev RDG_TIME_NS : Nat := 0x10100
abbrev RDG_TIME_FRAC : Nat := 0x10104
abbrev RDG_TIME_SEC_LO : Nat := 0x10108
abbrev RDG_TIME_SEC_HI : Nat := 0x1010C
abbrev RDG_RATE_LO : Nat := 0x10110
abbrev RDG_RATE_HI : Nat := 0x10114
abbrev RDG_ADJ_NS : Nat := 0x10120
abbrev RDG_ADJ_FRAC : Nat := 0x10124
abbrev RDG_ADJ_SEC_LO : Nat := 0x10128
abbrev RDG_ADJ_SEC_HI : Nat := 0x1012C
abbrev RDG_STEP_LIMIT : Nat := 0x10130
abbrev RDG_SLEW_MAX : Nat := 0x10134
abbrev RDG_SERVO_CTL : Nat := 0x10138
abbrev RDG_SERVO_STAT : Nat := 0x1013C
abbrev RDG_JUMP_VAL_LO : Nat := 0x10140
abbrev RDG_JUMP_VAL_HI : Nat := 0x10144
abbrev RDG_JUMP_CNT : Nat := 0x10148
abbrev RDG_PENDING_SLEW : Nat := 0x1014C
abbrev RDG_SKIP_CNT : Nat := 0x10150
abbrev RDG_NODE_ID : Nat := 0x10154
abbrev RDG_UTC : Nat := 0x10158
abbrev RDG_HOLD_CFG : Nat := 0x1015C
abbrev RDG_DPLL_CTL : Nat := 0x11100
abbrev RDG_SRC_PRIO : Nat := 0x11104
abbrev RDG_SYNCE_SEL : Nat := 0x11108
abbrev RDG_SRC_STAT : Nat := 0x1110C
abbrev RDG_SRC_FOFF (i : Nat) : Nat := 0x11110 + 0x4 * i
abbrev RDG_QUAL_CFG : Nat := 0x11120
abbrev RDG_PORT_CAL_RX (i : Nat) : Nat := 0x12100 + 0x8 * i
abbrev RDG_PORT_CAL_TX (i : Nat) : Nat := 0x12104 + 0x8 * i
abbrev RDG_TXS_SEL : Nat := 0x12300
abbrev RDG_TXS_NS : Nat := 0x12304
abbrev RDG_TXS_FRAC : Nat := 0x12308
abbrev RDG_TXS_SEC_LO : Nat := 0x1230C
abbrev RDG_TXS_SEC_HI : Nat := 0x12310
abbrev RDG_TXS_TAG : Nat := 0x12314
abbrev RDG_TXS_OVF_CNT : Nat := 0x12318
abbrev RDG_PPSO_CTL (i : Nat) : Nat := 0x13100 + 0x10 * i
abbrev RDG_PPSO_DLY (i : Nat) : Nat := 0x13104 + 0x10 * i
abbrev RDG_PPSI_CTL (i : Nat) : Nat := 0x13120 + 0x10 * i
abbrev RDG_PPSI_DLY (i : Nat) : Nat := 0x13124 + 0x10 * i
abbrev RDG_TOD_CTL : Nat := 0x13140
abbrev RDG_CAP_CTL (i : Nat) : Nat := 0x13180 + 0x20 * i
abbrev RDG_CAP_NS (i : Nat) : Nat := 0x13184 + 0x20 * i
abbrev RDG_CAP_FRAC (i : Nat) : Nat := 0x13188 + 0x20 * i
abbrev RDG_CAP_SEC_LO (i : Nat) : Nat := 0x1318C + 0x20 * i
abbrev RDG_CAP_SEC_HI (i : Nat) : Nat := 0x13190 + 0x20 * i
abbrev RDG_CAR_CFG (c : Nat) : Nat := 0x14100 + 0x1000 * (c / 128) + 0x10 * (c % 128)
abbrev RDG_CAR_OFFS (c : Nat) : Nat := 0x14104 + 0x1000 * (c / 128) + 0x10 * (c % 128)
abbrev RDG_CAR_POS (c : Nat) : Nat := 0x14108 + 0x1000 * (c / 128) + 0x10 * (c % 128)
abbrev RDG_CAR_SLOT (c : Nat) : Nat := 0x1410C + 0x1000 * (c / 128) + 0x10 * (c % 128)
abbrev RDG_VIEW_SERVO (b : Nat) : Nat := 0x16110 + 0x1000 * b
abbrev RDG_VIEW_CARQ (b : Nat) : Nat := 0x16120 + 0x1000 * b
abbrev RDG_VIEW_POS (b : Nat) : Nat := 0x16124 + 0x1000 * b
abbrev RDG_VIEW_SLOT (b : Nat) : Nat := 0x16128 + 0x1000 * b
abbrev RDG_EVT_CTL (b i : Nat) : Nat := 0x16200 + 0x1000 * b + 0x20 * i
abbrev RDG_EVT_T_NS (b i : Nat) : Nat := 0x16204 + 0x1000 * b + 0x20 * i
abbrev RDG_EVT_T_SEC_LO (b i : Nat) : Nat := 0x16208 + 0x1000 * b + 0x20 * i
abbrev RDG_EVT_T_SEC_HI (b i : Nat) : Nat := 0x1620C + 0x1000 * b + 0x20 * i
abbrev RDG_EVT_PERIOD (b i : Nat) : Nat := 0x16210 + 0x1000 * b + 0x20 * i
abbrev RDG_EVT_CNT (b i : Nat) : Nat := 0x16214 + 0x1000 * b + 0x20 * i
abbrev TRS_CTL : Nat := 0x20100
abbrev TRS_EPOCH : Nat := 0x20104
abbrev TRS_STAT : Nat := 0x20108
abbrev TRS_ACCEPT_CNT : Nat := 0x20110
abbrev TRS_REFUSE_CNT : Nat := 0x20114
abbrev TRS_DISPATCH_CNT : Nat := 0x20118
abbrev TRS_LAPSE_CNT : Nat := 0x2011C
abbrev TRS_RERUN_CNT : Nat := 0x20120
abbrev TRS_STALE_CNT : Nat := 0x20124
abbrev TRS_DRAIN : Nat := 0x20140
abbrev TRS_QSEL (b : Nat) : Nat := 0x28100 + 0x1000 * b
abbrev TRS_Q_CFG (b : Nat) : Nat := 0x28104 + 0x1000 * b
abbrev TRS_Q_DEPTH (b : Nat) : Nat := 0x28108 + 0x1000 * b
abbrev TRS_Q_SRING_LO (b : Nat) : Nat := 0x28110 + 0x1000 * b
abbrev TRS_Q_SRING_HI (b : Nat) : Nat := 0x28114 + 0x1000 * b
abbrev TRS_Q_CBLK_LO (b : Nat) : Nat := 0x28118 + 0x1000 * b
abbrev TRS_Q_CBLK_HI (b : Nat) : Nat := 0x2811C + 0x1000 * b
abbrev TRS_Q_LIVE (b : Nat) : Nat := 0x28120 + 0x1000 * b
abbrev TRS_Q_SEQ_LO (b : Nat) : Nat := 0x28124 + 0x1000 * b
abbrev TRS_Q_SEQ_HI (b : Nat) : Nat := 0x28128 + 0x1000 * b
abbrev TRS_Q_STAT (b : Nat) : Nat := 0x2812C + 0x1000 * b
abbrev TRS_CR_LO (b i : Nat) : Nat := 0x28200 + 0x1000 * b + 0x20 * i
abbrev TRS_CR_HI (b i : Nat) : Nat := 0x28204 + 0x1000 * b + 0x20 * i
abbrev TRS_CR_CBLK_LO (b i : Nat) : Nat := 0x28208 + 0x1000 * b + 0x20 * i
abbrev TRS_CR_CBLK_HI (b i : Nat) : Nat := 0x2820C + 0x1000 * b + 0x20 * i
abbrev TRS_CR_CTL (b i : Nat) : Nat := 0x28210 + 0x1000 * b + 0x20 * i
abbrev TRS_CR_CONS (b i : Nat) : Nat := 0x28214 + 0x1000 * b + 0x20 * i
abbrev TRS_CR_PROD (b i : Nat) : Nat := 0x28218 + 0x1000 * b + 0x20 * i
abbrev TRS_DB (q : Nat) : Nat := 0x1000100 + 0x1000 * q
abbrev TRS_DB_CANCEL (q : Nat) : Nat := 0x1000104 + 0x1000 * q
abbrev TRS_DB_CANCEL_ALL (q : Nat) : Nat := 0x1000108 + 0x1000 * q
abbrev TRS_DB_FETCH (q : Nat) : Nat := 0x100010C + 0x1000 * q
abbrev LDG_M0_LO : Nat := 0x30100
abbrev LDG_M0_HI : Nat := 0x30104
abbrev LDG_M1_LO : Nat := 0x30108
abbrev LDG_M1_HI : Nat := 0x3010C
abbrev LDG_STAT : Nat := 0x30110
abbrev LDG_RESYNC_POS : Nat := 0x30114
abbrev LDG_CE_CNT : Nat := 0x30118
abbrev LDG_UE_CNT : Nat := 0x3011C
abbrev LDG_REGION (i : Nat) : Nat := 0x30140 + 0x8 * i
abbrev LDG_FREE (i : Nat) : Nat := 0x30144 + 0x8 * i
abbrev LDG_RD_IDX : Nat := 0x31100
abbrev LDG_RD_STAT : Nat := 0x31104
abbrev LDG_RD_DATA (i : Nat) : Nat := 0x31140 + 0x4 * i
abbrev RFT_RUN (n : Nat) : Nat := 0x80100 + 0x1000 * n
abbrev RFT_BOOT_LO (n : Nat) : Nat := 0x80108 + 0x1000 * n
abbrev RFT_BOOT_HI (n : Nat) : Nat := 0x8010C + 0x1000 * n
abbrev RFT_BOOT_LEN (n : Nat) : Nat := 0x80110 + 0x1000 * n
abbrev RFT_BOOT_ENT (n : Nat) : Nat := 0x80114 + 0x1000 * n
abbrev RFT_STAT (n : Nat) : Nat := 0x80118 + 0x1000 * n
abbrev RFT_TASK_IDX (n : Nat) : Nat := 0x8011C + 0x1000 * n
abbrev RFT_LAST_EXC (n : Nat) : Nat := 0x80120 + 0x1000 * n
abbrev RFT_CYCLE_LO (n : Nat) : Nat := 0x80128 + 0x1000 * n
abbrev RFT_CYCLE_HI (n : Nat) : Nat := 0x8012C + 0x1000 * n
abbrev RFT_INSTRET_LO (n : Nat) : Nat := 0x80130 + 0x1000 * n
abbrev RFT_INSTRET_HI (n : Nat) : Nat := 0x80134 + 0x1000 * n
abbrev RFT_STEAL_CNT (n : Nat) : Nat := 0x80140 + 0x1000 * n
abbrev RFT_HOLD_CNT (n : Nat) : Nat := 0x80144 + 0x1000 * n
abbrev RFT_MISPRED_CNT (n : Nat) : Nat := 0x80148 + 0x1000 * n
abbrev RFT_STALL_CNT (n : Nat) : Nat := 0x8014C + 0x1000 * n
abbrev RFT_IMAGE_CNT (n : Nat) : Nat := 0x80150 + 0x1000 * n
abbrev RFT_STORE_ERR_CNT (n : Nat) : Nat := 0x80154 + 0x1000 * n
abbrev RFT_MAILBOX (n : Nat) : Nat := 0x80158 + 0x1000 * n
abbrev MRT_STAT (e : Nat) : Nat := 0x100100 + 0x1000 * e
abbrev MRT_TASK (e : Nat) : Nat := 0x100104 + 0x1000 * e
abbrev MRT_JOB_CNT (e : Nat) : Nat := 0x100108 + 0x1000 * e
abbrev MRT_DESC_ERR_CNT (e : Nat) : Nat := 0x10010C + 0x1000 * e
abbrev MRT_IN_ERR_CNT (e : Nat) : Nat := 0x100110 + 0x1000 * e
abbrev MRT_OUT_ERR_CNT (e : Nat) : Nat := 0x100114 + 0x1000 * e
abbrev MRT_FAULT_CNT (e : Nat) : Nat := 0x100118 + 0x1000 * e
abbrev MRT_ABANDON_CNT (e : Nat) : Nat := 0x10011C + 0x1000 * e
abbrev MRT_SAT_CNT (e : Nat) : Nat := 0x100120 + 0x1000 * e
abbrev MRT_LAST_CYC (e : Nat) : Nat := 0x100124 + 0x1000 * e
abbrev MRT_BUSY_LO (e : Nat) : Nat := 0x100128 + 0x1000 * e
abbrev MRT_BUSY_HI (e : Nat) : Nat := 0x10012C + 0x1000 * e
abbrev MRT_FFT_CP (e i : Nat) : Nat := 0x100400 + 0x1000 * e + 0x10 * i
abbrev MRT_FFT_CP_RULE (e i : Nat) : Nat := 0x100404 + 0x1000 * e + 0x10 * i
abbrev MRT_FFT_WIN (e i j : Nat) : Nat := 0x100600 + 0x1000 * e + 0x80 * i + 0x4 * j
abbrev MRT_PRA_CAPTURE_DB (e : Nat) : Nat := 0x100400 + 0x1000 * e
abbrev MRT_PRA_CAPT_CNT (e : Nat) : Nat := 0x100404 + 0x1000 * e
abbrev MRT_PRA_COLL_CNT (e : Nat) : Nat := 0x100408 + 0x1000 * e
abbrev MRT_PRA_DET_CNT (e : Nat) : Nat := 0x10040C + 0x1000 * e
abbrev MRT_LDD_CB_CNT (e : Nat) : Nat := 0x100400 + 0x1000 * e
abbrev MRT_LDD_CB_FAIL_CNT (e : Nat) : Nat := 0x100404 + 0x1000 * e
abbrev MRT_LDD_ITER_CNT (e : Nat) : Nat := 0x100408 + 0x1000 * e
abbrev MRT_LDD_MAXIT_CNT (e : Nat) : Nat := 0x10040C + 0x1000 * e
abbrev MRT_LDE_CB_CNT (e : Nat) : Nat := 0x100400 + 0x1000 * e
abbrev MRT_PLR_ENC_CNT (e : Nat) : Nat := 0x100400 + 0x1000 * e
abbrev MRT_PLR_DEC_CNT (e : Nat) : Nat := 0x100404 + 0x1000 * e
abbrev MRT_PLR_CRC_FAIL_CNT (e : Nat) : Nat := 0x100408 + 0x1000 * e
abbrev MRT_TRB_CB_CNT (e : Nat) : Nat := 0x100400 + 0x1000 * e
abbrev MRT_TRB_CB_FAIL_CNT (e : Nat) : Nat := 0x100404 + 0x1000 * e
abbrev MRT_TRB_ITER_CNT (e : Nat) : Nat := 0x100408 + 0x1000 * e
abbrev MRT_TRB_MAXIT_CNT (e : Nat) : Nat := 0x10040C + 0x1000 * e
abbrev MRT_HQ_TAG_MISS_CNT (e : Nat) : Nat := 0x100400 + 0x1000 * e
abbrev MRT_HQ_HIT_CNT (e : Nat) : Nat := 0x100404 + 0x1000 * e
abbrev MRT_HQ_MISS_CNT (e : Nat) : Nat := 0x100408 + 0x1000 * e
abbrev MRT_HQ_INV (e : Nat) : Nat := 0x10040C + 0x1000 * e
abbrev AIR_STAT : Nat := 0x3A0100
abbrev AIR_JOB_CNT : Nat := 0x3A0104
abbrev AIR_STALE_CNT : Nat := 0x3A0108
abbrev AIR_ERR_CNT : Nat := 0x3A010C
abbrev AIR_SAT_CNT : Nat := 0x3A0110
abbrev AIR_PURGE_CNT : Nat := 0x3A0114
abbrev AIR_PROD_ERR_CNT : Nat := 0x3A0118
abbrev AIR_STEP (i : Nat) : Nat := 0x3A0204 + 0x4 * i
abbrev AIR_CHSEL (b : Nat) : Nat := 0x3A1100 + 0x1000 * b
abbrev AIR_CH_RING_LO (b : Nat) : Nat := 0x3A1104 + 0x1000 * b
abbrev AIR_CH_RING_HI (b : Nat) : Nat := 0x3A1108 + 0x1000 * b
abbrev AIR_CH_CTL (b : Nat) : Nat := 0x3A110C + 0x1000 * b
abbrev AIR_CH_STAT (b : Nat) : Nat := 0x3A1110 + 0x1000 * b
abbrev AIR_CH_FETCH (b : Nat) : Nat := 0x3A1114 + 0x1000 * b
abbrev TYS_CTL : Nat := 0x3B0100
abbrev TYS_SYNC_LO : Nat := 0x3B0104
abbrev TYS_SYNC_HI : Nat := 0x3B0108
abbrev TYS_SYNC_CFG : Nat := 0x3B010C
abbrev TYS_CAPTURE_DB : Nat := 0x3B0110
abbrev TYS_NRS_CAPTURE_DB : Nat := 0x3B0114
abbrev TYS_FREQ_SEL : Nat := 0x3B0118
abbrev TYS_FREQ_CFG : Nat := 0x3B011C
abbrev TYS_JOIN_CTL : Nat := 0x3B0120
abbrev TYS_JOIN_STAT : Nat := 0x3B0124
abbrev TYS_STR_SEL : Nat := 0x3B0128
abbrev TYS_STR_CNT : Nat := 0x3B012C
abbrev TYS_TAB_BASE_LO : Nat := 0x3B0150
abbrev TYS_TAB_BASE_HI : Nat := 0x3B0154
abbrev TYS_LINK_CFG (i : Nat) : Nat := 0x3B0200 + 0x40 * i
abbrev TYS_LINK_WIN (i : Nat) : Nat := 0x3B0204 + 0x40 * i
abbrev TYS_LINK_RF (i : Nat) : Nat := 0x3B0208 + 0x40 * i
abbrev TYS_LINK_CAL (i : Nat) : Nat := 0x3B020C + 0x40 * i
abbrev TYS_LINK_STAT (i : Nat) : Nat := 0x3B0220 + 0x40 * i
abbrev TYS_LINK_PRE (i : Nat) : Nat := 0x3B0224 + 0x40 * i
abbrev TYS_PLAN (i j : Nat) : Nat := 0x3B0400 + 0x40 * i + 0x4 * j
abbrev TYS_PEER_CFG (p : Nat) : Nat := 0x3B1100 + 0x1000 * (p / 32) + 0x20 * (p % 32)
abbrev TYS_PEER_ADV (p : Nat) : Nat := 0x3B1104 + 0x1000 * (p / 32) + 0x20 * (p % 32)
abbrev TYS_PEER_TXV (p : Nat) : Nat := 0x3B1108 + 0x1000 * (p / 32) + 0x20 * (p % 32)
abbrev TYS_PEER_RXV (p : Nat) : Nat := 0x3B110C + 0x1000 * (p / 32) + 0x20 * (p % 32)
abbrev TYS_PEER_FOFF (p : Nat) : Nat := 0x3B1110 + 0x1000 * (p / 32) + 0x20 * (p % 32)
abbrev TYS_PEER_THETA (p : Nat) : Nat := 0x3B1114 + 0x1000 * (p / 32) + 0x20 * (p % 32)
abbrev TYS_PEER_DELTA (p : Nat) : Nat := 0x3B1118 + 0x1000 * (p / 32) + 0x20 * (p % 32)
abbrev TYS_PEER_RSSI (p : Nat) : Nat := 0x3B111C + 0x1000 * (p / 32) + 0x20 * (p % 32)
abbrev LFT_RET_EN0 : Nat := 0x180100
abbrev LFT_RET_EN1 : Nat := 0x180104
abbrev LFT_RET_LOST0 : Nat := 0x180108
abbrev LFT_RET_LOST1 : Nat := 0x18010C
abbrev LFT_CE_CNT : Nat := 0x180110
abbrev LFT_UE_CNT : Nat := 0x180114
abbrev LFT_WIN_REFUSE_CNT : Nat := 0x180118
abbrev LFT_WIN (i : Nat) : Nat := 0x180200 + 0x8 * i
abbrev LFT_WIN_SIZE (i : Nat) : Nat := 0x180204 + 0x8 * i
abbrev LFT_BANK_STAT (i : Nat) : Nat := 0x180400 + 0x4 * i
abbrev PLN_CTL : Nat := 0x188100
abbrev PLN_STAT : Nat := 0x188104
abbrev PLN_LAST (i : Nat) : Nat := 0x188110 + 0x10 * i
abbrev PLN_WORST (i : Nat) : Nat := 0x188114 + 0x10 * i
abbrev PLN_LAP_LIMIT (i : Nat) : Nat := 0x188118 + 0x10 * i
abbrev PLN_LAPS (i : Nat) : Nat := 0x18811C + 0x10 * i
abbrev PLN_REPAIR_CNT : Nat := 0x188200
abbrev PLN_REPAIR_DROP_CNT : Nat := 0x188204
abbrev PLN_UE_CNT : Nat := 0x188208
abbrev SHM_STAT : Nat := 0x190100
abbrev SHM_PROMO_CNT : Nat := 0x190104
abbrev SHM_FULL_CNT : Nat := 0x190108
abbrev SHM_RD_SEL : Nat := 0x190140
abbrev SHM_RD_DATA : Nat := 0x190144
abbrev DRC_CFG : Nat := 0x1C0100
abbrev DRC_SIZE : Nat := 0x1C0104
abbrev DRC_BATCH : Nat := 0x1C0108
abbrev DRC_RETRAIN : Nat := 0x1C010C
abbrev DRC_STAT : Nat := 0x1C0110
abbrev DRC_CE_CNT : Nat := 0x1C0114
abbrev DRC_UE_CNT : Nat := 0x1C0118
abbrev DRC_MERGE_CNT : Nat := 0x1C011C
abbrev DRC_WIN_REFUSE_CNT : Nat := 0x1C0120
abbrev DRC_SR_REFUSE_CNT : Nat := 0x1C0124
abbrev DRC_CH_FAIL_LIM : Nat := 0x1C0128
abbrev DRC_SR_KEEP (i : Nat) : Nat := 0x1C0140 + 0x4 * i
abbrev DRC_WIN (i : Nat) : Nat := 0x1C0400 + 0x8 * i
abbrev DRC_WIN_SIZE (i : Nat) : Nat := 0x1C0404 + 0x8 * i
abbrev DRC_CH_STAT (i : Nat) : Nat := 0x1C1100 + 0x20 * i
abbrev DRC_CH_TEMP (i : Nat) : Nat := 0x1C1104 + 0x20 * i
abbrev DRC_CH_ACT_CNT (i : Nat) : Nat := 0x1C1108 + 0x20 * i
abbrev DRC_CH_NBR_CNT (i : Nat) : Nat := 0x1C110C + 0x20 * i
abbrev DRC_CH_REF_CNT (i : Nat) : Nat := 0x1C1110 + 0x20 * i
abbrev DRC_CH_CE_CNT (i : Nat) : Nat := 0x1C1114 + 0x20 * i
abbrev DRC_CH_UE_CNT (i : Nat) : Nat := 0x1C1118 + 0x20 * i
abbrev SKD_ACTIVE_LO : Nat := 0x200100
abbrev SKD_ACTIVE_HI : Nat := 0x200104
abbrev SKD_HALTED_LO : Nat := 0x200108
abbrev SKD_HALTED_HI : Nat := 0x20010C
abbrev SKD_RD_BYTES_LO : Nat := 0x200110
abbrev SKD_RD_BYTES_HI : Nat := 0x200114
abbrev SKD_WR_BYTES_LO : Nat := 0x200118
abbrev SKD_WR_BYTES_HI : Nat := 0x20011C
abbrev SKD_BUF_PEAK : Nat := 0x200120
abbrev SKD_CH_CTL (n : Nat) : Nat := 0x201100 + 0x1000 * n
abbrev SKD_CH_HEAD_LO (n : Nat) : Nat := 0x201104 + 0x1000 * n
abbrev SKD_CH_HEAD_HI (n : Nat) : Nat := 0x201108 + 0x1000 * n
abbrev SKD_CH_TRIG (n : Nat) : Nat := 0x20110C + 0x1000 * n
abbrev SKD_CH_STAT (n : Nat) : Nat := 0x201110 + 0x1000 * n
abbrev SKD_CH_CUR_LO (n : Nat) : Nat := 0x201114 + 0x1000 * n
abbrev SKD_CH_CUR_HI (n : Nat) : Nat := 0x201118 + 0x1000 * n
abbrev SKD_CH_REMAIN (n : Nat) : Nat := 0x20111C + 0x1000 * n
abbrev SKD_CH_ROWS (n : Nat) : Nat := 0x201120 + 0x1000 * n
abbrev SKD_CH_ERR_LO (n : Nat) : Nat := 0x201124 + 0x1000 * n
abbrev SKD_CH_ERR_HI (n : Nat) : Nat := 0x201128 + 0x1000 * n
abbrev SKD_CH_HELD (n : Nat) : Nat := 0x20112C + 0x1000 * n
abbrev SKD_CH_SUBMIT_LO (n : Nat) : Nat := 0x201130 + 0x1000 * n
abbrev SKD_CH_SUBMIT_HI (n : Nat) : Nat := 0x201134 + 0x1000 * n
abbrev SKD_CH_DESC_CNT (n : Nat) : Nat := 0x201140 + 0x1000 * n
abbrev SKD_CH_ERR_CNT (n : Nat) : Nat := 0x201144 + 0x1000 * n
abbrev SKD_CH_TRIG_LOST_CNT (n : Nat) : Nat := 0x201148 + 0x1000 * n
abbrev SKD_CH_EVT_CNT (n : Nat) : Nat := 0x20114C + 0x1000 * n
abbrev SKD_CH_REFUSE_CNT (n : Nat) : Nat := 0x201150 + 0x1000 * n
abbrev SCF_LANE_CTL (n : Nat) : Nat := 0x280100 + 0x1000 * n
abbrev SCF_LANE_STAT (n : Nat) : Nat := 0x280104 + 0x1000 * n
abbrev SCF_LANE_DROP_CNT (n : Nat) : Nat := 0x280108 + 0x1000 * n
abbrev SCF_LANE_SKEW (n : Nat) : Nat := 0x28010C + 0x1000 * n
abbrev SCF_TX_FFE (n : Nat) : Nat := 0x280110 + 0x1000 * n
abbrev SCF_TX_CTL (n : Nat) : Nat := 0x280114 + 0x1000 * n
abbrev SCF_RX_ADAPT (n : Nat) : Nat := 0x280120 + 0x1000 * n
abbrev SCF_RX_FFE (n i : Nat) : Nat := 0x280140 + 0x1000 * n + 0x4 * i
abbrev SCF_RX_DFE (n i : Nat) : Nat := 0x2801A0 + 0x1000 * n + 0x4 * i
abbrev SCF_PRBS_CTL (n : Nat) : Nat := 0x280200 + 0x1000 * n
abbrev SCF_PRBS_STAT (n : Nat) : Nat := 0x280204 + 0x1000 * n
abbrev SCF_PRBS_ERR_LO (n : Nat) : Nat := 0x280208 + 0x1000 * n
abbrev SCF_PRBS_ERR_HI (n : Nat) : Nat := 0x28020C + 0x1000 * n
abbrev SCF_PRBS_BITS_LO (n : Nat) : Nat := 0x280210 + 0x1000 * n
abbrev SCF_PRBS_BITS_HI (n : Nat) : Nat := 0x280214 + 0x1000 * n
abbrev SCF_EYE_CTL (n : Nat) : Nat := 0x280240 + 0x1000 * n
abbrev SCF_EYE_CNT (n : Nat) : Nat := 0x280244 + 0x1000 * n
abbrev SCF_FEC_CORR_CNT (n : Nat) : Nat := 0x280280 + 0x1000 * n
abbrev SCF_FEC_UNCORR_CNT (n : Nat) : Nat := 0x280284 + 0x1000 * n
abbrev SCF_FEC_SYM_CNT (n : Nat) : Nat := 0x280288 + 0x1000 * n
abbrev SCF_FEC_MODE (n : Nat) : Nat := 0x28028C + 0x1000 * n
abbrev SCF_QUAD_CTL (n : Nat) : Nat := 0x280300 + 0x1000 * n
abbrev SCF_QUAD_STAT (n : Nat) : Nat := 0x280304 + 0x1000 * n
abbrev SCF_QUAD_LOL_CNT (n : Nat) : Nat := 0x280308 + 0x1000 * n
abbrev SCF_SEQ_LO (n i : Nat) : Nat := 0x280800 + 0x1000 * n + 0x8 * i
abbrev SCF_SEQ_HI (n i : Nat) : Nat := 0x280804 + 0x1000 * n + 0x8 * i
abbrev PEG_LANE_CTL (k : Nat) : Nat := 0x2C0100 + 0x1000 * k
abbrev PEG_LANE_STAT (k : Nat) : Nat := 0x2C0104 + 0x1000 * k
abbrev PEG_TX_FFE (k : Nat) : Nat := 0x2C0110 + 0x1000 * k
abbrev PEG_RX_DFE (k i : Nat) : Nat := 0x2C01A0 + 0x1000 * k + 0x4 * i
abbrev PEG_COMMA (k : Nat) : Nat := 0x2C0280 + 0x1000 * k
abbrev PEG_CODE_ERR_CNT (k : Nat) : Nat := 0x2C0284 + 0x1000 * k
abbrev PEG_DISP_ERR_CNT (k : Nat) : Nat := 0x2C0288 + 0x1000 * k
abbrev PEG_HFN_LOSS_CNT (k : Nat) : Nat := 0x2C028C + 0x1000 * k
abbrev GRT_CTL : Nat := 0x300100
abbrev GRT_MISS_CNT : Nat := 0x300104
abbrev GRT_BADHDR_CNT : Nat := 0x300108
abbrev GRT_CLS_CMD : Nat := 0x300110
abbrev GRT_CLS_DATA (i : Nat) : Nat := 0x300114 + 0x4 * i
abbrev GRT_FG_DATA (i : Nat) : Nat := 0x300144 + 0x4 * i
abbrev GRT_GCL_SEL : Nat := 0x300180
abbrev GRT_GCL_DATA : Nat := 0x300184
abbrev GRT_HDR (i j : Nat) : Nat := 0x300200 + 0x40 * i + 0x4 * j
abbrev GRT_PORT_CFG (i : Nat) : Nat := 0x301100 + 0x10 * i
abbrev GRT_PORT_GCL (i : Nat) : Nat := 0x301104 + 0x10 * i
abbrev GRT_PORT_ADV (i : Nat) : Nat := 0x301108 + 0x10 * i
abbrev GRT_PORT_DROP_CNT (i : Nat) : Nat := 0x30110C + 0x10 * i
abbrev HST_LINK_STAT (h : Nat) : Nat := 0x340100 + 0x1000 * h
abbrev HST_BIF (h : Nat) : Nat := 0x340104 + 0x1000 * h
abbrev HST_CFG (h : Nat) : Nat := 0x340108 + 0x1000 * h
abbrev HST_FN_SEL (h : Nat) : Nat := 0x34010C + 0x1000 * h
abbrev HST_FN_CFG (h : Nat) : Nat := 0x340110 + 0x1000 * h
abbrev HST_FN_STAT (h : Nat) : Nat := 0x340114 + 0x1000 * h
abbrev HST_UR_CNT (h : Nat) : Nat := 0x340120 + 0x1000 * h
abbrev HST_CA_CNT (h : Nat) : Nat := 0x340124 + 0x1000 * h
abbrev HST_CPL_ERR_CNT (h : Nat) : Nat := 0x340128 + 0x1000 * h
abbrev HST_LINKDOWN_CNT (h : Nat) : Nat := 0x34012C + 0x1000 * h
abbrev BAY_CTL (b : Nat) : Nat := 0x360100 + 0x1000 * b
abbrev BAY_STAT (b : Nat) : Nat := 0x360104 + 0x1000 * b
abbrev BAY_IRQ (b : Nat) : Nat := 0x360108 + 0x1000 * b
abbrev BAY_HWIN_LO (b i : Nat) : Nat := 0x360110 + 0x1000 * b + 0x8 * i
abbrev BAY_HWIN_HI (b i : Nat) : Nat := 0x360114 + 0x1000 * b + 0x8 * i
abbrev BAY_HWIN_FN (b i : Nat) : Nat := 0x360130 + 0x1000 * b + 0x4 * i
abbrev BAY_HQ_CACHE (b : Nat) : Nat := 0x360140 + 0x1000 * b
abbrev BAY_BENTS (b i : Nat) : Nat := 0x360400 + 0x1000 * b + 0x40 * i
abbrev BAY_LIMITS (b i : Nat) : Nat := 0x360404 + 0x1000 * b + 0x40 * i
abbrev BAY_RESET_REQ (b i : Nat) : Nat := 0x360408 + 0x1000 * b + 0x40 * i
abbrev BAY_ENG (b i j : Nat) : Nat := 0x360410 + 0x1000 * b + 0x40 * i + 0x4 * j
abbrev XNG_RESET_CTL : Nat := 0x3100
abbrev XNG_RESET_CAUSE : Nat := 0x3104
abbrev XNG_QUAR_CNT : Nat := 0x3108
abbrev XNG_ISL_SEL : Nat := 0x3110
abbrev XNG_ISL_CTL : Nat := 0x3114
abbrev XNG_STATUS : Nat := 0x3118
abbrev XNG_ERR_RESP_CNT : Nat := 0x311C
abbrev XNG_HOLD_CNT : Nat := 0x3120
abbrev XNG_QUAR_MAP (i : Nat) : Nat := 0x3200 + 0x4 * i
abbrev PUR_STAT : Nat := 0x3C0100
abbrev PUR_DOWN_LO : Nat := 0x3C0104
abbrev PUR_DOWN_HI : Nat := 0x3C0108
abbrev PUR_TIMEOUT_CNT : Nat := 0x3C010C
abbrev PUR_REROUTE_CNT : Nat := 0x3C0110
abbrev PUR_TIMEOUT : Nat := 0x3C0114
abbrev PUR_RTR_STAT (i : Nat) : Nat := 0x3C0200 + 0x4 * i
abbrev LCS_STATE : Nat := 0x1100
abbrev LCS_STAT : Nat := 0x1104
abbrev LCS_TRANS_TGT : Nat := 0x1108
abbrev LCS_TRANS_GO : Nat := 0x110C
abbrev LCS_TRANS_STAT : Nat := 0x1110
abbrev LCS_AUTH_LO : Nat := 0x1114
abbrev LCS_AUTH_HI : Nat := 0x1118
abbrev LCS_BOOT_STAT : Nat := 0x1120
abbrev LCS_BOOT_LEN : Nat := 0x1124
abbrev LCS_BOOT_GO : Nat := 0x1128
abbrev LCS_SVN : Nat := 0x112C
abbrev LCS_DEVID_LO : Nat := 0x1130
abbrev LCS_DEVID_HI : Nat := 0x1134
abbrev LCS_MEAS (i j : Nat) : Nat := 0x1200 + 0x30 * i + 0x4 * j
abbrev PWR_DEV_REQ : Nat := 0x2100
abbrev PWR_DEV_STAT : Nat := 0x2104
abbrev PWR_TRIM_IDLE : Nat := 0x2108
abbrev PWR_ISL_SEL : Nat := 0x2110
abbrev PWR_ISL_REQ : Nat := 0x2114
abbrev PWR_ISL_STAT : Nat := 0x2118
abbrev PWR_KEEP (i : Nat) : Nat := 0x2120 + 0x4 * i
abbrev PWR_REFUSE_CNT (i : Nat) : Nat := 0x2144 + 0x4 * i
abbrev PWR_LAST_REFUSE : Nat := 0x2160
abbrev PWR_ABORT_CNT : Nat := 0x2164
abbrev PWR_SUPERSEDE_CNT : Nat := 0x2168
abbrev PWR_LAST_SUPERSEDED : Nat := 0x216C
abbrev PWR_WAKE_CFG (i : Nat) : Nat := 0x2180 + 0x4 * i
abbrev PWR_WAKE_EN : Nat := 0x21A0
abbrev PWR_WAKE_TMR : Nat := 0x21A4
abbrev PWR_WAKE_LAST : Nat := 0x21A8
abbrev PWR_WAKE_NS : Nat := 0x21AC
abbrev PWR_WAKE_CNT : Nat := 0x21B0
abbrev PWR_CAR_SEL : Nat := 0x21C0
abbrev PWR_CAR_REQ : Nat := 0x21C4
abbrev PWR_CAR_SLOT : Nat := 0x21C8
abbrev PWR_CAR_STAT : Nat := 0x21CC
abbrev PWR_PROFILE : Nat := 0x21E0
abbrev PWR_PROF_STAT : Nat := 0x21E4
abbrev PWR_AVS_STAT : Nat := 0x21E8
abbrev GAU_CTL : Nat := 0x380100
abbrev GAU_STAT : Nat := 0x380104
abbrev GAU_TRIG : Nat := 0x380108
abbrev GAU_SCAN_LEN : Nat := 0x38010C
abbrev GAU_OW_CFG : Nat := 0x380110
abbrev GAU_TRIG_LOST_CNT : Nat := 0x380114
abbrev GAU_RING_LO : Nat := 0x380118
abbrev GAU_RING_HI : Nat := 0x38011C
abbrev GAU_RING_PROD : Nat := 0x380120
abbrev GAU_RING_CONS : Nat := 0x380124
abbrev GAU_RING_DROP_CNT : Nat := 0x380128
abbrev GAU_PASS_CNT : Nat := 0x38012C
abbrev GAU_ALARM_LO : Nat := 0x380140
abbrev GAU_ALARM_HI : Nat := 0x380144
abbrev GAU_OPEN_LO : Nat := 0x380148
abbrev GAU_OPEN_HI : Nat := 0x38014C
abbrev GAU_SCAN (i : Nat) : Nat := 0x380200 + 0x4 * i
abbrev GAU_LIM (i : Nat) : Nat := 0x380300 + 0x4 * i
abbrev GAU_RES (i : Nat) : Nat := 0x380400 + 0x4 * i
abbrev PLT_FLT_HEAD : Nat := 0x9100
abbrev PLT_FLT_DEGRADED : Nat := 0x9104
abbrev PLT_FLT_RD_SEQ : Nat := 0x9108
abbrev PLT_FLT_RD_STAT : Nat := 0x910C
abbrev PLT_FLT_RD_DATA (i : Nat) : Nat := 0x9110 + 0x4 * i
abbrev PLT_SVC_UNIT : Nat := 0x9120
abbrev PLT_SVC_CLR : Nat := 0x9124
abbrev SCB_RD_STAT (i : Nat) : Nat := 0x4208 + 0x40 * i
abbrev TYS_CAPT_CNT : Nat := 0x3B0130
abbrev TYS_COLL_CNT : Nat := 0x3B0134
abbrev TYS_OFFGRID_CNT : Nat := 0x3B0138
abbrev TYS_HDR_ERR_CNT : Nat := 0x3B013C
abbrev TYS_VER_MISS_CNT : Nat := 0x3B0140
abbrev TYS_NOT_MINE_CNT : Nat := 0x3B0144
abbrev TYS_ACCEPT_CNT : Nat := 0x3B0148
abbrev TYS_LINK_RXREC_LO (i : Nat) : Nat := 0x3B0210 + 0x40 * i
abbrev TYS_LINK_RXREC_HI (i : Nat) : Nat := 0x3B0214 + 0x40 * i
abbrev TYS_LINK_TXREC_LO (i : Nat) : Nat := 0x3B0218 + 0x40 * i
abbrev TYS_LINK_TXREC_HI (i : Nat) : Nat := 0x3B021C + 0x40 * i
abbrev GRT_FG_CMD : Nat := 0x300140
abbrev GRT_RX_PROD (b i : Nat) : Nat := 0x30210C + 0x1000 * b + 0x20 * i
abbrev GRT_RX_CONS (b i : Nat) : Nat := 0x302110 + 0x1000 * b + 0x20 * i
abbrev GRT_TX_PROD (b i : Nat) : Nat := 0x30230C + 0x1000 * b + 0x20 * i
abbrev GRT_TX_CONS (b i : Nat) : Nat := 0x302310 + 0x1000 * b + 0x20 * i
abbrev GRT_RING_LO (b i j : Nat) : Nat := 0x302100 + 0x1000 * b + 0x200 * i + 0x20 * j
abbrev GRT_RING_HI (b i j : Nat) : Nat := 0x302104 + 0x1000 * b + 0x200 * i + 0x20 * j
abbrev GRT_RING_CTL (b i j : Nat) : Nat := 0x302108 + 0x1000 * b + 0x200 * i + 0x20 * j
abbrev GRT_RING_DROP_CNT (b i j : Nat) : Nat := 0x302114 + 0x1000 * b + 0x200 * i + 0x20 * j
abbrev GRT_FMT (i : Nat) : Nat := 0x30A100 + 0x4 * i
abbrev GRT_CMP_SAT_CNT : Nat := 0x30A200
abbrev RDG_VIEW_TIME_NS (b : Nat) : Nat := 0x16100 + 0x1000 * b
abbrev RDG_VIEW_TIME_FRAC (b : Nat) : Nat := 0x16104 + 0x1000 * b
abbrev RDG_VIEW_TIME_SEC_LO (b : Nat) : Nat := 0x16108 + 0x1000 * b
abbrev RDG_VIEW_TIME_SEC_HI (b : Nat) : Nat := 0x1610C + 0x1000 * b
abbrev PEG_LANE_DROP_CNT (k : Nat) : Nat := 0x2C0108 + 0x1000 * k
abbrev PEG_LANE_SKEW (k : Nat) : Nat := 0x2C010C + 0x1000 * k
abbrev PEG_TX_CTL (k : Nat) : Nat := 0x2C0114 + 0x1000 * k
abbrev PEG_RX_ADAPT (k : Nat) : Nat := 0x2C0120 + 0x1000 * k
abbrev PEG_RX_FFE (k i : Nat) : Nat := 0x2C0140 + 0x1000 * k + 0x4 * i
abbrev PEG_PRBS_CTL (k : Nat) : Nat := 0x2C0200 + 0x1000 * k
abbrev PEG_PRBS_STAT (k : Nat) : Nat := 0x2C0204 + 0x1000 * k
abbrev PEG_PRBS_ERR_LO (k : Nat) : Nat := 0x2C0208 + 0x1000 * k
abbrev PEG_PRBS_ERR_HI (k : Nat) : Nat := 0x2C020C + 0x1000 * k
abbrev PEG_PRBS_BITS_LO (k : Nat) : Nat := 0x2C0210 + 0x1000 * k
abbrev PEG_PRBS_BITS_HI (k : Nat) : Nat := 0x2C0214 + 0x1000 * k
abbrev PEG_EYE_CTL (k : Nat) : Nat := 0x2C0240 + 0x1000 * k
abbrev PEG_EYE_CNT (k : Nat) : Nat := 0x2C0244 + 0x1000 * k
abbrev PEG_SEQ_LO (k i : Nat) : Nat := 0x2C0800 + 0x1000 * k + 0x8 * i
abbrev PEG_SEQ_HI (k i : Nat) : Nat := 0x2C0804 + 0x1000 * k + 0x8 * i

end Sys2Proof.Machine
end

