-- ==== Sys2Proof/Machine/RegTable.lean ====
section
/-! DEFINITION. The register tables of the spec as data: for every page kind its registers with their fields,
access codes, Cold and Warm columns (R4, R5), the ranges of R488 and the encodings of R489. -/

namespace Sys2Proof.Machine

/-- Access codes of R5. -/
inductive Acc where
  | ro | rw | rw1c | rw1s | rc | wo | rwl
  deriving DecidableEq, Repr

/-- The Warm column: "=" and "runs" keep the field (R4). -/
inductive Warm where
  | keep
  | to (v : Nat)
  deriving DecidableEq, Repr

/-- What a written value is held to: nothing, the range of R488, or the encodings of R489. -/
inductive Legal where
  | any
  | clamp (lo hi : Nat)
  | only (lo hi : Nat)
  /-- Encodings in one of several ranges. -/
  | oneOf (ranges : List (Nat × Nat))
  /-- A signed field held to ±`m`. -/
  | signed (m : Nat)
  deriving DecidableEq, Repr

/-- One row of a register table. -/
structure Field where
  hi : Nat
  lo : Nat
  acc : Acc
  cold : Nat
  warm : Warm
  legal : Legal
  deriving DecidableEq, Repr

/-- One register of a page: its offset, the (count, stride) of each array index, and its fields. -/
structure RegRow where
  off : Nat
  dims : List (Nat × Nat)
  fields : List Field
  deriving DecidableEq, Repr

/-- The page kinds of the window: pages of one kind hold the same registers. -/
inductive PageKind where
  | header
  | glb
  | bnt
  | plt0
  | scb
  | rdg0
  | rdg1
  | rdg2
  | rdg3
  | rdgCar
  | rdgView
  | trs0
  | trsView
  | doorbell
  | ldg0
  | ldg1
  | rft
  | mrt
  | fft
  | pra
  | ldd
  | lde
  | plr
  | trb
  | hq
  | air0
  | airView
  | tys0
  | tysPeer
  | lft
  | pln
  | shm
  | drc0
  | drc1
  | skd
  | skdCh
  | scf
  | peg
  | grt0
  | grt1
  | hst
  | bay
  | xng
  | pur
  | lcs
  | pwr
  | gau
  | plt1
  | grtView
  | cmp
  deriving DecidableEq, Repr

/-- Registers of the glb pages (02, R30). -/
def glbRegs : List RegRow :=
  [
   -- GLB_PART: part, step, capped
   ⟨0x100, [], [⟨31, 16, .ro, 0x9640, .keep, .any⟩, ⟨15, 8, .ro, 0xB0, .keep, .any⟩, ⟨0, 0, .ro, 0, .keep, .any⟩]⟩,
   -- GLB_FW_VER: major, minor, build
   ⟨0x104, [], [⟨31, 24, .ro, 0, .keep, .any⟩, ⟨23, 16, .ro, 0, .keep, .any⟩, ⟨15, 0, .ro, 0, .keep, .any⟩]⟩,
   -- GLB_CFG_VER: major, minor, build
   ⟨0x108, [], [⟨31, 24, .ro, 0, .keep, .any⟩, ⟨23, 16, .ro, 0, .keep, .any⟩, ⟨15, 0, .ro, 0, .keep, .any⟩]⟩,
   -- GLB_UNITS: bents, cores, engines, lanes
   ⟨0x10C, [], [⟨31, 24, .ro, 8, .keep, .any⟩, ⟨23, 16, .ro, 0x48, .keep, .any⟩, ⟨15, 8, .ro, 0x43, .keep, .any⟩, ⟨7, 0, .ro, 0x38, .keep, .any⟩]⟩,
   -- GLB_SCRATCH[0..7]: data
   ⟨0x120, [(8, 0x4)], [⟨31, 0, .rw, 0, .keep, .any⟩]⟩]

/-- Registers of the bnt pages (02, R31). -/
def bntRegs : List RegRow :=
  [
   -- BNT_STAT: stand_in, failed, running
   ⟨0x100, [], [⟨31, 28, .ro, 0xF, .keep, .any⟩, ⟨24, 16, .ro, 0, .keep, .any⟩, ⟨8, 0, .ro, 0, (.to 0), .any⟩]⟩,
   -- BNT_CLK: mhz
   ⟨0x104, [], [⟨11, 0, .ro, 0x640, .keep, .any⟩]⟩,
   -- BNT_TAKE_CNT: count
   ⟨0x108, [], [⟨31, 0, .rc, 0, (.to 0), .any⟩]⟩,
   -- BNT_GATE_CNT: count
   ⟨0x10C, [], [⟨31, 0, .rc, 0, (.to 0), .any⟩]⟩]

/-- Registers of the plt0 pages (02, R32). -/
def plt0Regs : List RegRow :=
  [
   -- PLT_FW_STAT: cores, state
   ⟨0x100, [], [⟨11, 8, .ro, 0, (.to 0), .any⟩, ⟨3, 0, .ro, 0, (.to 0), .any⟩]⟩,
   -- PLT_HEARTBEAT: count
   ⟨0x104, [], [⟨31, 0, .ro, 0, (.to 0), .any⟩]⟩]

/-- Registers of the scb pages (02, R37). -/
def scbRegs : List RegRow :=
  [
   -- SCB_HEAD_SEQ_LO: seq
   ⟨0x100, [], [⟨31, 0, .ro, 0, .keep, .any⟩]⟩,
   -- SCB_HEAD_SEQ_HI: seq
   ⟨0x104, [], [⟨15, 0, .ro, 0, .keep, .any⟩]⟩,
   -- SCB_REFUSE_CNT[0..7]: count
   ⟨0x110, [(8, 0x4)], [⟨31, 0, .rc, 0, .keep, .any⟩]⟩,
   -- SCB_STALL_CNT: count
   ⟨0x130, [], [⟨31, 0, .rc, 0, (.to 0), .any⟩]⟩,
   -- SCB_RD_SEQ_LO[n]: seq
   ⟨0x200, [(8, 0x40)], [⟨31, 0, .rw, 0, (.to 0), .any⟩]⟩,
   -- SCB_RD_SEQ_HI[n]: seq
   ⟨0x204, [(8, 0x40)], [⟨15, 0, .rw, 0, (.to 0), .any⟩]⟩,
   -- SCB_RD_STAT[n]: hidden, miss, busy
   ⟨0x208, [(8, 0x40)], [⟨2, 2, .ro, 0, (.to 0), .any⟩, ⟨1, 1, .ro, 0, (.to 0), .any⟩, ⟨0, 0, .ro, 0, (.to 0), .any⟩]⟩,
   -- SCB_RD_DATA[n][0..7]: data
   ⟨0x210, [(8, 0x40), (8, 0x4)], [⟨31, 0, .ro, 0, (.to 0), .any⟩]⟩]

/-- Part 1 of the rdg0 registers. -/
def rdg0Regs1 : List RegRow :=
  [
   -- RDG_TIME_NS: ns
   ⟨0x100, [], [⟨29, 0, .ro, 0, .keep, .any⟩]⟩,
   -- RDG_TIME_FRAC: frac
   ⟨0x104, [], [⟨31, 0, .ro, 0, .keep, .any⟩]⟩,
   -- RDG_TIME_SEC_LO: sec
   ⟨0x108, [], [⟨31, 0, .ro, 0, .keep, .any⟩]⟩,
   -- RDG_TIME_SEC_HI: sec
   ⟨0x10C, [], [⟨15, 0, .ro, 0, .keep, .any⟩]⟩,
   -- RDG_RATE_LO: rate
   ⟨0x110, [], [⟨31, 0, .rw, 0, .keep, .any⟩]⟩,
   -- RDG_RATE_HI: rate
   ⟨0x114, [], [⟨7, 0, .rw, 0, .keep, .any⟩]⟩,
   -- RDG_ADJ_NS: ns
   ⟨0x120, [], [⟨31, 0, .wo, 0, (.to 0), .any⟩]⟩,
   -- RDG_ADJ_FRAC: frac
   ⟨0x124, [], [⟨31, 0, .wo, 0, (.to 0), .any⟩]⟩,
   -- RDG_ADJ_SEC_LO: sec
   ⟨0x128, [], [⟨31, 0, .wo, 0, (.to 0), .any⟩]⟩,
   -- RDG_ADJ_SEC_HI: sec
   ⟨0x12C, [], [⟨15, 0, .wo, 0, (.to 0), .any⟩]⟩,
   -- RDG_STEP_LIMIT: limit
   ⟨0x130, [], [⟨29, 0, .rw, 0x64, .keep, (.clamp 1 1000000000)⟩]⟩,
   -- RDG_SLEW_MAX: ppb
   ⟨0x134, [], [⟨13, 0, .rw, 0x32, .keep, (.clamp 1 10000)⟩]⟩]

/-- Part 2 of the rdg0 registers. -/
def rdg0Regs2 : List RegRow :=
  [
   -- RDG_SERVO_CTL: relock, mode
   ⟨0x138, [], [⟨31, 31, .wo, 0, (.to 0), .any⟩, ⟨0, 0, .rw, 0, .keep, .any⟩]⟩,
   -- RDG_SERVO_STAT: cause, jump_refused, step_armed, state
   ⟨0x13C, [], [⟨7, 4, .ro, 0, .keep, .any⟩, ⟨3, 3, .rw1c, 0, .keep, .any⟩, ⟨2, 2, .ro, 1, .keep, .any⟩, ⟨1, 0, .ro, 0, .keep, .any⟩]⟩,
   -- RDG_JUMP_VAL_LO: val
   ⟨0x140, [], [⟨31, 0, .ro, 0, .keep, .any⟩]⟩,
   -- RDG_JUMP_VAL_HI: val
   ⟨0x144, [], [⟨31, 0, .ro, 0, .keep, .any⟩]⟩,
   -- RDG_JUMP_CNT: count
   ⟨0x148, [], [⟨31, 0, .rc, 0, .keep, .any⟩]⟩,
   -- RDG_PENDING_SLEW: ns
   ⟨0x14C, [], [⟨31, 0, .ro, 0, .keep, .any⟩]⟩,
   -- RDG_SKIP_CNT: count
   ⟨0x150, [], [⟨31, 0, .rc, 0, .keep, .any⟩]⟩,
   -- RDG_NODE_ID: id
   ⟨0x154, [], [⟨9, 0, .rwl, 0, .keep, .any⟩]⟩,
   -- RDG_UTC: leap59, leap61, offset
   ⟨0x158, [], [⟨17, 17, .rw, 0, .keep, .any⟩, ⟨16, 16, .rw, 0, .keep, .any⟩, ⟨15, 0, .rw, 0x25, .keep, .any⟩]⟩,
   -- RDG_HOLD_CFG: hold_max, hold_avg
   ⟨0x15C, [], [⟨31, 16, .rw, 0x18, .keep, .any⟩, ⟨15, 0, .rw, 0x12C, .keep, .any⟩]⟩]

/-- Registers of the rdg0 pages (03, R70). -/
def rdg0Regs : List RegRow :=
  rdg0Regs1 ++ rdg0Regs2

/-- Registers of the rdg1 pages (03, R70). -/
def rdg1Regs : List RegRow :=
  [
   -- RDG_DPLL_CTL: osc_hold, cell_rate, revertive, bw
   ⟨0x100, [], [⟨7, 6, .rw, 3, .keep, .any⟩, ⟨5, 5, .rw, 0, .keep, .any⟩, ⟨4, 4, .rw, 1, .keep, .any⟩, ⟨1, 0, .rw, 1, .keep, (.only 0 2)⟩]⟩,
   -- RDG_SRC_PRIO: tysar, synce_b, synce_a, cell
   ⟨0x104, [], [⟨15, 12, .rw, 0, .keep, .any⟩, ⟨11, 8, .rw, 0, .keep, .any⟩, ⟨7, 4, .rw, 0, .keep, .any⟩, ⟨3, 0, .rw, 1, .keep, .any⟩]⟩,
   -- RDG_SYNCE_SEL: lane_b, lane_a
   ⟨0x108, [], [⟨13, 8, .rw, 0, .keep, (.only 0 55)⟩, ⟨5, 0, .rw, 0, .keep, (.only 0 55)⟩]⟩,
   -- RDG_SRC_STAT: dpll_b_active, qualified, selected
   ⟨0x10C, [], [⟨12, 12, .ro, 0, .keep, .any⟩, ⟨11, 8, .ro, 0, .keep, .any⟩, ⟨2, 0, .ro, 0, .keep, .any⟩]⟩,
   -- RDG_SRC_FOFF[0..3]: offset
   ⟨0x110, [(4, 0x4)], [⟨31, 0, .ro, 0, .keep, .any⟩]⟩,
   -- RDG_QUAL_CFG: hold_off, wtr
   ⟨0x120, [], [⟨23, 16, .rw, 0x64, .keep, .any⟩, ⟨15, 0, .rw, 0x12C, .keep, .any⟩]⟩]

/-- Registers of the rdg2 pages (03, R70). -/
def rdg2Regs : List RegRow :=
  [
   -- RDG_PORT_CAL_RX[0..39]: soft_only, cal
   ⟨0x100, [(40, 0x8)], [⟨31, 31, .rw, 0, .keep, .any⟩, ⟨15, 0, .rw, 0, .keep, .any⟩]⟩,
   -- RDG_PORT_CAL_TX[0..39]: cal
   ⟨0x104, [(40, 0x8)], [⟨15, 0, .rw, 0, .keep, .any⟩]⟩,
   -- RDG_TXS_SEL: port
   ⟨0x300, [], [⟨5, 0, .rw, 0, (.to 0), (.only 0 39)⟩]⟩,
   -- RDG_TXS_NS: ns
   ⟨0x304, [], [⟨29, 0, .ro, 0, (.to 0), .any⟩]⟩,
   -- RDG_TXS_FRAC: frac
   ⟨0x308, [], [⟨31, 0, .ro, 0, (.to 0), .any⟩]⟩,
   -- RDG_TXS_SEC_LO: sec
   ⟨0x30C, [], [⟨31, 0, .ro, 0, (.to 0), .any⟩]⟩,
   -- RDG_TXS_SEC_HI: sec
   ⟨0x310, [], [⟨15, 0, .ro, 0, (.to 0), .any⟩]⟩,
   -- RDG_TXS_TAG: valid, msg_type, seq_id
   ⟨0x314, [], [⟨31, 31, .ro, 0, (.to 0), .any⟩, ⟨19, 16, .ro, 0, (.to 0), .any⟩, ⟨15, 0, .ro, 0, (.to 0), .any⟩]⟩,
   -- RDG_TXS_OVF_CNT: count
   ⟨0x318, [], [⟨31, 0, .rc, 0, (.to 0), .any⟩]⟩]

/-- Registers of the rdg3 pages (03, R70). -/
def rdg3Regs : List RegRow :=
  [
   -- RDG_PPSO_CTL[k]: width, carrier, period, squelch, enable
   ⟨0x100, [(2, 0x10)], [⟨31, 16, .rw, 0x2710, .keep, (.clamp 1 50000)⟩, ⟨15, 8, .rw, 0, .keep, .any⟩, ⟨2, 2, .rw, 0, .keep, .any⟩, ⟨1, 1, .rw, 1, .keep, .any⟩, ⟨0, 0, .rw, 0, .keep, .any⟩]⟩,
   -- RDG_PPSO_DLY[k]: dly
   ⟨0x104, [(2, 0x10)], [⟨31, 0, .rw, 0, .keep, .any⟩]⟩,
   -- RDG_PPSI_CTL[j]: edge, enable
   ⟨0x120, [(2, 0x10)], [⟨1, 1, .rw, 0, .keep, .any⟩, ⟨0, 0, .rw, 0, .keep, .any⟩]⟩,
   -- RDG_PPSI_DLY[j]: dly
   ⟨0x124, [(2, 0x10)], [⟨31, 0, .rw, 0, .keep, .any⟩]⟩,
   -- RDG_TOD_CTL: tx_enable, baud, rx_format
   ⟨0x140, [], [⟨4, 4, .rw, 0, .keep, .any⟩, ⟨3, 2, .rw, 0, .keep, (.only 0 2)⟩, ⟨1, 0, .rw, 0, .keep, (.only 0 2)⟩]⟩,
   -- RDG_CAP_CTL[i]: overflow, fill, edge
   ⟨0x180, [(4, 0x20)], [⟨8, 8, .rw1c, 0, (.to 0), .any⟩, ⟨7, 4, .ro, 0, (.to 0), .any⟩, ⟨1, 0, .rw, 0, .keep, .any⟩]⟩,
   -- RDG_CAP_NS[i]: ns
   ⟨0x184, [(4, 0x20)], [⟨29, 0, .ro, 0, (.to 0), .any⟩]⟩,
   -- RDG_CAP_FRAC[i]: frac
   ⟨0x188, [(4, 0x20)], [⟨31, 0, .ro, 0, (.to 0), .any⟩]⟩,
   -- RDG_CAP_SEC_LO[i]: sec
   ⟨0x18C, [(4, 0x20)], [⟨31, 0, .ro, 0, (.to 0), .any⟩]⟩,
   -- RDG_CAP_SEC_HI[i]: sec
   ⟨0x190, [(4, 0x20)], [⟨15, 0, .ro, 0, (.to 0), .any⟩]⟩]

/-- Registers of the rdgCar pages (03, R70). -/
def rdgCarRegs : List RegRow :=
  [
   -- RDG_CAR_CFG[c]: enable, bay, rat, ecp, mu
   ⟨0x100, [(128, 0x10)], [⟨31, 31, .rw, 0, .keep, .any⟩, ⟨26, 24, .rw, 0, .keep, .any⟩, ⟨5, 4, .rw, 0, .keep, .any⟩, ⟨3, 3, .rw, 0, .keep, .any⟩, ⟨2, 0, .rw, 0, .keep, .any⟩]⟩,
   -- RDG_CAR_OFFS[c]: offs
   ⟨0x104, [(128, 0x10)], [⟨31, 0, .rw, 0, .keep, .any⟩]⟩,
   -- RDG_CAR_POS[c]: hsfn, sfn, slot, symbol
   ⟨0x108, [(128, 0x10)], [⟨31, 22, .ro, 0, .keep, .any⟩, ⟨21, 12, .ro, 0, .keep, .any⟩, ⟨11, 4, .ro, 0, .keep, .any⟩, ⟨3, 0, .ro, 0, .keep, .any⟩]⟩,
   -- RDG_CAR_SLOT[c]: count
   ⟨0x10C, [(128, 0x10)], [⟨31, 0, .ro, 0, .keep, .any⟩]⟩]

/-- Part 1 of the rdgView registers. -/
def rdgViewRegs1 : List RegRow :=
  [
   -- RDG_VIEW_TIME_NS: ns
   ⟨0x100, [], [⟨29, 0, .ro, 0, (.to 0), .any⟩]⟩,
   -- RDG_VIEW_TIME_FRAC: frac
   ⟨0x104, [], [⟨31, 0, .ro, 0, (.to 0), .any⟩]⟩,
   -- RDG_VIEW_TIME_SEC_LO: sec_lo
   ⟨0x108, [], [⟨31, 0, .ro, 0, (.to 0), .any⟩]⟩,
   -- RDG_VIEW_TIME_SEC_HI: sec_hi
   ⟨0x10C, [], [⟨15, 0, .ro, 0, (.to 0), .any⟩]⟩,
   -- RDG_VIEW_SERVO: stat
   ⟨0x110, [], [⟨3, 0, .ro, 0, .keep, .any⟩]⟩,
   -- RDG_VIEW_CARQ: denied, carrier
   ⟨0x120, [], [⟨31, 31, .ro, 0, (.to 0), .any⟩, ⟨7, 0, .rw, 0, (.to 0), .any⟩]⟩,
   -- RDG_VIEW_POS: pos
   ⟨0x124, [], [⟨31, 0, .ro, 0, .keep, .any⟩]⟩,
   -- RDG_VIEW_SLOT: count
   ⟨0x128, [], [⟨31, 0, .ro, 0, .keep, .any⟩]⟩,
   -- RDG_EVT_CTL[k]: fired, badcar, late, symbol, carrier, mode
   ⟨0x200, [(4, 0x20)], [⟨30, 30, .rw1c, 0, (.to 0), .any⟩, ⟨29, 29, .ro, 0, (.to 0), .any⟩, ⟨28, 28, .rw1c, 0, (.to 0), .any⟩, ⟨19, 16, .rw, 0, .keep, .any⟩, ⟨15, 8, .rw, 0, .keep, .any⟩, ⟨1, 0, .rw, 0, .keep, .any⟩]⟩,
   -- RDG_EVT_T_NS[k]: ns
   ⟨0x204, [(4, 0x20)], [⟨31, 0, .rw, 0, .keep, .any⟩]⟩,
   -- RDG_EVT_T_SEC_LO[k]: sec
   ⟨0x208, [(4, 0x20)], [⟨31, 0, .rw, 0, .keep, .any⟩]⟩,
   -- RDG_EVT_T_SEC_HI[k]: sec
   ⟨0x20C, [(4, 0x20)], [⟨15, 0, .rw, 0, .keep, .any⟩]⟩]

/-- Part 2 of the rdgView registers. -/
def rdgViewRegs2 : List RegRow :=
  [
   -- RDG_EVT_PERIOD[k]: ns
   ⟨0x210, [(4, 0x20)], [⟨31, 0, .rw, 0x3E8, .keep, (.clamp 1000 4294967295)⟩]⟩,
   -- RDG_EVT_CNT[k]: count
   ⟨0x214, [(4, 0x20)], [⟨31, 0, .rc, 0, (.to 0), .any⟩]⟩]

/-- Registers of the rdgView pages (03, R70). -/
def rdgViewRegs : List RegRow :=
  rdgViewRegs1 ++ rdgViewRegs2

/-- Registers of the trs0 pages (04, R111). -/
def trs0Regs : List RegRow :=
  [
   -- TRS_CTL: quantum, max_attempts
   ⟨0x100, [], [⟨9, 8, .ro, 1, .keep, .any⟩, ⟨3, 0, .rw, 3, .keep, .any⟩]⟩,
   -- TRS_EPOCH: epoch
   ⟨0x104, [], [⟨31, 0, .ro, 0, .keep, .any⟩]⟩,
   -- TRS_STAT: restarting
   ⟨0x108, [], [⟨0, 0, .ro, 0, (.to 1), .any⟩]⟩,
   -- TRS_ACCEPT_CNT: count
   ⟨0x110, [], [⟨31, 0, .rc, 0, .keep, .any⟩]⟩,
   -- TRS_REFUSE_CNT: count
   ⟨0x114, [], [⟨31, 0, .rc, 0, .keep, .any⟩]⟩,
   -- TRS_DISPATCH_CNT: count
   ⟨0x118, [], [⟨31, 0, .rc, 0, .keep, .any⟩]⟩,
   -- TRS_LAPSE_CNT: count
   ⟨0x11C, [], [⟨31, 0, .rc, 0, .keep, .any⟩]⟩,
   -- TRS_RERUN_CNT: count
   ⟨0x120, [], [⟨31, 0, .rc, 0, .keep, .any⟩]⟩,
   -- TRS_STALE_CNT: count
   ⟨0x124, [], [⟨31, 0, .rc, 0, .keep, .any⟩]⟩,
   -- TRS_DRAIN: busy, force, op, consumer
   ⟨0x140, [], [⟨31, 31, .ro, 0, (.to 0), .any⟩, ⟨16, 16, .rw, 0, (.to 0), .any⟩, ⟨8, 8, .rw, 0, (.to 0), .any⟩, ⟨7, 0, .rw, 0, (.to 0), (.oneOf [(0, 71), (128, 194)])⟩]⟩]

/-- Part 1 of the trsView registers. -/
def trsViewRegs1 : List RegRow :=
  [
   -- TRS_QSEL: denied, queue
   ⟨0x100, [], [⟨31, 31, .ro, 0, (.to 0), .any⟩, ⟨9, 0, .rw, 0, .keep, .any⟩]⟩,
   -- TRS_Q_CFG: enable, resume, onchip, class, grace, kind, mask
   ⟨0x104, [], [⟨31, 31, .rw, 0, .keep, .any⟩, ⟨30, 30, .rw, 0, (.to 0), .any⟩, ⟨29, 29, .rw, 0, .keep, .any⟩, ⟨26, 24, .rw, 7, .keep, .any⟩, ⟨23, 20, .rw, 0, .keep, .any⟩, ⟨19, 16, .rw, 0, .keep, (.only 0 9)⟩, ⟨15, 0, .rw, 0, .keep, .any⟩]⟩,
   -- TRS_Q_DEPTH: cring, depth
   ⟨0x108, [], [⟨27, 24, .rw, 0, .keep, .any⟩, ⟨16, 0, .rw, 0x10000, .keep, (.clamp 1 65536)⟩]⟩,
   -- TRS_Q_SRING_LO: base, log2size
   ⟨0x110, [], [⟨31, 6, .rw, 0, .keep, .any⟩, ⟨4, 0, .rw, 4, .keep, (.clamp 4 16)⟩]⟩,
   -- TRS_Q_SRING_HI: base
   ⟨0x114, [], [⟨15, 0, .rw, 0, .keep, .any⟩]⟩,
   -- TRS_Q_CBLK_LO: base
   ⟨0x118, [], [⟨31, 6, .rw, 0, .keep, .any⟩]⟩,
   -- TRS_Q_CBLK_HI: base
   ⟨0x11C, [], [⟨15, 0, .rw, 0, .keep, .any⟩]⟩,
   -- TRS_Q_LIVE: held
   ⟨0x120, [], [⟨16, 0, .ro, 0, .keep, .any⟩]⟩,
   -- TRS_Q_SEQ_LO: seq
   ⟨0x124, [], [⟨31, 0, .ro, 0, .keep, .any⟩]⟩,
   -- TRS_Q_SEQ_HI: seq
   ⟨0x128, [], [⟨7, 0, .ro, 0, .keep, .any⟩]⟩,
   -- TRS_Q_STAT: stall
   ⟨0x12C, [], [⟨2, 0, .ro, 5, .keep, .any⟩]⟩,
   -- TRS_CR_LO[r]: base, log2size
   ⟨0x200, [(16, 0x20)], [⟨31, 5, .rw, 0, .keep, .any⟩, ⟨4, 0, .rw, 4, .keep, (.clamp 4 16)⟩]⟩]

/-- Part 2 of the trsView registers. -/
def trsViewRegs2 : List RegRow :=
  [
   -- TRS_CR_HI[r]: base
   ⟨0x204, [(16, 0x20)], [⟨15, 0, .rw, 0, .keep, .any⟩]⟩,
   -- TRS_CR_CBLK_LO[r]: base
   ⟨0x208, [(16, 0x20)], [⟨31, 6, .rw, 0, .keep, .any⟩]⟩,
   -- TRS_CR_CBLK_HI[r]: base
   ⟨0x20C, [(16, 0x20)], [⟨15, 0, .rw, 0, .keep, .any⟩]⟩,
   -- TRS_CR_CTL[r]: enable, vector
   ⟨0x210, [(16, 0x20)], [⟨31, 31, .rw, 0, .keep, .any⟩, ⟨7, 0, .rw, 0, .keep, .any⟩]⟩,
   -- TRS_CR_CONS[r]: index
   ⟨0x214, [(16, 0x20)], [⟨31, 0, .rw, 0, .keep, .any⟩]⟩,
   -- TRS_CR_PROD[r]: index
   ⟨0x218, [(16, 0x20)], [⟨31, 0, .ro, 0, .keep, .any⟩]⟩]

/-- Registers of the trsView pages (04, R111). -/
def trsViewRegs : List RegRow :=
  trsViewRegs1 ++ trsViewRegs2

/-- Registers of the doorbell pages (04, R111). -/
def doorbellRegs : List RegRow :=
  [
   -- TRS_DB: producer
   ⟨0x100, [], [⟨31, 0, .rw, 0, .keep, .any⟩]⟩,
   -- TRS_DB_CANCEL: seq
   ⟨0x104, [], [⟨31, 0, .wo, 0, (.to 0), .any⟩]⟩,
   -- TRS_DB_CANCEL_ALL: all
   ⟨0x108, [], [⟨0, 0, .wo, 0, (.to 0), .any⟩]⟩,
   -- TRS_DB_FETCH: index
   ⟨0x10C, [], [⟨31, 0, .ro, 0, .keep, .any⟩]⟩]

/-- Registers of the ldg0 pages (04, R112). -/
def ldg0Regs : List RegRow :=
  [
   -- LDG_M0_LO: base
   ⟨0x100, [], [⟨31, 0, .rw, 0, .keep, .any⟩]⟩,
   -- LDG_M0_HI: base
   ⟨0x104, [], [⟨15, 0, .rw, 0, .keep, .any⟩]⟩,
   -- LDG_M1_LO: base
   ⟨0x108, [], [⟨31, 0, .rw, 0, .keep, .any⟩]⟩,
   -- LDG_M1_HI: base
   ⟨0x10C, [], [⟨15, 0, .rw, 0, .keep, .any⟩]⟩,
   -- LDG_STAT: lost, resync, m1_ok, m0_ok
   ⟨0x110, [], [⟨3, 3, .ro, 0, .keep, .any⟩, ⟨2, 2, .ro, 0, .keep, .any⟩, ⟨1, 1, .ro, 1, .keep, .any⟩, ⟨0, 0, .ro, 1, .keep, .any⟩]⟩,
   -- LDG_RESYNC_POS: index
   ⟨0x114, [], [⟨23, 0, .ro, 0, .keep, .any⟩]⟩,
   -- LDG_CE_CNT: count
   ⟨0x118, [], [⟨31, 0, .rc, 0, .keep, .any⟩]⟩,
   -- LDG_UE_CNT: m1, m0
   ⟨0x11C, [], [⟨31, 16, .rc, 0, .keep, .any⟩, ⟨15, 0, .rc, 0, .keep, .any⟩]⟩,
   -- LDG_REGION[b]: size, base
   ⟨0x140, [(8, 0x8)], [⟨24, 16, .rw, 0, .keep, .any⟩, ⟨7, 0, .rw, 0, .keep, .any⟩]⟩,
   -- LDG_FREE[b]: free
   ⟨0x144, [(8, 0x8)], [⟨24, 0, .ro, 0, .keep, .any⟩]⟩]

/-- Registers of the ldg1 pages (04, R112). -/
def ldg1Regs : List RegRow :=
  [
   -- LDG_RD_IDX: index
   ⟨0x100, [], [⟨23, 0, .rw, 0, (.to 0), .any⟩]⟩,
   -- LDG_RD_STAT: bad, busy
   ⟨0x104, [], [⟨1, 1, .ro, 0, (.to 0), .any⟩, ⟨0, 0, .ro, 0, (.to 0), .any⟩]⟩,
   -- LDG_RD_DATA[0..15]: data
   ⟨0x140, [(16, 0x4)], [⟨31, 0, .ro, 0, (.to 0), .any⟩]⟩]

/-- Part 1 of the rft registers. -/
def rftRegs1 : List RegRow :=
  [
   -- RFT_RUN: halted, halt, run
   ⟨0x100, [], [⟨31, 31, .ro, 0, (.to 0), .any⟩, ⟨1, 1, .rw, 0, (.to 0), .any⟩, ⟨0, 0, .rw, 0, .keep, .any⟩]⟩,
   -- RFT_BOOT_LO: addr
   ⟨0x108, [], [⟨31, 4, .rw, 0, .keep, .any⟩]⟩,
   -- RFT_BOOT_HI: addr
   ⟨0x10C, [], [⟨15, 0, .rw, 0, .keep, .any⟩]⟩,
   -- RFT_BOOT_LEN: len
   ⟨0x110, [], [⟨16, 0, .rw, 0, .keep, (.clamp 0 122880)⟩]⟩,
   -- RFT_BOOT_ENT: entry
   ⟨0x114, [], [⟨16, 2, .rw, 0, .keep, .any⟩]⟩,
   -- RFT_STAT: priv, state, task
   ⟨0x118, [], [⟨9, 8, .ro, 2, (.to 2), .any⟩, ⟨7, 4, .ro, 0, (.to 0), .any⟩, ⟨0, 0, .ro, 0, (.to 0), .any⟩]⟩,
   -- RFT_TASK_IDX: index
   ⟨0x11C, [], [⟨23, 0, .ro, 0, (.to 0), .any⟩]⟩,
   -- RFT_LAST_EXC: level, cause
   ⟨0x120, [], [⟨25, 24, .ro, 0, (.to 0), .any⟩, ⟨7, 0, .ro, 0, (.to 0), .any⟩]⟩,
   -- RFT_CYCLE_LO: count
   ⟨0x128, [], [⟨31, 0, .ro, 0, (.to 0), .any⟩]⟩,
   -- RFT_CYCLE_HI: count
   ⟨0x12C, [], [⟨31, 0, .ro, 0, (.to 0), .any⟩]⟩,
   -- RFT_INSTRET_LO: count
   ⟨0x130, [], [⟨31, 0, .ro, 0, (.to 0), .any⟩]⟩,
   -- RFT_INSTRET_HI: count
   ⟨0x134, [], [⟨31, 0, .ro, 0, (.to 0), .any⟩]⟩]

/-- Part 2 of the rft registers. -/
def rftRegs2 : List RegRow :=
  [
   -- RFT_STEAL_CNT: count
   ⟨0x140, [], [⟨31, 0, .rc, 0, (.to 0), .any⟩]⟩,
   -- RFT_HOLD_CNT: count
   ⟨0x144, [], [⟨31, 0, .rc, 0, (.to 0), .any⟩]⟩,
   -- RFT_MISPRED_CNT: count
   ⟨0x148, [], [⟨31, 0, .rc, 0, (.to 0), .any⟩]⟩,
   -- RFT_STALL_CNT: count
   ⟨0x14C, [], [⟨31, 0, .rc, 0, (.to 0), .any⟩]⟩,
   -- RFT_IMAGE_CNT: count
   ⟨0x150, [], [⟨31, 0, .rc, 0, (.to 0), .any⟩]⟩,
   -- RFT_STORE_ERR_CNT: count
   ⟨0x154, [], [⟨31, 0, .rc, 0, (.to 0), .any⟩]⟩,
   -- RFT_MAILBOX: data
   ⟨0x158, [], [⟨31, 0, .rw, 0, (.to 0), .any⟩]⟩]

/-- Registers of the rft pages (05, R142). -/
def rftRegs : List RegRow :=
  rftRegs1 ++ rftRegs2

/-- Registers of the mrt pages (07, R200). -/
def mrtRegs : List RegRow :=
  [
   -- MRT_STAT: stand_in, spare, state
   ⟨0x100, [], [⟨23, 16, .ro, 0, .keep, .any⟩, ⟨8, 8, .ro, 0, .keep, .any⟩, ⟨3, 0, .ro, 0, (.to 0), .any⟩]⟩,
   -- MRT_TASK: valid, attempt, index
   ⟨0x104, [], [⟨31, 31, .ro, 0, (.to 0), .any⟩, ⟨27, 24, .ro, 0, (.to 0), .any⟩, ⟨23, 0, .ro, 0, (.to 0), .any⟩]⟩,
   -- MRT_JOB_CNT: count
   ⟨0x108, [], [⟨31, 0, .rc, 0, (.to 0), .any⟩]⟩,
   -- MRT_DESC_ERR_CNT: count
   ⟨0x10C, [], [⟨31, 0, .rc, 0, (.to 0), .any⟩]⟩,
   -- MRT_IN_ERR_CNT: count
   ⟨0x110, [], [⟨31, 0, .rc, 0, (.to 0), .any⟩]⟩,
   -- MRT_OUT_ERR_CNT: count
   ⟨0x114, [], [⟨31, 0, .rc, 0, (.to 0), .any⟩]⟩,
   -- MRT_FAULT_CNT: count
   ⟨0x118, [], [⟨31, 0, .rc, 0, (.to 0), .any⟩]⟩,
   -- MRT_ABANDON_CNT: count
   ⟨0x11C, [], [⟨31, 0, .rc, 0, (.to 0), .any⟩]⟩,
   -- MRT_SAT_CNT: count
   ⟨0x120, [], [⟨31, 0, .rc, 0, (.to 0), .any⟩]⟩,
   -- MRT_LAST_CYC: cycles
   ⟨0x124, [], [⟨31, 0, .ro, 0, (.to 0), .any⟩]⟩,
   -- MRT_BUSY_LO: cycles
   ⟨0x128, [], [⟨31, 0, .ro, 0, (.to 0), .any⟩]⟩,
   -- MRT_BUSY_HI: cycles
   ⟨0x12C, [], [⟨31, 0, .ro, 0, (.to 0), .any⟩]⟩]

/-- Registers of the fft pages (07, R201). -/
def fftRegs : List RegRow :=
  [
   -- MRT_FFT_CP[t]: long, normal
   ⟨0x400, [(8, 0x10)], [⟨31, 16, .rwl, 0, .keep, .any⟩, ⟨15, 0, .rwl, 0, .keep, .any⟩]⟩,
   -- MRT_FFT_CP_RULE[t]: long_mask, long_every, symbols
   ⟨0x404, [(8, 0x10)], [⟨31, 16, .rwl, 0, .keep, .any⟩, ⟨9, 8, .rwl, 0, .keep, .any⟩, ⟨3, 0, .rwl, 0, .keep, .any⟩]⟩,
   -- MRT_FFT_WIN[w][i]: coef_hi, coef_lo
   ⟨0x600, [(4, 0x80), (32, 0x4)], [⟨31, 16, .rwl, 0, .keep, .any⟩, ⟨15, 0, .rwl, 0, .keep, .any⟩]⟩]

/-- Registers of the pra pages (07, R201). -/
def praRegs : List RegRow :=
  [
   -- MRT_PRA_CAPTURE_DB: db
   ⟨0x400, [], [⟨4, 0, .rw, 6, .keep, (.clamp 0 20)⟩]⟩,
   -- MRT_PRA_CAPT_CNT: count
   ⟨0x404, [], [⟨31, 0, .rc, 0, (.to 0), .any⟩]⟩,
   -- MRT_PRA_COLL_CNT: count
   ⟨0x408, [], [⟨31, 0, .rc, 0, (.to 0), .any⟩]⟩,
   -- MRT_PRA_DET_CNT: count
   ⟨0x40C, [], [⟨31, 0, .rc, 0, (.to 0), .any⟩]⟩]

/-- Registers of the ldd pages (08, R234). -/
def lddRegs : List RegRow :=
  [
   -- MRT_LDD_CB_CNT: count
   ⟨0x400, [], [⟨31, 0, .rc, 0, (.to 0), .any⟩]⟩,
   -- MRT_LDD_CB_FAIL_CNT: count
   ⟨0x404, [], [⟨31, 0, .rc, 0, (.to 0), .any⟩]⟩,
   -- MRT_LDD_ITER_CNT: count
   ⟨0x408, [], [⟨31, 0, .rc, 0, (.to 0), .any⟩]⟩,
   -- MRT_LDD_MAXIT_CNT: count
   ⟨0x40C, [], [⟨31, 0, .rc, 0, (.to 0), .any⟩]⟩]

/-- Registers of the lde pages (08, R234). -/
def ldeRegs : List RegRow :=
  [
   -- MRT_LDE_CB_CNT: count
   ⟨0x400, [], [⟨31, 0, .rc, 0, (.to 0), .any⟩]⟩]

/-- Registers of the plr pages (08, R234). -/
def plrRegs : List RegRow :=
  [
   -- MRT_PLR_ENC_CNT: count
   ⟨0x400, [], [⟨31, 0, .rc, 0, (.to 0), .any⟩]⟩,
   -- MRT_PLR_DEC_CNT: count
   ⟨0x404, [], [⟨31, 0, .rc, 0, (.to 0), .any⟩]⟩,
   -- MRT_PLR_CRC_FAIL_CNT: count
   ⟨0x408, [], [⟨31, 0, .rc, 0, (.to 0), .any⟩]⟩]

/-- Registers of the trb pages (08, R234). -/
def trbRegs : List RegRow :=
  [
   -- MRT_TRB_CB_CNT: count
   ⟨0x400, [], [⟨31, 0, .rc, 0, (.to 0), .any⟩]⟩,
   -- MRT_TRB_CB_FAIL_CNT: count
   ⟨0x404, [], [⟨31, 0, .rc, 0, (.to 0), .any⟩]⟩,
   -- MRT_TRB_ITER_CNT: count
   ⟨0x408, [], [⟨31, 0, .rc, 0, (.to 0), .any⟩]⟩,
   -- MRT_TRB_MAXIT_CNT: count
   ⟨0x40C, [], [⟨31, 0, .rc, 0, (.to 0), .any⟩]⟩]

/-- Registers of the hq pages (08, R234). -/
def hqRegs : List RegRow :=
  [
   -- MRT_HQ_TAG_MISS_CNT: count
   ⟨0x400, [], [⟨31, 0, .rc, 0, (.to 0), .any⟩]⟩,
   -- MRT_HQ_HIT_CNT: count
   ⟨0x404, [], [⟨31, 0, .rc, 0, (.to 0), .any⟩]⟩,
   -- MRT_HQ_MISS_CNT: count
   ⟨0x408, [], [⟨31, 0, .rc, 0, (.to 0), .any⟩]⟩,
   -- MRT_HQ_INV: inv
   ⟨0x40C, [], [⟨0, 0, .wo, 0, (.to 0), .any⟩]⟩]

/-- Registers of the air0 pages (09, R268). -/
def air0Regs : List RegRow :=
  [
   -- AIR_STAT: demap_spare, map_spare, demap_ok, map_ok
   ⟨0x100, [], [⟨22, 20, .ro, 2, .keep, .any⟩, ⟨18, 16, .ro, 2, .keep, .any⟩, ⟨6, 4, .ro, 7, .keep, .any⟩, ⟨2, 0, .ro, 7, .keep, .any⟩]⟩,
   -- AIR_JOB_CNT: count
   ⟨0x104, [], [⟨31, 0, .rc, 0, (.to 0), .any⟩]⟩,
   -- AIR_STALE_CNT: count
   ⟨0x108, [], [⟨31, 0, .rc, 0, (.to 0), .any⟩]⟩,
   -- AIR_ERR_CNT: count
   ⟨0x10C, [], [⟨31, 0, .rc, 0, (.to 0), .any⟩]⟩,
   -- AIR_SAT_CNT: count
   ⟨0x110, [], [⟨31, 0, .rc, 0, (.to 0), .any⟩]⟩,
   -- AIR_PURGE_CNT: count
   ⟨0x114, [], [⟨31, 0, .rc, 0, (.to 0), .any⟩]⟩,
   -- AIR_PROD_ERR_CNT: count
   ⟨0x118, [], [⟨31, 0, .rc, 0, (.to 0), .any⟩]⟩,
   -- AIR_STEP[c]: step
   ⟨0x204, [(13, 0x4)], [⟨15, 0, .rwl, 0, .keep, .any⟩]⟩]

/-- Registers of the airView pages (09, R268). -/
def airViewRegs : List RegRow :=
  [
   -- AIR_CHSEL: denied, channel
   ⟨0x100, [], [⟨31, 31, .ro, 0, (.to 0), .any⟩, ⟨6, 0, .rw, 0, .keep, (.only 0 71)⟩]⟩,
   -- AIR_CH_RING_LO: base
   ⟨0x104, [], [⟨31, 11, .rw, 0, .keep, .any⟩]⟩,
   -- AIR_CH_RING_HI: base
   ⟨0x108, [], [⟨15, 0, .rw, 0, .keep, .any⟩]⟩,
   -- AIR_CH_CTL: enable
   ⟨0x10C, [], [⟨31, 31, .rw, 0, (.to 0), .any⟩]⟩,
   -- AIR_CH_STAT: busy, ring_err, prod_err, queued
   ⟨0x110, [], [⟨31, 31, .ro, 0, (.to 0), .any⟩, ⟨30, 30, .rw1c, 0, (.to 0), .any⟩, ⟨29, 29, .rw1c, 0, (.to 0), .any⟩, ⟨20, 16, .ro, 0, (.to 0), .any⟩]⟩,
   -- AIR_CH_FETCH: index
   ⟨0x114, [], [⟨31, 0, .ro, 0, (.to 0), .any⟩]⟩]

/-- Part 1 of the tys0 registers. -/
def tys0Regs1 : List RegRow :=
  [
   -- TYS_CTL: enable
   ⟨0x100, [], [⟨0, 0, .rw, 0, .keep, .any⟩]⟩,
   -- TYS_SYNC_LO: word
   ⟨0x104, [], [⟨31, 0, .rw, 0, .keep, .any⟩]⟩,
   -- TYS_SYNC_HI: word
   ⟨0x108, [], [⟨31, 0, .rw, 0, .keep, .any⟩]⟩,
   -- TYS_SYNC_CFG: max_err, det_thr
   ⟨0x10C, [], [⟨21, 16, .rw, 6, .keep, (.clamp 0 16)⟩, ⟨15, 0, .rw, 0xC00, .keep, .any⟩]⟩,
   -- TYS_CAPTURE_DB: db
   ⟨0x110, [], [⟨4, 0, .rw, 6, .keep, (.clamp 0 20)⟩]⟩,
   -- TYS_NRS_CAPTURE_DB: db
   ⟨0x114, [], [⟨4, 0, .rw, 6, .keep, (.clamp 0 20)⟩]⟩,
   -- TYS_FREQ_SEL: enable, link, peer
   ⟨0x118, [], [⟨16, 16, .rw, 0, .keep, .any⟩, ⟨9, 8, .rw, 0, .keep, .any⟩, ⟨5, 0, .rw, 0, .keep, .any⟩]⟩,
   -- TYS_FREQ_CFG: avg
   ⟨0x11C, [], [⟨5, 0, .rw, 0x10, .keep, (.clamp 1 63)⟩]⟩,
   -- TYS_JOIN_CTL: start, abort, link, max
   ⟨0x120, [], [⟨31, 31, .wo, 0, (.to 0), .any⟩, ⟨30, 30, .wo, 0, (.to 0), .any⟩, ⟨17, 16, .rw, 0, .keep, .any⟩, ⟨7, 0, .rw, 0xA, .keep, .any⟩]⟩,
   -- TYS_JOIN_STAT: node, attempts, state
   ⟨0x124, [], [⟨25, 16, .ro, 0, (.to 0), .any⟩, ⟨15, 8, .ro, 0, (.to 0), .any⟩, ⟨2, 0, .ro, 0, (.to 0), .any⟩]⟩,
   -- TYS_STR_SEL: node
   ⟨0x128, [], [⟨9, 0, .rw, 0, (.to 0), .any⟩]⟩,
   -- TYS_STR_CNT: count
   ⟨0x12C, [], [⟨15, 0, .rc, 0, (.to 0), .any⟩]⟩]

/-- Part 2 of the tys0 registers. -/
def tys0Regs2 : List RegRow :=
  [
   -- TYS_CAPT_CNT: count
   ⟨0x130, [], [⟨31, 0, .rc, 0, (.to 0), .any⟩]⟩,
   -- TYS_COLL_CNT: count
   ⟨0x134, [], [⟨31, 0, .rc, 0, (.to 0), .any⟩]⟩,
   -- TYS_OFFGRID_CNT: count
   ⟨0x138, [], [⟨31, 0, .rc, 0, (.to 0), .any⟩]⟩,
   -- TYS_HDR_ERR_CNT: count
   ⟨0x13C, [], [⟨31, 0, .rc, 0, (.to 0), .any⟩]⟩,
   -- TYS_VER_MISS_CNT: count
   ⟨0x140, [], [⟨31, 0, .rc, 0, (.to 0), .any⟩]⟩,
   -- TYS_NOT_MINE_CNT: count
   ⟨0x144, [], [⟨31, 0, .rc, 0, (.to 0), .any⟩]⟩,
   -- TYS_ACCEPT_CNT: count
   ⟨0x148, [], [⟨31, 0, .rc, 0, (.to 0), .any⟩]⟩,
   -- TYS_TAB_BASE_LO: base
   ⟨0x150, [], [⟨31, 13, .rw, 0, .keep, .any⟩]⟩,
   -- TYS_TAB_BASE_HI: base
   ⟨0x154, [], [⟨15, 0, .rw, 0, .keep, .any⟩]⟩,
   -- TYS_LINK_CFG[L]: enable, mode, band, guard, carrier, flow
   ⟨0x200, [(4, 0x40)], [⟨31, 31, .rw, 0, .keep, .any⟩, ⟨30, 30, .rw, 0, .keep, .any⟩, ⟨29, 28, .rw, 0, .keep, (.only 0 2)⟩, ⟨27, 24, .rw, 1, .keep, (.clamp 0 4)⟩, ⟨23, 16, .rw, 0, .keep, .any⟩, ⟨11, 0, .rw, 0, .keep, .any⟩]⟩,
   -- TYS_LINK_WIN[L]: win
   ⟨0x204, [(4, 0x40)], [⟨3, 0, .rw, 2, .keep, (.clamp 1 8)⟩]⟩,
   -- TYS_LINK_RF[L]: khz
   ⟨0x208, [(4, 0x40)], [⟨31, 0, .rw, 0, .keep, .any⟩]⟩]

/-- Part 3 of the tys0 registers. -/
def tys0Regs3 : List RegRow :=
  [
   -- TYS_LINK_CAL[L]: cal_tx, cal_rx
   ⟨0x20C, [(4, 0x40)], [⟨31, 16, .rw, 0, .keep, .any⟩, ⟨15, 0, .rw, 0, .keep, .any⟩]⟩,
   -- TYS_LINK_RXREC_LO[L]: base
   ⟨0x210, [(4, 0x40)], [⟨31, 12, .rw, 0, .keep, .any⟩]⟩,
   -- TYS_LINK_RXREC_HI[L]: base
   ⟨0x214, [(4, 0x40)], [⟨15, 0, .rw, 0, .keep, .any⟩]⟩,
   -- TYS_LINK_TXREC_LO[L]: base
   ⟨0x218, [(4, 0x40)], [⟨31, 12, .rw, 0, .keep, .any⟩]⟩,
   -- TYS_LINK_TXREC_HI[L]: base
   ⟨0x21C, [(4, 0x40)], [⟨15, 0, .rw, 0, .keep, .any⟩]⟩,
   -- TYS_LINK_STAT[L]: state
   ⟨0x220, [(4, 0x40)], [⟨1, 0, .ro, 0, (.to 0), .any⟩]⟩,
   -- TYS_LINK_PRE[L]: root
   ⟨0x224, [(4, 0x40)], [⟨9, 0, .rw, 1, .keep, .any⟩]⟩,
   -- TYS_PLAN[L][i]: peer, kind
   ⟨0x400, [(4, 0x40), (16, 0x4)], [⟨13, 8, .rw, 0, .keep, .any⟩, ⟨1, 0, .rw, 0, .keep, .any⟩]⟩]

/-- Registers of the tys0 pages (09, R269). -/
def tys0Regs : List RegRow :=
  tys0Regs1 ++ tys0Regs2 ++ tys0Regs3

/-- Registers of the tysPeer pages (09, R269). -/
def tysPeerRegs : List RegRow :=
  [
   -- TYS_PEER_CFG: valid, link, node
   ⟨0x100, [(32, 0x20)], [⟨31, 31, .rw, 0, .keep, .any⟩, ⟨29, 28, .rw, 0, .keep, .any⟩, ⟨9, 0, .rw, 0, .keep, .any⟩]⟩,
   -- TYS_PEER_ADV: samples
   ⟨0x104, [(32, 0x20)], [⟨14, 0, .rw, 0, .keep, .any⟩]⟩,
   -- TYS_PEER_TXV: pend, cur, v1, v0
   ⟨0x108, [(32, 0x20)], [⟨31, 31, .rw, 0, (.to 0), .any⟩, ⟨16, 16, .ro, 0, (.to 0), .any⟩, ⟨15, 8, .rw, 0, .keep, .any⟩, ⟨7, 0, .rw, 0, .keep, .any⟩]⟩,
   -- TYS_PEER_RXV: held, v3, v2
   ⟨0x10C, [(32, 0x20)], [⟨17, 16, .rw, 0, (.to 0), .any⟩, ⟨15, 8, .rw, 0, .keep, .any⟩, ⟨7, 0, .rw, 0, .keep, .any⟩]⟩,
   -- TYS_PEER_FOFF: foff
   ⟨0x110, [(32, 0x20)], [⟨31, 0, .ro, 0, (.to 0), .any⟩]⟩,
   -- TYS_PEER_THETA: theta
   ⟨0x114, [(32, 0x20)], [⟨31, 0, .ro, 0, (.to 0), .any⟩]⟩,
   -- TYS_PEER_DELTA: delta
   ⟨0x118, [(32, 0x20)], [⟨31, 0, .ro, 0, (.to 0), .any⟩]⟩,
   -- TYS_PEER_RSSI: rssi
   ⟨0x11C, [(32, 0x20)], [⟨15, 0, .ro, 0, (.to 0), .any⟩]⟩]

/-- Registers of the lft pages (10, R292). -/
def lftRegs : List RegRow :=
  [
   -- LFT_RET_EN[0]: banks
   ⟨0x100, [], [⟨31, 0, .rw, 0xFFFFFFFF, .keep, .any⟩]⟩,
   -- LFT_RET_EN[1]: banks
   ⟨0x104, [], [⟨15, 0, .rw, 0xFFFF, .keep, .any⟩]⟩,
   -- LFT_RET_LOST[0]: banks
   ⟨0x108, [], [⟨31, 0, .rw1c, 0, .keep, .any⟩]⟩,
   -- LFT_RET_LOST[1]: banks
   ⟨0x10C, [], [⟨15, 0, .rw1c, 0, .keep, .any⟩]⟩,
   -- LFT_CE_CNT: count
   ⟨0x110, [], [⟨31, 0, .rc, 0, (.to 0), .any⟩]⟩,
   -- LFT_UE_CNT: count
   ⟨0x114, [], [⟨31, 0, .rc, 0, (.to 0), .any⟩]⟩,
   -- LFT_WIN_REFUSE_CNT: count
   ⟨0x118, [], [⟨31, 0, .rc, 0, (.to 0), .any⟩]⟩,
   -- LFT_WIN[w]: enable, space, bay, base
   ⟨0x200, [(64, 0x8)], [⟨31, 31, .rw, 0, .keep, .any⟩, ⟨30, 30, .rw, 0, .keep, .any⟩, ⟨26, 24, .rw, 0, .keep, .any⟩, ⟨9, 0, .rw, 0, .keep, .any⟩]⟩,
   -- LFT_WIN_SIZE[w]: size
   ⟨0x204, [(64, 0x8)], [⟨9, 0, .rw, 0, .keep, .any⟩]⟩,
   -- LFT_BANK_STAT[m]: shim_used, failing, state, ce
   ⟨0x400, [(60, 0x4)], [⟨27, 24, .ro, 0, .keep, .any⟩, ⟨20, 20, .ro, 0, .keep, .any⟩, ⟨18, 16, .ro, 0, .keep, .any⟩, ⟨15, 0, .ro, 0, (.to 0), .any⟩]⟩]

/-- Registers of the pln pages (10, R293). -/
def plnRegs : List RegRow :=
  [
   -- PLN_CTL: rate, enable
   ⟨0x100, [], [⟨9, 8, .ro, 0, .keep, .any⟩, ⟨0, 0, .rw, 1, .keep, .any⟩]⟩,
   -- PLN_STAT: ret_busy, lap_slow
   ⟨0x104, [], [⟨31, 31, .ro, 0, (.to 0), .any⟩, ⟨9, 0, .rw1c, 0, (.to 0), .any⟩]⟩,
   -- PLN_LAST[g]: us
   ⟨0x110, [(10, 0x10)], [⟨31, 0, .ro, 0, (.to 0), .any⟩]⟩,
   -- PLN_WORST[g]: us
   ⟨0x114, [(10, 0x10)], [⟨31, 0, .rc, 0, (.to 0), .any⟩]⟩,
   -- PLN_LAP_LIMIT[g]: us
   ⟨0x118, [(10, 0x10)], [⟨31, 0, .rw, 0x2710, .keep, .any⟩]⟩,
   -- PLN_LAPS[g]: count
   ⟨0x11C, [(10, 0x10)], [⟨31, 0, .rc, 0, (.to 0), .any⟩]⟩,
   -- PLN_REPAIR_CNT: count
   ⟨0x200, [], [⟨31, 0, .rc, 0, (.to 0), .any⟩]⟩,
   -- PLN_REPAIR_DROP_CNT: count
   ⟨0x204, [], [⟨31, 0, .rc, 0, (.to 0), .any⟩]⟩,
   -- PLN_UE_CNT: count
   ⟨0x208, [], [⟨31, 0, .rc, 0, (.to 0), .any⟩]⟩]

/-- Registers of the shm pages (10, R294). -/
def shmRegs : List RegRow :=
  [
   -- SHM_STAT: bist_done
   ⟨0x100, [], [⟨31, 31, .ro, 0, .keep, .any⟩]⟩,
   -- SHM_PROMO_CNT: count
   ⟨0x104, [], [⟨31, 0, .rc, 0, .keep, .any⟩]⟩,
   -- SHM_FULL_CNT: count
   ⟨0x108, [], [⟨31, 0, .rc, 0, .keep, .any⟩]⟩,
   -- SHM_RD_SEL: entry, memory
   ⟨0x140, [], [⟨10, 8, .rw, 0, (.to 0), .any⟩, ⟨7, 0, .rw, 0, (.to 0), (.oneOf [(0, 59), (128, 199)])⟩]⟩,
   -- SHM_RD_DATA: valid, origin, word
   ⟨0x144, [], [⟨31, 31, .ro, 0, .keep, .any⟩, ⟨30, 29, .ro, 0, .keep, .any⟩, ⟨15, 0, .ro, 0, .keep, .any⟩]⟩]

/-- Part 1 of the drc0 registers. [log 8] -/
def drc0Regs1 : List RegRow :=
  [
   -- DRC_CFG: iecc, page, rh_k
   ⟨0x100, [], [⟨31, 31, .ro, 1, .keep, .any⟩, ⟨9, 8, .ro, 0, .keep, .any⟩, ⟨3, 0, .rw, 0xA, .keep, (.clamp 6 14)⟩]⟩,
   -- DRC_SIZE: installed, usable
   ⟨0x104, [], [⟨24, 16, .ro, 0x100, .keep, .any⟩, ⟨8, 0, .ro, 0xE0, .keep, .any⟩]⟩,
   -- DRC_BATCH: rd_age, wr_hi, wr_lo
   ⟨0x108, [], [⟨23, 16, .rw, 0x32, .keep, .any⟩, ⟨13, 8, .rw, 0x30, .keep, .any⟩, ⟨5, 0, .rw, 0x10, .keep, .any⟩]⟩,
   -- DRC_RETRAIN: step, period
   ⟨0x10C, [], [⟨19, 16, .rw, 1, .keep, .any⟩, ⟨15, 0, .rw, 0x64, .keep, .any⟩]⟩,
   -- DRC_STAT: trained, retraining, ch_failed
   ⟨0x110, [], [⟨31, 31, .ro, 0, .keep, .any⟩, ⟨30, 30, .ro, 0, (.to 0), .any⟩, ⟨15, 0, .ro, 0, .keep, .any⟩]⟩,
   -- DRC_CE_CNT: count
   ⟨0x114, [], [⟨31, 0, .rc, 0, .keep, .any⟩]⟩,
   -- DRC_UE_CNT: count
   ⟨0x118, [], [⟨31, 0, .rc, 0, .keep, .any⟩]⟩,
   -- DRC_MERGE_CNT: count
   ⟨0x11C, [], [⟨31, 0, .rc, 0, (.to 0), .any⟩]⟩,
   -- DRC_WIN_REFUSE_CNT: count
   ⟨0x120, [], [⟨31, 0, .rc, 0, (.to 0), .any⟩]⟩,
   -- DRC_SR_REFUSE_CNT: count
   ⟨0x124, [], [⟨31, 0, .rc, 0, (.to 0), .any⟩]⟩,
   -- DRC_CH_FAIL_LIM: limit
   ⟨0x128, [], [⟨15, 0, .rw, 0x40, .keep, .any⟩]⟩,
   -- DRC_SR_KEEP[h]: rank1, rank0
   ⟨0x140, [(2, 0x4)], [⟨15, 8, .rw, 0xFF, .keep, .any⟩, ⟨7, 0, .rw, 0xFF, .keep, .any⟩]⟩]

/-- Part 2 of the drc0 registers. -/
def drc0Regs2 : List RegRow :=
  [
   -- DRC_WIN[w]: enable, pinned, fw, bay, base
   ⟨0x400, [(32, 0x8)], [⟨31, 31, .rw, 0, .keep, .any⟩, ⟨30, 30, .rw, 0, .keep, .any⟩, ⟨29, 29, .rw, 0, .keep, .any⟩, ⟨26, 24, .rw, 0, .keep, .any⟩, ⟨11, 0, .rw, 0, .keep, .any⟩]⟩,
   -- DRC_WIN_SIZE[w]: size
   ⟨0x404, [(32, 0x8)], [⟨12, 0, .rw, 0, .keep, .any⟩]⟩]

/-- Registers of the drc0 pages (11, R316). -/
def drc0Regs : List RegRow :=
  drc0Regs1 ++ drc0Regs2

/-- Registers of the drc1 pages (11, R316). -/
def drc1Regs : List RegRow :=
  [
   -- DRC_CH_STAT[c]: retry, state
   ⟨0x100, [(16, 0x20)], [⟨8, 8, .ro, 0, .keep, .any⟩, ⟨2, 0, .ro, 0, .keep, .any⟩]⟩,
   -- DRC_CH_TEMP[c]: code
   ⟨0x104, [(16, 0x20)], [⟨4, 0, .ro, 0, .keep, .any⟩]⟩,
   -- DRC_CH_ACT_CNT[c]: count
   ⟨0x108, [(16, 0x20)], [⟨31, 0, .rc, 0, (.to 0), .any⟩]⟩,
   -- DRC_CH_NBR_CNT[c]: count
   ⟨0x10C, [(16, 0x20)], [⟨31, 0, .rc, 0, (.to 0), .any⟩]⟩,
   -- DRC_CH_REF_CNT[c]: count
   ⟨0x110, [(16, 0x20)], [⟨31, 0, .rc, 0, (.to 0), .any⟩]⟩,
   -- DRC_CH_CE_CNT[c]: count
   ⟨0x114, [(16, 0x20)], [⟨31, 0, .rc, 0, .keep, .any⟩]⟩,
   -- DRC_CH_UE_CNT[c]: count
   ⟨0x118, [(16, 0x20)], [⟨31, 0, .rc, 0, .keep, .any⟩]⟩]

/-- Registers of the skd pages (12, R335). -/
def skdRegs : List RegRow :=
  [
   -- SKD_ACTIVE_LO: chans
   ⟨0x100, [], [⟨31, 0, .ro, 0, (.to 0), .any⟩]⟩,
   -- SKD_ACTIVE_HI: chans
   ⟨0x104, [], [⟨31, 0, .ro, 0, (.to 0), .any⟩]⟩,
   -- SKD_HALTED_LO: chans
   ⟨0x108, [], [⟨31, 0, .ro, 0, (.to 0), .any⟩]⟩,
   -- SKD_HALTED_HI: chans
   ⟨0x10C, [], [⟨31, 0, .ro, 0, (.to 0), .any⟩]⟩,
   -- SKD_RD_BYTES_LO: count
   ⟨0x110, [], [⟨31, 0, .ro, 0, (.to 0), .any⟩]⟩,
   -- SKD_RD_BYTES_HI: count
   ⟨0x114, [], [⟨31, 0, .ro, 0, (.to 0), .any⟩]⟩,
   -- SKD_WR_BYTES_LO: count
   ⟨0x118, [], [⟨31, 0, .ro, 0, (.to 0), .any⟩]⟩,
   -- SKD_WR_BYTES_HI: count
   ⟨0x11C, [], [⟨31, 0, .ro, 0, (.to 0), .any⟩]⟩,
   -- SKD_BUF_PEAK: kib
   ⟨0x120, [], [⟨8, 0, .rc, 0, (.to 0), .any⟩]⟩]

/-- Part 1 of the skdCh registers. -/
def skdChRegs1 : List RegRow :=
  [
   -- SKD_CH_CTL: go, abort, resume, skip, sw_trig, wb, burst, prio, depth
   ⟨0x100, [], [⟨31, 31, .wo, 0, (.to 0), .any⟩, ⟨30, 30, .wo, 0, (.to 0), .any⟩, ⟨29, 29, .wo, 0, (.to 0), .any⟩, ⟨28, 28, .wo, 0, (.to 0), .any⟩, ⟨27, 27, .wo, 0, (.to 0), .any⟩, ⟨12, 12, .rw, 0, .keep, .any⟩, ⟨10, 8, .rw, 6, .keep, (.clamp 0 6)⟩, ⟨5, 4, .rw, 3, .keep, .any⟩, ⟨2, 0, .rw, 4, .keep, (.clamp 0 4)⟩]⟩,
   -- SKD_CH_HEAD_LO: addr
   ⟨0x104, [], [⟨31, 6, .rw, 0, .keep, .any⟩]⟩,
   -- SKD_CH_HEAD_HI: addr
   ⟨0x108, [], [⟨15, 0, .rw, 0, .keep, .any⟩]⟩,
   -- SKD_CH_TRIG: badtrig, kind, src
   ⟨0x10C, [], [⟨31, 31, .ro, 0, .keep, .any⟩, ⟨17, 16, .rw, 0, .keep, (.only 0 2)⟩, ⟨5, 0, .rw, 0, .keep, .any⟩]⟩,
   -- SKD_CH_STAT: late_abort, err_tail, pending, state
   ⟨0x110, [], [⟨31, 31, .ro, 0, (.to 0), .any⟩, ⟨30, 30, .ro, 0, (.to 0), .any⟩, ⟨29, 29, .ro, 0, (.to 0), .any⟩, ⟨3, 0, .ro, 0, (.to 0), .any⟩]⟩,
   -- SKD_CH_CUR_LO: addr
   ⟨0x114, [], [⟨31, 6, .ro, 0, (.to 0), .any⟩]⟩,
   -- SKD_CH_CUR_HI: addr
   ⟨0x118, [], [⟨15, 0, .ro, 0, (.to 0), .any⟩]⟩,
   -- SKD_CH_REMAIN: bytes
   ⟨0x11C, [], [⟨31, 0, .ro, 0, (.to 0), .any⟩]⟩,
   -- SKD_CH_ROWS: rows
   ⟨0x120, [], [⟨15, 0, .ro, 0, (.to 0), .any⟩]⟩,
   -- SKD_CH_ERR_LO: addr
   ⟨0x124, [], [⟨31, 0, .ro, 0, (.to 0), .any⟩]⟩,
   -- SKD_CH_ERR_HI: valid, code, more, kind, dir, addr
   ⟨0x128, [], [⟨31, 31, .ro, 0, (.to 0), .any⟩, ⟨27, 24, .ro, 0, (.to 0), .any⟩, ⟨22, 22, .ro, 0, (.to 0), .any⟩, ⟨21, 19, .ro, 0, (.to 0), .any⟩, ⟨16, 16, .ro, 0, (.to 0), .any⟩, ⟨15, 0, .ro, 0, (.to 0), .any⟩]⟩,
   -- SKD_CH_HELD: bytes
   ⟨0x12C, [], [⟨17, 0, .ro, 0, (.to 0), .any⟩]⟩]

/-- Part 2 of the skdCh registers. -/
def skdChRegs2 : List RegRow :=
  [
   -- SKD_CH_SUBMIT_LO: word
   ⟨0x130, [], [⟨31, 0, .ro, 0, (.to 0), .any⟩]⟩,
   -- SKD_CH_SUBMIT_HI: word
   ⟨0x134, [], [⟨31, 0, .ro, 0, (.to 0), .any⟩]⟩,
   -- SKD_CH_DESC_CNT: count
   ⟨0x140, [], [⟨31, 0, .rc, 0, (.to 0), .any⟩]⟩,
   -- SKD_CH_ERR_CNT: count
   ⟨0x144, [], [⟨31, 0, .rc, 0, (.to 0), .any⟩]⟩,
   -- SKD_CH_TRIG_LOST_CNT: count
   ⟨0x148, [], [⟨31, 0, .rc, 0, (.to 0), .any⟩]⟩,
   -- SKD_CH_EVT_CNT: count
   ⟨0x14C, [], [⟨31, 0, .rc, 0, (.to 0), .any⟩]⟩,
   -- SKD_CH_REFUSE_CNT: count
   ⟨0x150, [], [⟨31, 0, .rc, 0, (.to 0), .any⟩]⟩]

/-- Registers of the skdCh pages (12, R336). -/
def skdChRegs : List RegRow :=
  skdChRegs1 ++ skdChRegs2

/-- Part 1 of the scf registers. -/
def scfRegs1 : List RegRow :=
  [
   -- SCF_LANE_CTL: enable, restart, test, proto, rate, precode_req, tx_inv, rx_inv, gang, loop
   ⟨0x100, [], [⟨31, 31, .rw, 0, .keep, .any⟩, ⟨30, 30, .wo, 0, (.to 0), .any⟩, ⟨29, 29, .rw, 0, .keep, .any⟩, ⟨27, 26, .rw, 0, .keep, .any⟩, ⟨25, 24, .rw, 0, .keep, (.only 0 1)⟩, ⟨20, 20, .rw, 1, .keep, .any⟩, ⟨17, 17, .rw, 0, .keep, .any⟩, ⟨16, 16, .rw, 0, .keep, .any⟩, ⟨13, 12, .ro, 0, .keep, .any⟩, ⟨9, 8, .rw, 0, .keep, .any⟩]⟩,
   -- SCF_LANE_STAT: state, tbl_busy, entry, attempt, drop_cause, precode_tx, precode_rx, sig_det
   ⟨0x104, [], [⟨31, 28, .ro, 0, .keep, .any⟩, ⟨27, 27, .ro, 0, (.to 0), .any⟩, ⟨24, 20, .ro, 0, .keep, .any⟩, ⟨15, 8, .ro, 0, .keep, .any⟩, ⟨7, 4, .ro, 0, .keep, .any⟩, ⟨2, 2, .ro, 0, .keep, .any⟩, ⟨1, 1, .ro, 0, .keep, .any⟩, ⟨0, 0, .ro, 0, .keep, .any⟩]⟩,
   -- SCF_LANE_DROP_CNT: count
   ⟨0x108, [], [⟨31, 0, .rc, 0, (.to 0), .any⟩]⟩,
   -- SCF_LANE_SKEW: skew
   ⟨0x10C, [], [⟨15, 0, .ro, 0, .keep, .any⟩]⟩,
   -- SCF_TX_FFE: taps
   ⟨0x110, [], [⟨29, 0, .rw, 0, .keep, .any⟩]⟩,
   -- SCF_TX_CTL: manual
   ⟨0x114, [], [⟨0, 0, .rw, 0, .keep, .any⟩]⟩,
   -- SCF_RX_ADAPT: freeze, converged, ctle
   ⟨0x120, [], [⟨31, 31, .rw, 0, .keep, .any⟩, ⟨28, 28, .ro, 0, .keep, .any⟩, ⟨4, 0, .ro, 0, .keep, .any⟩]⟩,
   -- SCF_RX_FFE[0..23]: tap
   ⟨0x140, [(24, 0x4)], [⟨9, 0, .ro, 0, .keep, .any⟩]⟩,
   -- SCF_RX_DFE[0..3]: tap
   ⟨0x1A0, [(4, 0x4)], [⟨9, 0, .ro, 0, .keep, .any⟩]⟩,
   -- SCF_PRBS_CTL: clear, inv, chk_en, chk_pat, gen_en, gen_pat
   ⟨0x200, [], [⟨31, 31, .wo, 0, (.to 0), .any⟩, ⟨20, 20, .rw, 0, .keep, .any⟩, ⟨19, 19, .rw, 0, .keep, .any⟩, ⟨18, 16, .rw, 0, .keep, .any⟩, ⟨3, 3, .rw, 0, .keep, .any⟩, ⟨2, 0, .rw, 0, .keep, .any⟩]⟩,
   -- SCF_PRBS_STAT: lock, lock_loss
   ⟨0x204, [], [⟨31, 31, .ro, 0, (.to 0), .any⟩, ⟨15, 0, .rc, 0, (.to 0), .any⟩]⟩,
   -- SCF_PRBS_ERR_LO: count
   ⟨0x208, [], [⟨31, 0, .ro, 0, (.to 0), .any⟩]⟩]

/-- Part 2 of the scf registers. -/
def scfRegs2 : List RegRow :=
  [
   -- SCF_PRBS_ERR_HI: count
   ⟨0x20C, [], [⟨31, 0, .ro, 0, (.to 0), .any⟩]⟩,
   -- SCF_PRBS_BITS_LO: count
   ⟨0x210, [], [⟨31, 0, .ro, 0, (.to 0), .any⟩]⟩,
   -- SCF_PRBS_BITS_HI: count
   ⟨0x214, [], [⟨31, 0, .ro, 0, (.to 0), .any⟩]⟩,
   -- SCF_EYE_CTL: start, busy, dwell, eye, volt, phase
   ⟨0x240, [], [⟨31, 31, .wo, 0, (.to 0), .any⟩, ⟨30, 30, .ro, 0, (.to 0), .any⟩, ⟨29, 24, .rw, 0x14, .keep, (.clamp 10 40)⟩, ⟨21, 20, .rw, 0, .keep, (.only 0 2)⟩, ⟨15, 8, .rw, 0, .keep, (.signed 127)⟩, ⟨5, 0, .rw, 0, .keep, .any⟩]⟩,
   -- SCF_EYE_CNT: count
   ⟨0x244, [], [⟨31, 0, .ro, 0, (.to 0), .any⟩]⟩,
   -- SCF_FEC_CORR_CNT: count
   ⟨0x280, [], [⟨31, 0, .rc, 0, (.to 0), .any⟩]⟩,
   -- SCF_FEC_UNCORR_CNT: count
   ⟨0x284, [], [⟨31, 0, .rc, 0, (.to 0), .any⟩]⟩,
   -- SCF_FEC_SYM_CNT: count
   ⟨0x288, [], [⟨31, 0, .rc, 0, (.to 0), .any⟩]⟩,
   -- SCF_FEC_MODE: low_latency
   ⟨0x28C, [], [⟨0, 0, .ro, 0, .keep, .any⟩]⟩,
   -- SCF_QUAD_CTL: pll_en, ref_sel, relock_max
   ⟨0x300, [], [⟨31, 31, .rw, 0, .keep, .any⟩, ⟨8, 8, .rw, 0, .keep, .any⟩, ⟨3, 0, .rw, 8, .keep, .any⟩]⟩,
   -- SCF_QUAD_STAT: lock, lol, pll_failed
   ⟨0x304, [], [⟨31, 31, .ro, 0, .keep, .any⟩, ⟨30, 30, .rw1c, 0, .keep, .any⟩, ⟨29, 29, .ro, 0, .keep, .any⟩]⟩,
   -- SCF_QUAD_LOL_CNT: count
   ⟨0x308, [], [⟨31, 0, .rc, 0, .keep, .any⟩]⟩]

/-- Part 3 of the scf registers. -/
def scfRegs3 : List RegRow :=
  [
   -- SCF_SEQ_LO[0..31]: entry
   ⟨0x800, [(32, 0x8)], [⟨31, 0, .rw, 0, .keep, .any⟩]⟩,
   -- SCF_SEQ_HI[0..31]: entry
   ⟨0x804, [(32, 0x8)], [⟨31, 0, .rw, 0, .keep, .any⟩]⟩]

/-- Registers of the scf pages (13, R360). -/
def scfRegs : List RegRow :=
  scfRegs1 ++ scfRegs2 ++ scfRegs3

/-- Part 1 of the peg registers. -/
def pegRegs1 : List RegRow :=
  [
   -- PEG_LANE_CTL: enable, restart, test, proto, opt, ref, pll_en, tx_inv, rx_inv, loop
   ⟨0x100, [], [⟨31, 31, .rw, 0, .keep, .any⟩, ⟨30, 30, .wo, 0, (.to 0), .any⟩, ⟨29, 29, .rw, 0, .keep, .any⟩, ⟨27, 26, .rw, 0, .keep, .any⟩, ⟨25, 23, .rw, 7, .keep, (.clamp 1 7)⟩, ⟨21, 21, .rw, 0, .keep, .any⟩, ⟨20, 20, .rw, 0, .keep, .any⟩, ⟨17, 17, .rw, 0, .keep, .any⟩, ⟨16, 16, .rw, 0, .keep, .any⟩, ⟨9, 8, .rw, 0, .keep, .any⟩]⟩,
   -- PEG_LANE_STAT: state, tbl_busy, entry, opt_now, pll_lock, attempt, drop_cause, sig_det
   ⟨0x104, [], [⟨31, 28, .ro, 0, .keep, .any⟩, ⟨27, 27, .ro, 0, (.to 0), .any⟩, ⟨24, 20, .ro, 0, .keep, .any⟩, ⟨19, 17, .ro, 0, .keep, .any⟩, ⟨16, 16, .ro, 0, .keep, .any⟩, ⟨15, 8, .ro, 0, .keep, .any⟩, ⟨7, 4, .ro, 0, .keep, .any⟩, ⟨0, 0, .ro, 0, .keep, .any⟩]⟩,
   -- PEG_LANE_DROP_CNT: count
   ⟨0x108, [], [⟨31, 0, .rc, 0, (.to 0), .any⟩]⟩,
   -- PEG_LANE_SKEW: skew
   ⟨0x10C, [], [⟨15, 0, .ro, 0, .keep, .any⟩]⟩,
   -- PEG_TX_FFE: taps
   ⟨0x110, [], [⟨17, 0, .rw, 0, .keep, .any⟩]⟩,
   -- PEG_TX_CTL: manual
   ⟨0x114, [], [⟨0, 0, .rw, 0, .keep, .any⟩]⟩,
   -- PEG_RX_ADAPT: freeze, converged, ctle
   ⟨0x120, [], [⟨31, 31, .rw, 0, .keep, .any⟩, ⟨28, 28, .ro, 0, .keep, .any⟩, ⟨4, 0, .ro, 0, .keep, .any⟩]⟩,
   -- PEG_RX_FFE[0..23]: tap
   ⟨0x140, [(24, 0x4)], [⟨9, 0, .ro, 0, .keep, .any⟩]⟩,
   -- PEG_RX_DFE[0..4]: tap
   ⟨0x1A0, [(5, 0x4)], [⟨9, 0, .ro, 0, .keep, .any⟩]⟩,
   -- PEG_PRBS_CTL: clear, inv, chk_en, chk_pat, gen_en, gen_pat
   ⟨0x200, [], [⟨31, 31, .wo, 0, (.to 0), .any⟩, ⟨20, 20, .rw, 0, .keep, .any⟩, ⟨19, 19, .rw, 0, .keep, .any⟩, ⟨18, 16, .rw, 0, .keep, (.only 0 5)⟩, ⟨3, 3, .rw, 0, .keep, .any⟩, ⟨2, 0, .rw, 0, .keep, (.only 0 5)⟩]⟩,
   -- PEG_PRBS_STAT: lock, lock_loss
   ⟨0x204, [], [⟨31, 31, .ro, 0, (.to 0), .any⟩, ⟨15, 0, .rc, 0, (.to 0), .any⟩]⟩,
   -- PEG_PRBS_ERR_LO: count
   ⟨0x208, [], [⟨31, 0, .ro, 0, (.to 0), .any⟩]⟩]

/-- Part 2 of the peg registers. -/
def pegRegs2 : List RegRow :=
  [
   -- PEG_PRBS_ERR_HI: count
   ⟨0x20C, [], [⟨31, 0, .ro, 0, (.to 0), .any⟩]⟩,
   -- PEG_PRBS_BITS_LO: count
   ⟨0x210, [], [⟨31, 0, .ro, 0, (.to 0), .any⟩]⟩,
   -- PEG_PRBS_BITS_HI: count
   ⟨0x214, [], [⟨31, 0, .ro, 0, (.to 0), .any⟩]⟩,
   -- PEG_EYE_CTL: start, busy, dwell, eye, volt, phase
   ⟨0x240, [], [⟨31, 31, .wo, 0, (.to 0), .any⟩, ⟨30, 30, .ro, 0, (.to 0), .any⟩, ⟨29, 24, .rw, 0x14, .keep, (.clamp 10 40)⟩, ⟨21, 20, .rw, 0, .keep, (.only 0 2)⟩, ⟨15, 8, .rw, 0, .keep, (.signed 127)⟩, ⟨5, 0, .rw, 0, .keep, .any⟩]⟩,
   -- PEG_EYE_CNT: count
   ⟨0x244, [], [⟨31, 0, .ro, 0, (.to 0), .any⟩]⟩,
   -- PEG_COMMA: mask, pattern
   ⟨0x280, [], [⟨25, 16, .rw, 0x3FF, .keep, .any⟩, ⟨9, 0, .rw, 0xFA, .keep, .any⟩]⟩,
   -- PEG_CODE_ERR_CNT: count
   ⟨0x284, [], [⟨31, 0, .rc, 0, (.to 0), .any⟩]⟩,
   -- PEG_DISP_ERR_CNT: count
   ⟨0x288, [], [⟨31, 0, .rc, 0, (.to 0), .any⟩]⟩,
   -- PEG_HFN_LOSS_CNT: count
   ⟨0x28C, [], [⟨31, 0, .rc, 0, (.to 0), .any⟩]⟩,
   -- PEG_SEQ_LO[0..31]: entry
   ⟨0x800, [(32, 0x8)], [⟨31, 0, .rw, 0, .keep, .any⟩]⟩,
   -- PEG_SEQ_HI[0..31]: entry
   ⟨0x804, [(32, 0x8)], [⟨31, 0, .rw, 0, .keep, .any⟩]⟩]

/-- Registers of the peg pages (13, R361). -/
def pegRegs : List RegRow :=
  pegRegs1 ++ pegRegs2

/-- Registers of the grt0 pages (14, R393). -/
def grt0Regs : List RegRow :=
  [
   -- GRT_CTL: enable
   ⟨0x100, [], [⟨0, 0, .rw, 0, .keep, .any⟩]⟩,
   -- GRT_MISS_CNT: count
   ⟨0x104, [], [⟨31, 0, .rc, 0, (.to 0), .any⟩]⟩,
   -- GRT_BADHDR_CNT: count
   ⟨0x108, [], [⟨31, 0, .rc, 0, (.to 0), .any⟩]⟩,
   -- GRT_CLS_CMD: busy, dup, op, index
   ⟨0x110, [], [⟨31, 31, .ro, 0, (.to 0), .any⟩, ⟨30, 30, .ro, 0, (.to 0), .any⟩, ⟨29, 28, .wo, 0, (.to 0), .any⟩, ⟨15, 0, .rw, 0, (.to 0), .any⟩]⟩,
   -- GRT_CLS_DATA[0..7]: data
   ⟨0x114, [(8, 0x4)], [⟨31, 0, .rw, 0, (.to 0), .any⟩]⟩,
   -- GRT_FG_CMD: busy, op, index
   ⟨0x140, [], [⟨31, 31, .ro, 0, (.to 0), .any⟩, ⟨29, 28, .wo, 0, (.to 0), .any⟩, ⟨11, 0, .rw, 0, (.to 0), .any⟩]⟩,
   -- GRT_FG_DATA[0..13]: data
   ⟨0x144, [(14, 0x4)], [⟨31, 0, .rw, 0, (.to 0), .any⟩]⟩,
   -- GRT_GCL_SEL: port, list, entry
   ⟨0x180, [], [⟨21, 16, .rw, 0, (.to 0), (.only 0 39)⟩, ⟨10, 10, .rw, 0, (.to 0), .any⟩, ⟨9, 0, .rw, 0, (.to 0), .any⟩]⟩,
   -- GRT_GCL_DATA: gates, ns
   ⟨0x184, [], [⟨31, 24, .rw, 0xFF, .keep, .any⟩, ⟨23, 0, .rw, 0, .keep, .any⟩]⟩,
   -- GRT_HDR[0..15]: template
   ⟨0x200, [(16, 0x40), (16, 0x4)], [⟨31, 0, .rwl, 0, .keep, .any⟩]⟩]

/-- Registers of the grt1 pages (14, R393). -/
def grt1Regs : List RegRow :=
  [
   -- GRT_PORT_CFG: enable, speed, badcar, mate, anchor
   ⟨0x100, [(40, 0x10)], [⟨31, 31, .rw, 0, .keep, .any⟩, ⟨29, 28, .rw, 0, .keep, .any⟩, ⟨27, 27, .ro, 0, (.to 0), .any⟩, ⟨21, 16, .rw, 0x3F, .keep, .any⟩, ⟨15, 8, .rw, 0, .keep, .any⟩]⟩,
   -- GRT_PORT_GCL: swap, oper, len
   ⟨0x104, [(40, 0x10)], [⟨31, 31, .wo, 0, (.to 0), .any⟩, ⟨30, 30, .ro, 0, .keep, .any⟩, ⟨26, 16, .rw, 1, .keep, (.clamp 1 1024)⟩]⟩,
   -- GRT_PORT_ADV: ns
   ⟨0x108, [(40, 0x10)], [⟨31, 0, .rw, 0, .keep, .any⟩]⟩,
   -- GRT_PORT_DROP_CNT: count
   ⟨0x10C, [(40, 0x10)], [⟨31, 0, .rc, 0, (.to 0), .any⟩]⟩]

/-- Registers of the hst pages (14, R394). [log 8] -/
def hstRegs : List RegRow :=
  [
   -- HST_LINK_STAT: perst, ltssm, rate, width
   ⟨0x100, [], [⟨31, 31, .ro, 1, .keep, .any⟩, ⟨19, 16, .ro, 0, .keep, .any⟩, ⟨11, 8, .ro, 0, .keep, .any⟩, ⟨4, 0, .ro, 0, .keep, .any⟩]⟩,
   -- HST_BIF: mode
   ⟨0x104, [], [⟨1, 0, .ro, 0, .keep, .any⟩]⟩,
   -- HST_CFG: bar4
   ⟨0x108, [], [⟨2, 0, .rwl, 6, .keep, (.clamp 0 6)⟩]⟩,
   -- HST_FN_SEL: fn
   ⟨0x10C, [], [⟨4, 0, .rw, 0, .keep, (.only 0 16)⟩]⟩,
   -- HST_FN_CFG: en, bay
   ⟨0x110, [], [⟨31, 31, .rw, 1, .keep, .any⟩, ⟨2, 0, .rw, 0, .keep, .any⟩]⟩,
   -- HST_FN_STAT: bme, msix_en
   ⟨0x114, [], [⟨31, 31, .ro, 0, .keep, .any⟩, ⟨30, 30, .ro, 0, .keep, .any⟩]⟩,
   -- HST_UR_CNT: count
   ⟨0x120, [], [⟨31, 0, .rc, 0, (.to 0), .any⟩]⟩,
   -- HST_CA_CNT: count
   ⟨0x124, [], [⟨31, 0, .rc, 0, (.to 0), .any⟩]⟩,
   -- HST_CPL_ERR_CNT: count
   ⟨0x128, [], [⟨31, 0, .rc, 0, (.to 0), .any⟩]⟩,
   -- HST_LINKDOWN_CNT: count
   ⟨0x12C, [], [⟨31, 0, .rc, 0, .keep, .any⟩]⟩]

/-- Registers of the bay pages (14, R395). -/
def bayRegs : List RegRow :=
  [
   -- BAY_CTL: reset
   ⟨0x100, [], [⟨31, 31, .wo, 0, (.to 0), .any⟩]⟩,
   -- BAY_STAT: resetting, moving
   ⟨0x104, [], [⟨31, 31, .ro, 0, (.to 0), .any⟩, ⟨30, 30, .ro, 0, (.to 0), .any⟩]⟩,
   -- BAY_IRQ: en, host, fn
   ⟨0x108, [], [⟨31, 31, .rw, 0, .keep, .any⟩, ⟨9, 8, .rw, 0, .keep, .any⟩, ⟨4, 0, .rw, 0, .keep, (.only 0 16)⟩]⟩,
   -- BAY_HWIN_LO[h]: base
   ⟨0x110, [(4, 0x8)], [⟨31, 12, .rw, 0, .keep, .any⟩]⟩,
   -- BAY_HWIN_HI[h]: base
   ⟨0x114, [(4, 0x8)], [⟨31, 0, .rw, 0, .keep, .any⟩]⟩,
   -- BAY_HWIN_FN[h]: fn
   ⟨0x130, [(4, 0x4)], [⟨4, 0, .rw, 0, .keep, (.only 0 16)⟩]⟩,
   -- BAY_HQ_CACHE: en, window, offset, mib
   ⟨0x140, [], [⟨31, 31, .rw, 0, .keep, .any⟩, ⟨21, 16, .rw, 0, .keep, .any⟩, ⟨15, 8, .rw, 0, .keep, .any⟩, ⟨4, 0, .rw, 0, .keep, (.clamp 0 16)⟩]⟩,
   -- BAY_BENTS[b]: bents
   ⟨0x400, [(8, 0x40)], [⟨7, 0, .rw, 0, .keep, .any⟩]⟩,
   -- BAY_LIMITS[b]: min_class
   ⟨0x404, [(8, 0x40)], [⟨2, 0, .rw, 0, .keep, .any⟩]⟩,
   -- BAY_RESET_REQ[b]: reset
   ⟨0x408, [(8, 0x40)], [⟨0, 0, .wo, 0, (.to 0), .any⟩]⟩,
   -- BAY_ENG[b][c]: mask
   ⟨0x410, [(8, 0x40), (9, 0x4)], [⟨15, 0, .rw, 0, .keep, .any⟩]⟩]

/-- Registers of the xng pages (15, R418). -/
def xngRegs : List RegRow :=
  [
   -- XNG_RESET_CTL: warm
   ⟨0x100, [], [⟨31, 31, .wo, 0, (.to 0), .any⟩]⟩,
   -- XNG_RESET_CAUSE: cause
   ⟨0x104, [], [⟨3, 0, .ro, 0, .keep, .any⟩]⟩,
   -- XNG_QUAR_CNT: count
   ⟨0x108, [], [⟨31, 0, .rc, 0, .keep, .any⟩]⟩,
   -- XNG_ISL_SEL: island
   ⟨0x110, [], [⟨6, 0, .rw, 0, .keep, .any⟩]⟩,
   -- XNG_ISL_CTL: reset
   ⟨0x114, [], [⟨31, 31, .wo, 0, (.to 0), .any⟩]⟩,
   -- XNG_STATUS: resetting, held, qcause, state
   ⟨0x118, [], [⟨31, 31, .ro, 0, (.to 0), .any⟩, ⟨30, 30, .ro, 0, (.to 0), .any⟩, ⟨9, 8, .ro, 0, (.to 0), .any⟩, ⟨2, 0, .ro, 0, (.to 0), .any⟩]⟩,
   -- XNG_ERR_RESP_CNT: count
   ⟨0x11C, [], [⟨31, 0, .rc, 0, (.to 0), .any⟩]⟩,
   -- XNG_HOLD_CNT: count
   ⟨0x120, [], [⟨31, 0, .rc, 0, (.to 0), .any⟩]⟩,
   -- XNG_QUAR_MAP[0..3]: islands
   ⟨0x200, [(4, 0x4)], [⟨31, 0, .ro, 0, .keep, .any⟩]⟩]

/-- Registers of the pur pages (15, R419). -/
def purRegs : List RegRow :=
  [
   -- PUR_STAT: rerouting
   ⟨0x100, [], [⟨31, 31, .ro, 0, (.to 0), .any⟩]⟩,
   -- PUR_DOWN_LO: routers
   ⟨0x104, [], [⟨31, 0, .ro, 0, .keep, .any⟩]⟩,
   -- PUR_DOWN_HI: routers
   ⟨0x108, [], [⟨15, 0, .ro, 0, .keep, .any⟩]⟩,
   -- PUR_TIMEOUT_CNT: count
   ⟨0x10C, [], [⟨31, 0, .rc, 0, (.to 0), .any⟩]⟩,
   -- PUR_REROUTE_CNT: count
   ⟨0x110, [], [⟨31, 0, .rc, 0, .keep, .any⟩]⟩,
   -- PUR_TIMEOUT: us
   ⟨0x114, [], [⟨15, 0, .rw, 0xA, .keep, (.clamp 1 1000)⟩]⟩,
   -- PUR_RTR_STAT[r]: down, resends
   ⟨0x200, [(48, 0x4)], [⟨31, 31, .ro, 0, .keep, .any⟩, ⟨15, 0, .rc, 0, (.to 0), .any⟩]⟩]

/-- Part 1 of the lcs registers. [log 8] -/
def lcsRegs1 : List RegRow :=
  [
   -- LCS_STATE: pending, target, state
   ⟨0x100, [], [⟨11, 11, .ro, 0, .keep, .any⟩, ⟨10, 8, .ro, 0, .keep, .any⟩, ⟨2, 0, .ro, 2, .keep, .any⟩]⟩,
   -- LCS_STAT: wipe_partial, resumes, strap, boot_sel, source
   ⟨0x104, [], [⟨31, 31, .ro, 0, .keep, .any⟩, ⟨23, 16, .ro, 0, .keep, .any⟩, ⟨10, 8, .ro, 0, .keep, .any⟩, ⟨5, 4, .ro, 0, .keep, .any⟩, ⟨1, 0, .ro, 0, .keep, .any⟩]⟩,
   -- LCS_TRANS_TGT: state
   ⟨0x108, [], [⟨2, 0, .rw, 0, (.to 0), (.only 0 4)⟩]⟩,
   -- LCS_TRANS_GO: key
   ⟨0x10C, [], [⟨31, 0, .wo, 0, (.to 0), .any⟩]⟩,
   -- LCS_TRANS_STAT: code
   ⟨0x110, [], [⟨3, 0, .ro, 0, (.to 0), .any⟩]⟩,
   -- LCS_AUTH_LO: addr
   ⟨0x114, [], [⟨31, 6, .rw, 0, (.to 0), .any⟩]⟩,
   -- LCS_AUTH_HI: addr
   ⟨0x118, [], [⟨15, 0, .rw, 0, (.to 0), .any⟩]⟩,
   -- LCS_BOOT_STAT: code
   ⟨0x120, [], [⟨3, 0, .ro, 0, .keep, .any⟩]⟩,
   -- LCS_BOOT_LEN: bytes
   ⟨0x124, [], [⟨23, 0, .rw, 0, (.to 0), .any⟩]⟩,
   -- LCS_BOOT_GO: go
   ⟨0x128, [], [⟨0, 0, .wo, 0, (.to 0), .any⟩]⟩,
   -- LCS_SVN: svn
   ⟨0x12C, [], [⟨5, 0, .ro, 0, .keep, .any⟩]⟩,
   -- LCS_DEVID_LO: id
   ⟨0x130, [], [⟨31, 0, .ro, 1, .keep, .any⟩]⟩]

/-- Part 2 of the lcs registers. -/
def lcsRegs2 : List RegRow :=
  [
   -- LCS_DEVID_HI: id
   ⟨0x134, [], [⟨31, 0, .ro, 0, .keep, .any⟩]⟩,
   -- LCS_MEAS[m][w]: digest
   ⟨0x200, [(4, 0x30), (12, 0x4)], [⟨31, 0, .ro, 0, .keep, .any⟩]⟩]

/-- Registers of the lcs pages (15, R420). -/
def lcsRegs : List RegRow :=
  lcsRegs1 ++ lcsRegs2

/-- Part 1 of the pwr registers. -/
def pwrRegs1 : List RegRow :=
  [
   -- PWR_DEV_REQ: state
   ⟨0x100, [], [⟨1, 0, .wo, 0, (.to 0), .any⟩]⟩,
   -- PWR_DEV_STAT: busy, pending, abort_cause, prior, state
   ⟨0x104, [], [⟨31, 31, .ro, 0, (.to 0), .any⟩, ⟨30, 30, .ro, 0, (.to 0), .any⟩, ⟨19, 16, .ro, 0, .keep, .any⟩, ⟨5, 4, .ro, 0, (.to 0), .any⟩, ⟨1, 0, .ro, 0, (.to 0), .any⟩]⟩,
   -- PWR_TRIM_IDLE: ns
   ⟨0x108, [], [⟨15, 0, .rw, 0x3E8, .keep, (.clamp 100 65535)⟩]⟩,
   -- PWR_ISL_SEL: island
   ⟨0x110, [], [⟨6, 0, .rw, 8, (.to 8), (.only 8 82)⟩]⟩,
   -- PWR_ISL_REQ: state
   ⟨0x114, [], [⟨1, 0, .wo, 0, (.to 0), .any⟩]⟩,
   -- PWR_ISL_STAT: busy, pending, state
   ⟨0x118, [], [⟨31, 31, .ro, 0, (.to 0), .any⟩, ⟨30, 30, .ro, 0, (.to 0), .any⟩, ⟨1, 0, .ro, 0, (.to 0), .any⟩]⟩,
   -- PWR_KEEP[b]: keep
   ⟨0x120, [(8, 0x4)], [⟨0, 0, .rw, 0, .keep, .any⟩]⟩,
   -- PWR_REFUSE_CNT[n]: count
   ⟨0x144, [(6, 0x4)], [⟨31, 0, .rc, 0, .keep, .any⟩]⟩,
   -- PWR_LAST_REFUSE: requester, detail, code
   ⟨0x160, [], [⟨31, 24, .ro, 0, .keep, .any⟩, ⟨23, 4, .ro, 0, .keep, .any⟩, ⟨3, 0, .ro, 0, .keep, .any⟩]⟩,
   -- PWR_ABORT_CNT: count
   ⟨0x164, [], [⟨31, 0, .rc, 0, .keep, .any⟩]⟩,
   -- PWR_SUPERSEDE_CNT: count
   ⟨0x168, [], [⟨31, 0, .rc, 0, .keep, .any⟩]⟩,
   -- PWR_LAST_SUPERSEDED: bay, island, state
   ⟨0x16C, [], [⟨26, 24, .ro, 0, .keep, .any⟩, ⟨14, 8, .ro, 0, .keep, .any⟩, ⟨1, 0, .ro, 0, .keep, .any⟩]⟩]

/-- Part 2 of the pwr registers. -/
def pwrRegs2 : List RegRow :=
  [
   -- PWR_WAKE_CFG[k]: mode, polarity, enable
   ⟨0x180, [(8, 0x4)], [⟨2, 2, .rw, 0, .keep, .any⟩, ⟨1, 1, .rw, 0, .keep, .any⟩, ⟨0, 0, .rw, 0, .keep, .any⟩]⟩,
   -- PWR_WAKE_EN: flow, doorbell
   ⟨0x1A0, [], [⟨1, 1, .rw, 1, .keep, .any⟩, ⟨0, 0, .rw, 0, .keep, .any⟩]⟩,
   -- PWR_WAKE_TMR: timers
   ⟨0x1A4, [], [⟨31, 0, .rw, 0, .keep, .any⟩]⟩,
   -- PWR_WAKE_LAST: source, detail
   ⟨0x1A8, [], [⟨31, 28, .ro, 0, .keep, .any⟩, ⟨27, 16, .ro, 0, .keep, .any⟩]⟩,
   -- PWR_WAKE_NS: ns
   ⟨0x1AC, [], [⟨29, 0, .ro, 0, .keep, .any⟩]⟩,
   -- PWR_WAKE_CNT: count
   ⟨0x1B0, [], [⟨31, 0, .rc, 0, .keep, .any⟩]⟩,
   -- PWR_CAR_SEL: carrier
   ⟨0x1C0, [], [⟨7, 0, .rw, 0, (.to 0), .any⟩]⟩,
   -- PWR_CAR_REQ: op
   ⟨0x1C4, [], [⟨31, 31, .wo, 0, (.to 0), .any⟩]⟩,
   -- PWR_CAR_SLOT: count
   ⟨0x1C8, [], [⟨31, 0, .rw, 0, (.to 0), .any⟩]⟩,
   -- PWR_CAR_STAT: pending, asleep
   ⟨0x1CC, [], [⟨1, 1, .ro, 0, .keep, .any⟩, ⟨0, 0, .ro, 0, .keep, .any⟩]⟩,
   -- PWR_PROFILE: sel
   ⟨0x1E0, [], [⟨1, 0, .rw, 0, .keep, (.only 0 2)⟩]⟩,
   -- PWR_PROF_STAT: busy, clamped, now
   ⟨0x1E4, [], [⟨31, 31, .ro, 0, (.to 0), .any⟩, ⟨30, 30, .ro, 0, .keep, .any⟩, ⟨1, 0, .ro, 0, .keep, .any⟩]⟩]

/-- Part 3 of the pwr registers. -/
def pwrRegs3 : List RegRow :=
  [
   -- PWR_AVS_STAT: mv
   ⟨0x1E8, [], [⟨9, 0, .ro, 0x2BC, .keep, .any⟩]⟩]

/-- Registers of the pwr pages (16, R438). -/
def pwrRegs : List RegRow :=
  pwrRegs1 ++ pwrRegs2 ++ pwrRegs3

/-- Part 1 of the gau registers. -/
def gauRegs1 : List RegRow :=
  [
   -- GAU_CTL: sw_start, cont_en, trig_en, ring_en, align
   ⟨0x100, [], [⟨31, 31, .wo, 0, (.to 0), .any⟩, ⟨4, 4, .rw, 0, .keep, .any⟩, ⟨3, 3, .rw, 0, .keep, .any⟩, ⟨2, 2, .rw, 0, .keep, .any⟩, ⟨1, 1, .rw, 0, .keep, .any⟩]⟩,
   -- GAU_STAT: busy, pending, powered, entry
   ⟨0x104, [], [⟨31, 31, .ro, 0, (.to 0), .any⟩, ⟨30, 30, .ro, 0, (.to 0), .any⟩, ⟨29, 29, .ro, 0, (.to 0), .any⟩, ⟨13, 8, .ro, 0, (.to 0), .any⟩]⟩,
   -- GAU_TRIG: timer_en, src
   ⟨0x108, [], [⟨8, 8, .rw, 0, .keep, .any⟩, ⟨4, 0, .rw, 0, .keep, .any⟩]⟩,
   -- GAU_SCAN_LEN: len
   ⟨0x10C, [], [⟨6, 0, .rw, 1, .keep, (.clamp 1 64)⟩]⟩,
   -- GAU_OW_CFG: thr, settle
   ⟨0x110, [], [⟨31, 16, .rw, 0x1000, .keep, .any⟩, ⟨7, 0, .rw, 0x14, .keep, (.clamp 1 255)⟩]⟩,
   -- GAU_TRIG_LOST_CNT: count
   ⟨0x114, [], [⟨31, 0, .rc, 0, (.to 0), .any⟩]⟩,
   -- GAU_RING_LO: base, log2size
   ⟨0x118, [], [⟨31, 6, .rw, 0, .keep, .any⟩, ⟨4, 0, .rw, 4, .keep, (.clamp 4 16)⟩]⟩,
   -- GAU_RING_HI: base
   ⟨0x11C, [], [⟨15, 0, .rw, 0, .keep, .any⟩]⟩,
   -- GAU_RING_PROD: index
   ⟨0x120, [], [⟨31, 0, .ro, 0, .keep, .any⟩]⟩,
   -- GAU_RING_CONS: index
   ⟨0x124, [], [⟨31, 0, .rw, 0, .keep, .any⟩]⟩,
   -- GAU_RING_DROP_CNT: count
   ⟨0x128, [], [⟨31, 0, .rc, 0, (.to 0), .any⟩]⟩,
   -- GAU_PASS_CNT: count
   ⟨0x12C, [], [⟨31, 0, .rc, 0, (.to 0), .any⟩]⟩]

/-- Part 2 of the gau registers. -/
def gauRegs2 : List RegRow :=
  [
   -- GAU_ALARM_LO: entries
   ⟨0x140, [], [⟨31, 0, .rw1c, 0, (.to 0), .any⟩]⟩,
   -- GAU_ALARM_HI: entries
   ⟨0x144, [], [⟨31, 0, .rw1c, 0, (.to 0), .any⟩]⟩,
   -- GAU_OPEN_LO: entries
   ⟨0x148, [], [⟨31, 0, .rw1c, 0, (.to 0), .any⟩]⟩,
   -- GAU_OPEN_HI: entries
   ⟨0x14C, [], [⟨31, 0, .rw1c, 0, (.to 0), .any⟩]⟩,
   -- GAU_SCAN[e]: group, class, every, ow, alarm_en, diff, input
   ⟨0x200, [(64, 0x4)], [⟨24, 24, .rw, 0, .keep, .any⟩, ⟨21, 20, .rw, 0, .keep, (.only 0 2)⟩, ⟨19, 16, .rw, 0, .keep, .any⟩, ⟨14, 12, .rw, 0, .keep, (.only 0 4)⟩, ⟨8, 8, .rw, 0, .keep, .any⟩, ⟨7, 7, .rw, 0, .keep, .any⟩, ⟨4, 0, .rw, 0, .keep, .any⟩]⟩,
   -- GAU_LIM[e]: hi, lo
   ⟨0x300, [(64, 0x4)], [⟨31, 16, .rw, 0xFFFF, .keep, .any⟩, ⟨15, 0, .rw, 0, .keep, .any⟩]⟩,
   -- GAU_RES[e]: result
   ⟨0x400, [(64, 0x4)], [⟨31, 0, .ro, 0, (.to 0), .any⟩]⟩]

/-- Registers of the gau pages (17, R451). -/
def gauRegs : List RegRow :=
  gauRegs1 ++ gauRegs2

/-- Registers of the plt1 pages (18, R461). -/
def plt1Regs : List RegRow :=
  [
   -- PLT_FLT_HEAD: seq
   ⟨0x100, [], [⟨31, 0, .ro, 0, .keep, .any⟩]⟩,
   -- PLT_FLT_DEGRADED: kinds
   ⟨0x104, [], [⟨11, 0, .ro, 0, .keep, .any⟩]⟩,
   -- PLT_FLT_RD_SEQ: seq
   ⟨0x108, [], [⟨31, 0, .rw, 0, (.to 0), .any⟩]⟩,
   -- PLT_FLT_RD_STAT: miss, busy
   ⟨0x10C, [], [⟨1, 1, .ro, 0, (.to 0), .any⟩, ⟨0, 0, .ro, 0, (.to 0), .any⟩]⟩,
   -- PLT_FLT_RD_DATA[0..3]: data
   ⟨0x110, [(4, 0x4)], [⟨31, 0, .ro, 0, (.to 0), .any⟩]⟩,
   -- PLT_SVC_UNIT: kind, unit
   ⟨0x120, [], [⟨15, 8, .rw, 0, (.to 0), (.only 1 11)⟩, ⟨7, 0, .rw, 0, (.to 0), .any⟩]⟩,
   -- PLT_SVC_CLR: key
   ⟨0x124, [], [⟨31, 0, .wo, 0, (.to 0), .any⟩]⟩]

/-- Registers of the grtView pages (14, R393). -/
def grtViewRegs : List RegRow :=
  [
   -- GRT_RING_LO[d][r]: base, log2size
   ⟨0x100, [(2, 0x200), (16, 0x20)], [⟨31, 5, .rw, 0, .keep, .any⟩, ⟨4, 0, .rw, 4, .keep, (.clamp 4 16)⟩]⟩,
   -- GRT_RING_HI[d][r]: base
   ⟨0x104, [(2, 0x200), (16, 0x20)], [⟨15, 0, .rw, 0, .keep, .any⟩]⟩,
   -- GRT_RING_CTL[d][r]: enable
   ⟨0x108, [(2, 0x200), (16, 0x20)], [⟨31, 31, .rw, 0, .keep, .any⟩]⟩,
   -- GRT_RX_PROD[r]: index
   ⟨0x10C, [(16, 0x20)], [⟨31, 0, .ro, 0, .keep, .any⟩]⟩,
   -- GRT_RX_CONS[r]: index
   ⟨0x110, [(16, 0x20)], [⟨31, 0, .rw, 0, .keep, .any⟩]⟩,
   -- GRT_RING_DROP_CNT[d][r]: count
   ⟨0x114, [(2, 0x200), (16, 0x20)], [⟨31, 0, .rc, 0, (.to 0), .any⟩]⟩,
   -- GRT_TX_PROD[r]: index
   ⟨0x30C, [(16, 0x20)], [⟨31, 0, .rw, 0, .keep, .any⟩]⟩,
   -- GRT_TX_CONS[r]: index
   ⟨0x310, [(16, 0x20)], [⟨31, 0, .ro, 0, .keep, .any⟩]⟩]

/-- Registers of the cmp pages. -/
def cmpRegs : List RegRow :=
  [
   -- GRT_FMT[f]: method, static, width
   ⟨0x100, [(16, 0x4)], [⟨15, 12, .rwl, 0, .keep, .any⟩, ⟨8, 8, .rwl, 0, .keep, .any⟩, ⟨4, 0, .rwl, 0, .keep, .any⟩]⟩,
   -- GRT_CMP_SAT_CNT: count
   ⟨0x200, [], [⟨31, 0, .rc, 0, (.to 0), .any⟩]⟩]

/-- The registers of a page kind. -/
def rowsOf : PageKind → List RegRow
  | .header => []
  | .glb => glbRegs
  | .bnt => bntRegs
  | .plt0 => plt0Regs
  | .scb => scbRegs
  | .rdg0 => rdg0Regs
  | .rdg1 => rdg1Regs
  | .rdg2 => rdg2Regs
  | .rdg3 => rdg3Regs
  | .rdgCar => rdgCarRegs
  | .rdgView => rdgViewRegs
  | .trs0 => trs0Regs
  | .trsView => trsViewRegs
  | .doorbell => doorbellRegs
  | .ldg0 => ldg0Regs
  | .ldg1 => ldg1Regs
  | .rft => rftRegs
  | .mrt => mrtRegs
  | .fft => fftRegs ++ mrtRegs
  | .pra => praRegs ++ mrtRegs
  | .ldd => lddRegs ++ mrtRegs
  | .lde => ldeRegs ++ mrtRegs
  | .plr => plrRegs ++ mrtRegs
  | .trb => trbRegs ++ mrtRegs
  | .hq => hqRegs ++ mrtRegs
  | .air0 => air0Regs
  | .airView => airViewRegs
  | .tys0 => tys0Regs
  | .tysPeer => tysPeerRegs
  | .lft => lftRegs
  | .pln => plnRegs
  | .shm => shmRegs
  | .drc0 => drc0Regs
  | .drc1 => drc1Regs
  | .skd => skdRegs
  | .skdCh => skdChRegs
  | .scf => scfRegs
  | .peg => pegRegs
  | .grt0 => grt0Regs
  | .grt1 => grt1Regs
  | .hst => hstRegs
  | .bay => bayRegs
  | .xng => xngRegs
  | .pur => purRegs
  | .lcs => lcsRegs
  | .pwr => pwrRegs
  | .gau => gauRegs
  | .plt1 => plt1Regs
  | .grtView => grtViewRegs
  | .cmp => cmpRegs

end Sys2Proof.Machine
end

