-- ==== Sys2Proof/Machine/RegMap.lean ====
section
/-! DEFINITION. The page map of the register window (02): what page a number names, its header constants, the
island it stands in, and the Cold value of every register word. -/

namespace Sys2Proof.Machine

/-- What the page map and the owning chapters say of a page (R20). -/
structure PageInfo where
  kind : PageKind
  block : Nat
  inst : Nat
  pages : Nat
  irqs : Nat
  ownable : Bool
  logged : Bool
  wide : Bool
  island : Nat
  deriving DecidableEq, Repr

/-- Engine classes in the order of the page map: pages of the class, spare included. -/
def engineCounts : List Nat := [9, 9, 7, 3, 13, 7, 5, 5, 9]

/-- Class (0 BFM to 8 HQ) and index in the class of a global engine page index. -/
def engineClass (e : Nat) : Nat × Nat :=
  go e 0 engineCounts
where
  go (e c : Nat) : List Nat → Nat × Nat
    | [] => (c, e)
    | n :: r => if e < n then (c, e) else go (e - n) (c + 1) r

/-- First engine page index of a class. -/
def classBase (c : Nat) : Nat := (engineCounts.take c).foldl (· + ·) 0

/-- Page kind of an engine class. -/
def engineKind : Nat → PageKind
  | 2 => .fft
  | 3 => .pra
  | 4 => .ldd
  | 5 => .lde
  | 6 => .plr
  | 7 => .trb
  | 8 => .hq
  | _ => .mrt

/-- The page map of 02. DESIGN CHOICE (log 123): on the pages of a block that has several, PG_ID.instance is the page's index in
the block, and PG_CAP.page_count the number of the block's pages. [log 123] -/
def pageInfo (p : Nat) : Option PageInfo :=
  let r (lo n : Nat) : Bool := decide (lo ≤ p ∧ p < lo + n)
  let g (k : PageKind) (block inst pages irqs : Nat) (wide : Bool) (isl : Nat) : Option PageInfo :=
    some ⟨k, block, inst, pages, irqs, false, true, wide, isl⟩
  let o (k : PageKind) (block inst pages irqs : Nat) (wide : Bool) (isl : Nat) : Option PageInfo :=
    some ⟨k, block, inst, pages, irqs, true, true, wide, isl⟩
  if p = 0 then g .glb 0x01 0 1 0 false 0
  else if p = 1 then g .lcs 0x02 0 1 2 true 0
  else if p = 2 then g .pwr 0x03 0 1 7 false 0
  else if p = 3 then g .xng 0x04 0 1 4 false 0
  else if p = 4 then g .scb 0x05 0 1 0 true 0
  else if p = 8 then g .plt0 0x06 0 4 2 false 0
  else if p = 9 then g .plt1 0x06 1 4 2 false 0
  else if r 10 2 then g .header 0x06 (p - 8) 4 0 false 0
  else if p = 0x10 then g .rdg0 0x10 0 16 8 true 1
  else if p = 0x11 then g .rdg1 0x10 1 16 0 false 1
  else if p = 0x12 then g .rdg2 0x10 2 16 0 true 1
  else if p = 0x13 then g .rdg3 0x10 3 16 0 true 1
  else if r 0x14 2 then g .rdgCar 0x10 (p - 0x10) 16 0 false 1
  else if r 0x16 8 then o .rdgView 0x10 (p - 0x10) 16 0 true 1
  else if r 0x1E 2 then g .header 0x10 (p - 0x10) 16 0 false 1
  else if p = 0x20 then g .trs0 0x20 0 16 2 false 0
  else if r 0x21 7 then g .header 0x20 (p - 0x20) 16 0 false 0
  else if r 0x28 8 then o .trsView 0x20 (p - 0x20) 16 5 true 0
  else if p = 0x30 then g .ldg0 0x21 0 4 0 true 0
  else if p = 0x31 then g .ldg1 0x21 1 4 0 false 0
  else if r 0x32 2 then g .header 0x21 (p - 0x30) 4 0 false 0
  else if r 0x40 8 then o .bnt 0x30 (p - 0x40) 1 2 false (8 + (p - 0x40))
  else if r 0x80 72 then o .rft 0x31 (p - 0x80) 1 4 true (8 + (p - 0x80) / 9)
  else if r 0x100 67 then
    let ci := engineClass (p - 0x100)
    o (engineKind ci.1) (0x40 + ci.1) ci.2 1 6 true (16 + (p - 0x100))
  else if p = 0x180 then g .lft 0x50 0 1 4 false 2
  else if p = 0x188 then g .pln 0x51 0 1 3 false 2
  else if p = 0x190 then g .shm 0x52 0 1 3 false 2
  else if p = 0x1C0 then g .drc0 0x58 0 8 5 false 4
  else if p = 0x1C1 then g .drc1 0x58 1 8 0 false 4
  else if r 0x1C2 6 then g .header 0x58 (p - 0x1C0) 8 0 false 4
  else if p = 0x200 then g .skd 0x60 0 65 1 true 2
  else if r 0x201 64 then o .skdCh 0x60 (p - 0x200) 65 6 true 2
  else if r 0x280 48 then g .scf 0x70 (p - 0x280) 1 6 true (96 + (p - 0x280) / 4)
  else if r 0x2C0 8 then g .peg 0x71 (p - 0x2C0) 1 6 true (108 + (p - 0x2C0))
  else if p = 0x300 then g .grt0 0x78 0 32 0 true 3
  else if p = 0x301 then g .grt1 0x78 1 32 0 false 3
  else if r 0x302 8 then o .grtView 0x78 (p - 0x300) 32 3 true 3
  else if p = 0x30A then g .cmp 0x79 0 1 0 false 3
  else if r 0x30B 21 then g .header 0x78 (p - 0x300) 32 0 false 3
  else if r 0x340 4 then g .hst 0x80 (p - 0x340) 1 4 false 3
  else if p = 0x360 then g .bay 0x81 0 1 2 true 0
  else if r 0x361 7 then o .bay 0x81 (p - 0x360) 1 2 true 0
  else if p = 0x380 then g .gau 0x88 0 1 6 true 5
  else if p = 0x3A0 then g .air0 0x49 0 16 4 false 2
  else if r 0x3A1 8 then o .airView 0x49 (p - 0x3A0) 16 0 true 2
  else if r 0x3A9 7 then g .header 0x49 (p - 0x3A0) 16 0 false 2
  else if p = 0x3B0 then g .tys0 0x4A 0 16 7 true 2
  else if r 0x3B1 2 then g .tysPeer 0x4A (p - 0x3B0) 16 0 false 2
  else if r 0x3B3 13 then g .header 0x4A (p - 0x3B0) 16 0 false 2
  else if p = 0x3C0 then g .pur 0x90 0 1 3 true 0
  else if r 0x1000 1024 then
    some ⟨.doorbell, 0x20, (p - 0x1000) % 256, 1, 0, true, false, false, 0⟩
  else none

/-- The array index of an in-page offset in a row, where the row holds it: the element's offset from the row. -/
def inDims (d : Nat) : List (Nat × Nat) → Bool
  | [] => d == 0
  | (n, st) :: r => (List.range n).any fun i => st * i ≤ d && inDims (d - st * i) r

/-- The row of a page kind's table that holds an in-page offset. -/
def findRow (k : PageKind) (off : Nat) : Option RegRow :=
  (rowsOf k).find? fun r => r.off ≤ off && inDims (off - r.off) r.dims

/-- The row of a window offset. The grant registers exist on BAY[0] alone (R395), HST_BIF on HST[0] (R394), and the quad's
registers on the page of its first lane (R357). -/
def rowAt (a : Nat) : Option RegRow :=
  match pageInfo (a / 4096) with
  | some i =>
    let off := a % 4096
    if (i.kind == .bay && i.inst != 0 && decide (0x400 ≤ off)) || (i.kind == .hst && i.inst != 0 && off == 0x104) ||
        (i.kind == .scf && i.inst % 4 != 0 && decide (0x300 ≤ off ∧ off < 0x30C)) then none
    else findRow i.kind off
  | none => none

def fieldsCold (fs : List Field) : Nat := fs.foldl (fun n f => putBits n f.hi f.lo f.cold) 0

/-- An MRT_FFT CP table at cold reset (R176): long, normal, mask, log2 of long_every, symbols. -/
def fftCpCold : Nat → Nat × Nat × Nat × Nat × Nat
  | 0 => (160, 144, 0x0081, 0, 14)
  | 1 => (176, 144, 0x0001, 0, 14)
  | 2 => (208, 144, 0x0001, 1, 14)
  | 3 => (512, 512, 0, 0, 12)
  | 4 => (272, 144, 0x0001, 2, 14)
  | 5 => (400, 144, 0x0001, 3, 14)
  | 6 => (160, 144, 0x0001, 0, 7)
  | _ => (512, 512, 0, 0, 6)

/-- Raised-cosine coefficients of MRT_FFT_WIN table 0 (R201), Q15, computed from the rule's formula. -/
def raisedCosine : List Nat :=
  [5, 44, 123, 241, 398, 593, 827, 1098, 1406, 1749, 2128, 2542, 2989, 3468, 3978, 4518, 5086, 5682, 6304, 6950, 7618, 8308, 9017, 9744, 10487, 11244, 12014, 12794, 13583, 14378, 15178, 15981] ++
  [16786, 17589, 18389, 19184, 19973, 20753, 21523, 22280, 23023, 23750, 24459, 25149, 25817, 26463, 27085, 27681, 28249, 28789, 29299, 29778, 30225, 30639, 31018, 31361, 31669, 31940, 32174, 32369, 32526, 32644, 32723, 32762]

/-- AIR_STEP[1..13] at cold reset (R243). -/
def airStepCold : List Nat :=
  [46341, 46341, 26755, 20724, 12853, 10112, 6365, 5026, 3175, 2510, 1587, 1254, 46341]

/-- Cold values that a table gives by reference to another rule. -/
def coldSpecial (i : PageInfo) (a : Nat) : Option Nat :=
  let off := a % 4096
  match i.kind with
  | .cmp =>
    if off = 0x100 then some 0x0110
    else if off = 0x104 then some 0x1008
    else if off = 0x108 then some 0x1009
    else if off = 0x10C then some 0x100C
    else if off = 0x110 then some 0x100E
    else if off = 0x114 then some 0x3008
    else if decide (0x118 ≤ off ∧ off < 0x140) then some 0xF000
    else none
  | .bay =>
    if i.inst = 0 ∧ off = 0x400 then some 0xFF
    else if i.inst = 0 ∧ decide (0x410 ≤ off ∧ off < 0x434) ∧ off % 4 = 0 then
      some (2 ^ (engineCounts.getD ((off - 0x410) / 4) 0) - 1)
    else none
  | .fft =>
    if decide (0x400 ≤ off ∧ off < 0x480) then
      let c := fftCpCold ((off - 0x400) / 16)
      if off % 16 = 0 then some (c.1 * 65536 + c.2.1)
      else if off % 16 = 4 then some (c.2.2.1 * 65536 + c.2.2.2.1 * 256 + c.2.2.2.2) else none
    else if decide (0x600 ≤ off ∧ off < 0x680) ∧ off % 4 = 0 then
      let i := (off - 0x600) / 2
      some (raisedCosine.getD (i + 1) 0 * 65536 + raisedCosine.getD i 0)
    else engineStat i off
  | .air0 => if decide (0x204 ≤ off ∧ off < 0x238) ∧ off % 4 = 0 then some (airStepCold.getD ((off - 0x204) / 4) 0) else none
  | .mrt | .pra | .ldd | .lde | .plr | .trb | .hq => engineStat i off
  | _ => none
where
  /-- MRT_STAT: stand_in at the engine's own index, spare on the last engine of its class (R171, R202). -/
  engineStat (i : PageInfo) (off : Nat) : Option Nat :=
    if off = 0x100 then
      some (i.inst * 65536 + bitNat (i.inst + 1 == engineCounts.getD (i.block - 0x40) 0) * 256)
    else none

/-- The Cold value of a header word (R20). -/
def coldHeader (i : PageInfo) (off : Nat) : Nat :=
  if off = 0x000 then i.block * 0x10000 + (i.inst % 256) * 0x100 + 1
  else if off = 0x004 then
    i.pages * 0x1000000 + i.irqs * 0x10000 + bitNat i.wide * 0x100 + bitNat i.ownable * 0x80 + bitNat i.logged * 0x40
  else 0

/-- The Cold value of a register word. Keys at or above 0x400_0000 are copies of a register that another register
selects; they share the Cold value of the register's own offset. [log 14] -/
def coldWord (k : Nat) : BitVec 32 :=
  let a := k % 0x4000000
  match pageInfo (a / 4096) with
  | none => 0
  | some i =>
    if a % 4096 < 0x100 then BitVec.ofNat 32 (coldHeader i (a % 4096))
    else match coldSpecial i a with
      | some v => BitVec.ofNat 32 v
      | none => match findRow i.kind (a % 4096) with
        | some r => BitVec.ofNat 32 (fieldsCold r.fields)
        | none => 0

/-- The key of copy `i` of a selected register whose own offset is `a`. [log 14] -/
def bank (i a : Nat) : Nat := 0x4000000 * (i + 1) + a

end Sys2Proof.Machine
end

