-- ==== Sys2Proof/Machine/State.lean ====
section
/-! DEFINITION. The state of the KS9640 as plain data: the register file of the window, the memories with their
errors, the page hub, and every block's queues, buffers and modes. Commands wait in `pending`, first in, first out. -/

namespace Sys2Proof.Machine

/-- A finite map as plain data: keys strictly rising. -/
abbrev Table (α : Type) := List (Nat × α)

/-- Why the machine stops. Every effect the spec gives is modelled, so only a stop the spec itself makes is here. -/
inductive Fault where
  /-- Raised by nothing in this model: every access to an address that does not exist is answered with the error
  that the spec names (R17, R18) and the machine goes on. The type has one reason because it must have some. Safe. -/
  | none
  deriving DecidableEq, Repr

/-- Why a command has no meaning. -/
inductive Refusal where
  /-- The command's row has no meaning in this model yet. Safe: nothing can be proved of its effect. -/
  | notModelled (mnemonic : String)
  deriving DecidableEq, Repr

/-! ## Page hub, Scribe log and answers (02) -/

/-- How an access is answered: a value, an Unsupported Request, a Completer Abort, a bus error, an
uncorrectable error, a Configuration Request Retry, or nothing (a posted write). -/
inductive Answer where
  | none
  | value (v : BitVec 64)
  | data (bytes : List Byte)
  | posted
  | unsupported
  | completerAbort
  | busError
  | uncorrectable
  | held
  | retry
  deriving DecidableEq, Repr

/-- One entry of the Scribe log (R33 to R37). -/
structure ScribeEntry where
  bay : BitVec 3
  flags : BitVec 8
  seq : BitVec 48
  requester : BitVec 16
  sec : BitVec 48
  page : BitVec 14
  offset : BitVec 12
  ns : BitVec 30
  new : Word
  old : Word
  deriving DecidableEq, Repr

/-- A write the hub holds un-accepted while the staging FIFO is full (R34). -/
structure HeldWrite where
  who : Requester
  addr : WinAddr
  size : AccessSize
  v : BitVec 64
  deriving DecidableEq, Repr

/-- The page hub: snapshots and staged words of R27, the Scribe's FIFO, sequence and ring, held writes, and the
fetches in progress of R38. -/
structure Hub where
  snaps : Table (Nat × List Word)
  staged : Table (List (Nat × Word))
  fifo : List ScribeEntry
  seq : BitVec 48
  ring : Table ScribeEntry
  held : List HeldWrite
  fetch : List (Nat × BitVec 48)
  softReset : List Nat
  deriving DecidableEq, Repr

/-- A store made by the command in progress: bytes put at an address, or a range wiped to zero (R290). -/
inductive MemOp where
  | put (addr : Nat) (bytes : List Byte)
  | wipe (lo n : Nat)
  deriving DecidableEq, Repr

/-- What leaves the device at its links and pins. -/
inductive Output where
  | msix (h : HostNo) (fn : FnNo) (addr : BitVec 64) (data : Word)
  | hostWrite (h : HostNo) (fn : FnNo) (addr : BitVec 64) (bytes : List Byte)
  | hostRead (h : HostNo) (fn : FnNo) (addr : BitVec 64) (len : Nat)
  | tod (bytes : List Byte)
  | ppsEdge (k : Fin 2) (sec : BitVec 48) (ns : BitVec 30) (frac : BitVec 32) (advanceQuarters : BitVec 32) (widthUs : Nat)
  | frame (port : Nat) (bytes : List Byte)
  | sections (port : Nat) (eaxc seqNo slot symbol firstPrb numPrb : Nat) (bytes : List Byte)
  | copy (stream : Nat) (bytes : List Byte)
  | joinFrame (link : LinkNo) (f : BitVec 32)
  | txFrameStart (link : LinkNo) (f : BitVec 32)
  /-- Symbols 0 to 2 of a Tysar frame, for a flow group and advanced by a number of samples (R253 to R255): bins and phases of
  the preamble, segment signs of the sync word, bins and bits of the header, and the last symbol that carries payload. -/
  | tysSymbols (link : LinkNo) (f : BitVec 32) (flow advance : Nat) (preamble : List (Nat × Nat)) (sync : List Bool)
      (header : List (Nat × Bool)) (lastPayload : Nat)
  | vout (mv : Nat)
  | smbus (word : BitVec 16)
  | smbusAlert (word : BitVec 8)
  | smbusNack
  | tdo (v : BitVec 64)
  | wakeOut (source : WakeSource)
  deriving DecidableEq, Repr

/-- An MSI-X table entry. -/
structure MsixEntry where
  addr : BitVec 64
  data : Word
  masked : Bool
  deriving DecidableEq, Repr

/-- The PCIe state of a function that the device acts on (R22, R384, R385). -/
structure FnState where
  bme : Bool
  msixEn : Bool
  masked : Bool
  targetAbort : Bool
  aerAbort : Bool
  deriving DecidableEq, Repr

/-- A host-window request that waits for its PCIe completion (R384). -/
structure HostReq where
  who : Requester
  fn : FnNo
  addr : BitVec 64
  len : Nat
  /-- Elapsed tick at which it was issued. -/
  since : Nat
  deriving DecidableEq, Repr

/-! ## Ridge (03) -/

/-- A boundary stamp or a captured time: seconds, nanoseconds, fraction in units of 2^-32 ns. -/
structure Stamp where
  sec : BitVec 48
  ns : BitVec 30
  frac : Word
  msgType : BitVec 4
  seqId : BitVec 16
  deriving DecidableEq, Repr

/-- A frequency source of R52. -/
structure FreqSource where
  qualified : Bool
  lost : Bool
  /-- The source has disqualified under Loss, so the wait-to-restore time applies. -/
  wasLost : Bool
  /-- Elapsed tick of the last change of `lost`. -/
  since : Nat
  deriving DecidableEq, Repr

/-- An event timer (R66): whether armed, the time of the next ABS or PERIOD firing in ns, and the number of the
last symbol a GRID timer fired at or passed. -/
structure Timer where
  armed : Bool
  nextNs : Nat
  last : Int
  deriving DecidableEq, Repr

/-- A carrier's grid: whether events fire, and the number of the last symbol boundary fired or passed, counted
from the anchor. Before the start it is one below the boundary at which the carrier starts. -/
structure CarGrid where
  started : Bool
  last : Int
  deriving DecidableEq, Repr

structure Ridge where
  sec : BitVec 48
  ns : BitVec 30
  /-- 32 visible and 16 internal fraction bits (R40). -/
  frac : BitVec 48
  /-- Elapsed ticks of the 1 GHz Ridge clock since the cold reset (R32, R47). -/
  ticks : Nat
  /-- Pending slew in units of 2^-48 ns (R43). -/
  slew : Int
  /-- (rate, ticks) episodes spent in LOCKED, newest first (R47). -/
  locked : List (Int × Nat)
  /-- Consecutive measurements under 50 ppb (R46). -/
  goodRuns : Nat
  lastMeas : Nat
  holdStart : Nat
  phaseSource : Option PhaseSource
  src : Vector FreqSource 5
  txs : Vector (List Stamp) 40
  cap : Vector (List Stamp) 4
  /-- The label for the next pulse of each PPS_IN: PTP seconds (R59). -/
  todLabel : Vector (Option (BitVec 48)) 2
  /-- Last labelled pulse of each PPS_IN: its corrected time in units of 2^-48 ns, and the second it marks. -/
  ppsCap : Vector (Option (Int × BitVec 48)) 2
  timers : Vector Timer 32
  cars : Table CarGrid
  /-- Symbol numbers (after, up to] of a carrier that forward steps have passed over, newest first (R50). -/
  skipped : Table (List (Int × Int))
  /-- Time of the last leading edge of each PPS_OUT, in units of 2^-48 ns (R58). -/
  ppsLast : Vector (Option Int) 2
  /-- Second after which the last ToD message was sent (R60). -/
  todSent : Option Nat
  /-- Firmware heartbeat (R32): tick of its last increment, and whether firmware runs. -/
  beatTick : Nat
  fwRuns : Bool
  deriving DecidableEq, Repr

/-! ## Truss and Ledger (04) -/

/-- Record states of R82. -/
inductive RecState where
  | free | admitted | ready | running | staged | done | closed
  deriving DecidableEq, Repr

/-- Frame states of R85. -/
inductive FrameState where
  | opened | sealed | running | committed | returned
  deriving DecidableEq, Repr

/-- Who submitted a Frame. -/
inductive Feed where
  | ring (index : Nat)
  | core (c : CoreNo)
  | skid (ch : SkidNo)
  /-- An entry of a ring whose settings a move of the queue has cleared (R102). -/
  | moved (index : Nat)
  deriving DecidableEq, Repr

/-- A task of an admitted Frame: the fields of its Ledger record (R82). -/
structure Task where
  /-- Record index (R81). -/
  idx : Nat
  st : RecState
  status : Nat
  detail : Nat
  queue : Nat
  attempt : Nat
  dlSlot : Nat
  dlSym : Nat
  evtKind : Nat
  evtId : Nat
  evtSlot : Nat
  evtSym : Nat
  evtSeen : Bool
  aff : Nat
  nIn : Nat
  nOut : Nat
  job : Nat
  buf : Nat
  parents : List Nat
  consumer : Nat
  /-- Input and output buffers read from the buffer block at admission: address and length. -/
  ins : List (Nat × Nat)
  outs : List (Nat × Nat)
  deriving DecidableEq, Repr

/-- A live Frame (R85): `bay` is the Bay whose Ledger region holds its records, `id` its Frame ID. -/
structure Frame where
  queue : Nat
  bay : Nat
  id : Nat
  seq : Nat
  feed : Feed
  st : FrameState
  late : Bool
  carrier : Nat
  baseSlot : Nat
  statusVec : Nat
  commitNs : Nat
  /-- Its admission records reached every mirror in service, and at least one (R79). -/
  durable : Bool
  tasks : List Task
  deriving DecidableEq, Repr

/-- Per-queue indices and the delivery record of R79 and R94. -/
structure Queue where
  fetch : Nat
  completed : Nat
  nextSeq : Nat
  /-- A delivery intent: sequence, ring, slot. -/
  intent : Option (Nat × Nat × Nat)
  /-- Sequence after the last one delivered. -/
  delivered : Nat
  /-- Ring indices of an earlier epoch that await their VOIDED_EPOCH record, with the commit time it shows (R107). -/
  voids : List (Nat × Nat)
  /-- Why the head Frame is held back, and why delivery waits: 0 or a code of TRS_Q_STAT (R94, R96). -/
  room : Nat
  delay : Nat
  deriving DecidableEq, Repr

/-- An on-chip submission: who offers it, the queue, and the Frame descriptor's words. `word` is the acceptance word
once it has been issued. -/
structure OnChip where
  src : Feed
  queue : Nat
  bay : Nat
  desc : List Nat
  taken : Bool
  word : Option (BitVec 64)
  deriving DecidableEq, Repr

structure Truss where
  frames : List Frame
  queues : Table Queue
  /-- Last affinity tag of each consumer, by its R82 encoding (R87). -/
  lastTag : Table Nat
  asking : List Nat
  /-- Last queue whose ring each deadline class has served (R80). -/
  rotation : Table Nat
  drained : List Nat
  /-- Record held by each consumer. -/
  holding : Table Nat
  /-- Allocation point of each Bay's region, as an offset in records (R81). -/
  alloc : Vector Nat 8
  onChip : List OnChip
  /-- Page moves waiting for the 0.5 ms boundary: page, new Bay, vector (R23, R102). -/
  moves : List (Nat × Nat × Nat)
  /-- Arrivals kept for each flow group: (fg, slot, symbol) (R86). -/
  arrivals : List (Nat × Nat × Nat)
  /-- Admission and dispatch, stopped by resets and power states. -/
  admits : Bool
  dispatch : Bool
  /-- A drain in progress: the consumer (R101). -/
  draining : Option Nat
  /-- Records that are CLOSED: returned, and not yet reached by allocation again (R84). -/
  closed : List Nat
  /-- SRAM that the last warm reset wiped: first memory key and length (R104). -/
  wiped : List (Nat × Nat)
  deriving DecidableEq, Repr

/-! ## Rafter cores (05, 06) -/

/-- A cause found in a packet: its place in the order of R139, code, and, where the rules give them, detail, slot and
EVAL. -/
structure Cause where
  rank : Nat
  code : Nat
  detail : Option Nat
  slot : Option Nat
  val : Option Nat
  deriving DecidableEq, Repr

/-- Where the bytes of a load go: a g register sign- or zero-extended, a g pair, an a register, or the active elements
of vector registers from `rt`, field after field of each element. -/
inductive LdDst where
  | g (r : Nat) (signed : Bool)
  | pair (r : Nat)
  | a (r : Nat)
  /-- Fields of the elements, into `n` registers; the other elements are kept, or set to 0. -/
  | v (rt n esz : Nat) (elems : List Nat) (zm : Bool)
  deriving DecidableEq, Repr

/-- What an instruction does when its packet issues and retires (R115). Registers are named by number. -/
inductive Eff where
  | setG (r : Nat) (v : BitVec 64)
  | setA (r : Nat) (v : BitVec 48)
  | setV (r : Nat) (v : BitVec 1024)
  | setN (r : Nat) (v : BitVec 128)
  | setM (r : Nat) (v : BitVec 3072)
  | setRun (v : Nat)
  | setOv
  | csr (n : Nat) (v : BitVec 64)
  /-- Bytes read in order from (address, length) chunks. -/
  | load (chunks : List (Nat × Nat)) (dst : LdDst)
  /-- Active elements: index and address. -/
  | gather (vd esz : Nat) (elems : List (Nat × Nat))
  | store (chunks : List (Nat × List Byte))
  /-- Checked whole before any element is written (R158): element index, address, bytes. -/
  | scatter (elems : List (Nat × Nat × List Byte))
  /-- Kind 0 conditional, 1 always, 2 through a15, 3 through another register. -/
  | branch (kind : Nat) (taken : Bool) (target : Nat)
  | link
  | loop (level count start stop : Nat)
  | take (gd : Nat)
  | tend (gd st : Nat)
  | enq (gd addr queue : Nat)
  | wait
  | isync
  | eret
  /-- SYSCALL and KCALL: taken after the packet has retired (R137). -/
  | call (code detail : Nat)
  /-- A non-pipelined Dowel's results, on their way for a number of cycles (R162). -/
  | later (hiv : Bool) (cycles : Nat) (writes : List (Bool × Nat × BitVec 1024)) (ov : Bool)
  deriving DecidableEq, Repr

/-- Instruction slots of R114. -/
inductive Slot where
  | s | m | v
  deriving DecidableEq, Repr

/-- One instruction of the packet being issued. Registers in `writes` and `uses` are numbered over all files; a use
carries its column of R118. -/
structure PktEntry where
  slot : Slot
  causes : List Cause
  effs : List Eff
  writes : List Nat
  uses : List (Nat × Nat)
  /-- Producer class of the results (R118, R149). -/
  cls : Nat
  /-- Slot and latency of a Dowel. -/
  dowel : Option (Nat × Nat)
  /-- Memory half-slots its accesses to local memory take (R125, R151). -/
  slots : Nat
  deriving DecidableEq, Repr

/-- What a core waits for. -/
inductive Sleep where
  | no
  | take (gd : Nat)
  | tend (gd st : Nat)
  | enq (gd : Nat)
  | wait
  deriving DecidableEq, Repr

/-- A result of a non-pipelined Dowel on its way (R162): writes to g (false) or v (true) registers. -/
structure DowelJob where
  /-- RFT_CYCLE at which the result arrives. -/
  due : Nat
  squashed : Bool
  writes : List (Bool × Nat × BitVec 1024)
  deriving DecidableEq, Repr

structure Core where
  g : Vector (BitVec 64) 32
  a : Vector (BitVec 48) 16
  cb : Vector (BitVec 48) 8
  cl : Vector (BitVec 20) 8
  lc : Vector (BitVec 16) 2
  ls : Vector (BitVec 17) 2
  le : Vector (BitVec 17) 2
  v : Vector (BitVec 1024) 32
  n : Vector (BitVec 128) 16
  vrun : BitVec 8
  m : Vector (BitVec 3072) 8
  pc : DevAddr
  /-- RFT_STATUS.priv: 0 U, 1 S, 2 K. -/
  priv : BitVec 2
  ieK : Bool
  ieS : Bool
  ov : Bool
  circ : BitVec 8
  holdLeft : Nat
  holdDeferred : Option Nat
  holdEnded : Option Nat
  taskValid : Bool
  taskAbandoned : Bool
  taskAttempt : BitVec 4
  taskIndex : RecNo
  abandonPending : Option AbandonCause
  cycle : BitVec 64
  instret : BitVec 64
  timer : BitVec 64
  intPend : BitVec 5
  intEn : BitVec 5
  storeErr : BitVec 64
  evecS : BitVec 64
  epcS : BitVec 64
  ecauseS : BitVec 64
  evalS : BitVec 64
  evecK : BitVec 64
  epcK : BitVec 64
  ecauseK : BitVec 64
  evalK : BitVec 64
  excDeleg : BitVec 64
  intDeleg : BitVec 5
  ovl : BitVec 64
  progTag : BitVec 64
  scratchS : BitVec 64
  scratchK : BitVec 64
  vctl : BitVec 3
  vfault : BitVec 64
  dwlEn : BitVec 64
  dwlSquash : BitVec 64
  divUnit : List DowelJob
  hivUnit : List DowelJob
  predictor : Table (BitVec 2)
  retStack : List DevAddr
  pkt : List PktEntry
  sleep : Sleep
  /-- A packet that waits to retire: its instructions, and the number of its words. -/
  held : List PktEntry
  heldLen : Nat
  /-- The last packet branched, so a straddling next one costs a cycle (R119). -/
  branched : Bool
  /-- RFT_STAT.state from before a halt. -/
  haltedFrom : Nat
  /-- Scoreboard: producer class and issue cycle of each register (R118). -/
  board : Table (Nat × Nat)
  /-- PROG_ECC exceptions, by elapsed tick, newest first (R452). -/
  progEcc : List Nat
  deriving DecidableEq, Repr

/-! ## Mortise engines (07, 08) -/

/-- An engine: the record it runs and the report it owes (R167, R168). -/
structure Engine where
  task : Option Nat
  report : Option Report
  /-- Lines of the Bay's HARQ cache are kept per Bay in `State.harq`. -/
  fenced : Bool
  /-- Offsets of the tables that were changed while the task held runs (R201). -/
  changed : List Nat
  /-- The finished job's cycles, its descriptor's word 0, and the ranges it wrote, until it is reported. -/
  cycles : Nat
  word0 : Nat
  written : List (Nat × Nat)
  deriving DecidableEq, Repr

/-- An engine that has held nothing. -/
def Engine.cold : Engine := ⟨none, none, false, [], 0, 0, []⟩

/-! ## AIR and Tysar (09) -/

/-- A job channel of AIR (R236 to R240). -/
structure AirCh where
  /-- The producer value P. -/
  prod : Word
  /-- Words of the entries fetched and not completed, oldest first. -/
  jobs : List (List Nat)
  /-- The running job's completion code, saturated parts and cycles. -/
  result : Option (Nat × Nat × Nat)
  deriving DecidableEq, Repr

/-- A Tysar link's receiver (R256 to R258). -/
structure TysRx where
  f : Word
  w : Option SyncWord
  capt : Bool
  header : Option (BitVec 64 × BitVec 64 × BitVec 64)
  hdrStatus : Nat
  cfo : Word
  abandoned : Bool
  deriving DecidableEq, Repr

structure Tys where
  rx : Vector TysRx 4
  /-- Last frame sent to each peer: sequence and t_tx (R266). -/
  lastTx : Table (Nat × BitVec 50)
  /-- Last frame received from each peer: sequence and stamp. -/
  lastRx : Table (Nat × BitVec 50)
  /-- Frequency offsets of the last frames of each peer, newest first (R264). -/
  foff : Table (List Int)
  /-- Version of the last ACCEPTED frame of each peer. -/
  lastVer : Table Nat
  /-- Peers that have yielded a θ (R266). -/
  theta : List Nat
  /-- Tick of the last ACCEPTED frame of each peer (R264). -/
  acceptedAt : Table Nat
  /-- Frame whose header status, and whose final status, each link wrote last (R258, R259). -/
  hdrDone : Table Nat
  finDone : Table Nat
  /-- CONTENTION positions to let pass, the frame from which they count, and the frame of the JOIN sent (R263). -/
  joinLeft : Nat
  joinFrom : Nat
  joinAt : Nat
  deriving DecidableEq, Repr

/-! ## Loft, Shim table, Plane scrubber (10) -/

/-- An entry of a Shim tracker (R279). -/
structure Track where
  word : Nat
  byte : Nat
  bit : Nat
  count : Nat
  deriving DecidableEq, Repr

/-- A Shim spare in use: the word it replaces and its origin (R294). -/
structure Shim where
  word : Nat
  origin : Nat
  deriving DecidableEq, Repr

structure Loft where
  trackers : Table (List Track)
  shims : Table (List Shim)
  /-- Suspect words by their first byte, and rewritten suspect bytes that await their verify read (R276, R277). -/
  suspect : List Nat
  verify : List Nat
  /-- Repair FIFO of each group: (memory, word, bytes written since) (R284). -/
  repair : Vector (List (Nat × Nat × List Nat)) 10
  /-- Walker position of each memory, in accesses. -/
  walker : Table Nat
  /-- Tick at which each group's lap started, moved on by the ticks to subtract (R285). -/
  lapStart : Vector Nat 10
  /-- Memories that the lap has walked. -/
  lapDone : Vector (List Nat) 10
  /-- Ranges being wiped: first memory key and length (R291). -/
  wiping : List (Nat × Nat)
  failing : List Nat
  retained : List Nat
  off : List Nat
  /-- Words that a scrub read corrected, in the form of `repair`: they are written back first. -/
  writeback : Vector (List (Nat × Nat × List Nat)) 10
  /-- Scrub groups that are GATED, and the tick since when (R285). -/
  gatedAt : Table Nat
  harq : Table (List (Nat × Nat))
  deriving DecidableEq, Repr

/-! ## DRAM controller (11) -/

/-- A request in a bank queue (R300). A read carries the bytes and the stored-bit errors that it found when it was
accepted: it returns the data of the last write accepted before it (R301). -/
structure DramEntry where
  who : Requester
  addr : DevAddr
  len : Nat
  write : Bool
  data : List Byte
  errs : Table (BitVec 72)
  bank : Nat
  row : Nat
  /-- Elapsed tick of its acceptance. -/
  since : Nat
  deriving DecidableEq, Repr

structure DramCh where
  /-- Entries of the bank queues, oldest first. -/
  queue : List DramEntry
  /-- Requests that wait in Purlin for a full bank queue. -/
  waiting : List DramEntry
  /-- A write batch runs (R302). -/
  writing : Bool
  openRow : Table Nat
  lastBank : Nat
  /-- Ticks of the uncorrectable reads of the last second (R315). -/
  ueTicks : List Nat
  /-- Page policy of the batch that runs (R303). -/
  closed : Bool
  /-- Tick at which its retraining window ends (R311). -/
  retrain : Nat
  deriving DecidableEq, Repr

structure Dram where
  chans : Vector DramCh 16
  /-- Self-refresh segments being wiped after RETAIN, 16 × half + piece, and the tick at which each wipe ends (R314). -/
  wipedSegs : List (Nat × Nat)
  selfRefresh : Bool
  /-- Ranks fitted on the board, 1 or 2 (R295). -/
  ranks : Nat
  deriving DecidableEq, Repr

/-! ## Skid (12) -/

/-- A descriptor of R319, as fetched. -/
structure SkidDesc where
  addr : DevAddr
  w : List (BitVec 64)
  /-- The R320 code of its failed check, or the fetch error. -/
  bad : Option Nat
  fetchErr : Bool
  deriving DecidableEq, Repr

structure SkidChan where
  /-- The current descriptor, and the next one where it has been fetched ahead (R320). -/
  cur : Option SkidDesc
  nxt : Option SkidDesc
  /-- What the current descriptor waits for: 0 its fetch, 1 its start, 2 its beats or its Frame's word, 3 its status
  write-back, 4 the write of its Frame's word. -/
  phase : Nat
  /-- Beats of the current descriptor written or dropped, in copy order, and those dropped. -/
  pos : Nat
  skipped : Nat
  /-- Beats after `pos` whose reads were issued before a halt: the data of those in the buffer (R327). -/
  held : List (Option (List Byte))
  /-- An abort waits for the Frame's word (R330). -/
  aborting : Bool
  deriving DecidableEq, Repr

/-! ## Lanes (13) -/

/-- What the lanes keep beside their registers: by PLL number, failed relock attempts since the loss, and the Peg PLLs that are
PLL_FAILED (R357, R361); by the address of an error counter, the tick up to which its register holds what was counted. -/
structure Lanes where
  relocks : Table Nat
  pegFailed : List Nat
  counted : Table Nat
  deriving DecidableEq, Repr

/-! ## Girt (14) -/

/-- The open receive window of a flow group (R369 to R372): symbol, and the PRBs received by stream. -/
structure Window where
  slot : Word
  symbol : Nat
  got : List (Nat × Nat)
  raised : Bool
  deriving DecidableEq, Repr

/-- A section queued on a port, of symbol `symbol` of slot count `slot` (R377). -/
structure TxItem where
  fg : Nat
  cls : Nat
  eaxc : Nat
  seqNo : Nat
  slot : Nat
  symbol : Nat
  firstPrb : Nat
  numPrb : Nat
  bytes : List Byte
  deriving DecidableEq, Repr

structure Girt where
  /-- Classifier entries: key and action, and the counters of words 4 to 7 (R365, R366, R393). -/
  cls : Table (BitVec 64 × BitVec 64)
  clsCnt : Table (List Nat)
  fgs : Table (List (BitVec 64))
  fgCnt : Table (List Nat)
  windows : Table Window
  lastWindow : Table (Word × Nat)
  /-- Marked ring slots: (flow group, ring slot, deadline slot, symbol) (R375). -/
  marks : List (Nat × Nat × Nat × Nat)
  /-- Gate position of each port: index in its list. -/
  gate : Table Nat
  cycleSym : Table (Word × Nat)
  swapReq : List Nat
  txq : Table (List TxItem)
  seqNo : Table Nat
  /-- TX packet ring entries in order for each port: (Bay, ring, index). -/
  pktq : Table (List (Nat × Nat × Nat))
  waiting : List (Nat × RxFrame)
  /-- Classes whose gate has opened in each port's cycle, the flow groups that have sent or counted in it, and those
  that send it on the mate (R364, R377). -/
  opened : Table Nat
  sent : List Nat
  viaMate : List Nat
  /-- Arrival events that wait for a status of TYS: flow group, slot count, symbol (R259). -/
  awaiting : List (Nat × Nat × Nat)
  deriving DecidableEq, Repr

/-! ## Islands, power, Gauge, faults, life cycle and pins (15 to 19) -/

/-- Crossing states of R399. -/
inductive Crossing where
  | active | gated | off | resetting | quarantine
  deriving DecidableEq, Repr

structure Island where
  crossing : Crossing
  /-- Power state: 0 ON, 1 GATED, 3 OFF. -/
  power : Nat
  qcause : Nat
  held : Bool
  /-- Request in progress, and the pending slot with its requesting Bay (R426). -/
  target : Option Nat
  next : Option (Nat × Nat)
  pll : Bool
  deriving DecidableEq, Repr

structure Power where
  target : Option Nat
  next : Option (Nat × Nat)
  wakePending : Bool
  sleeping : Bool
  wakes : Nat
  pinLatch : Vector Bool 8
  pinLevel : Vector Bool 8
  /-- Carrier sleep requests: carrier → (wake?, earliest slot, tick accepted) (R435). -/
  carReq : Table (Bool × Word × Nat)
  asleep : List Nat
  profileTarget : Option Nat
  /-- A profile was switched to in the sleep: its clock and voltage wait for the exit (R436). -/
  profDeferred : Bool
  /-- RETAIN has been requested and waits for the walkers to stop: the requesting Bay, and the tick of the request (R427). -/
  retCheck : Option (Nat × Nat)
  deriving DecidableEq, Repr

structure Gauge where
  pos0 : Nat
  pos1 : Nat
  inPass : Bool
  pass0 : Nat
  pass1 : Nat
  endsAt : Nat
  /-- GAU_LIM of the entry and GAU_OW_CFG.thr as the running conversion took them at its start (R446). -/
  lim : Nat
  thr : Nat
  deriving DecidableEq, Repr

/-- A fault log entry's two words (R460). -/
structure FaultEntry where
  w0 : BitVec 64
  w1 : BitVec 64
  deriving DecidableEq, Repr

structure Faults where
  log : Table FaultEntry
  /-- Units declared failed, kept in flash: (kind, unit) (R462). -/
  failed : List (Nat × Nat)
  deriving DecidableEq, Repr

/-- Fuses, flash records and the boot's progress (R409 to R417). -/
structure Life where
  state : BitVec 3
  pendingState : Option (BitVec 3)
  epochA : BitVec 32
  epochB : BitVec 32
  resumes : Nat
  wipePartial : Bool
  inTransition : Bool
  /-- A host-supplied image is awaited (R410). -/
  awaitHost : Bool
  booted : Bool
  inReset : Bool
  refclkLost : Bool
  bootSel : BitVec 2
  strap : BitVec 3
  imageDigest : List Word
  /-- What the board's flash holds in copies A and B: 0 an image that R411 accepts, else its LCS_BOOT_STAT code. -/
  flashA : Nat
  flashB : Nat
  /-- Boot source in force (LCS_STAT.source). -/
  source : Nat
  /-- Channels that fail training at a cold boot, as a mask (R310). -/
  trainFail : Nat
  /-- Words of each memory that the fuses (origin 0) or the self-test (origin 1) find faulty (R282). -/
  faulty : Table (List Shim)
  /-- Units that the self-test of a cold boot still finds failed (R463). -/
  bistFail : List (Nat × Nat)
  deriving DecidableEq, Repr

structure Pins where
  resetN : Bool
  jtagScan : Bool
  bscan : BitVec 64
  deriving DecidableEq, Repr

/-! ## The whole -/

structure State where
  /-- Register file of the window: word keyed by byte offset; a register selected through another is kept at its
  bank's key. An unlisted key reads the register's Cold value. -/
  regs : Table Word
  /-- Every byte of Loft, the Mortise buffers, the core memories and DRAM; an unlisted byte is 0. -/
  mem : List Host.Cell
  /-- Stored-bit errors: SRAM bytes (13 bits), program words (39), DRAM words (72); an unlisted one is 0. -/
  sramErr : Table (BitVec 13)
  progErr : Table (BitVec 39)
  dramErr : Table (BitVec 72)
  /-- Stores of the command in progress, newest first; empty between commands. -/
  wr : List MemOp
  /-- The model's own counter of free values taken. -/
  free : Nat
  out : List Output
  answer : Answer
  hub : Hub
  msix : Table MsixEntry
  pba : List Nat
  bayPend : List Nat
  fns : Table FnState
  hostReqs : List (HostNo × HostReq)
  ridge : Ridge
  truss : Truss
  /-- Elapsed tick since which a consumer has been idle, and since which a task has been READY, by record (R424). -/
  idleSince : Table Nat
  readySince : Table Nat
  cores : Vector Core 72
  engines : Vector Engine 67
  air : Vector AirCh 72
  tys : Tys
  loft : Loft
  dram : Dram
  skid : Vector SkidChan 64
  lanes : Lanes
  girt : Girt
  islands : Vector Island 128
  /-- Island resets and Bay resets in progress, and Bent moves: (Bent, new Bay). -/
  islandResets : List Nat
  bayResets : List Nat
  bentMoves : List (Nat × Nat)
  power : Power
  gauge : Gauge
  faults : Faults
  life : Life
  pins : Pins
  pending : List Instr
  deriving DecidableEq, Repr

/-! ## Reset -/

/-- A core with its registers at their Cold values (R141). [log 10] -/
def Core.cold : Core where
  g := Vector.replicate 32 0
  a := Vector.replicate 16 0
  cb := Vector.replicate 8 0
  cl := Vector.replicate 8 0
  lc := Vector.replicate 2 0
  ls := Vector.replicate 2 0
  le := Vector.replicate 2 0
  v := Vector.replicate 32 0
  n := Vector.replicate 16 0
  vrun := 0
  m := Vector.replicate 8 0
  pc := 0
  priv := 2
  ieK := false
  ieS := false
  ov := false
  circ := 0
  holdLeft := 0
  holdDeferred := none
  holdEnded := none
  taskValid := false
  taskAbandoned := false
  taskAttempt := 0
  taskIndex := 0
  abandonPending := none
  cycle := 0
  instret := 0
  timer := 0
  intPend := 0
  intEn := 0
  storeErr := 0
  evecS := 0
  epcS := 0
  ecauseS := 0
  evalS := 0
  evecK := 0
  epcK := 0
  ecauseK := 0
  evalK := 0
  excDeleg := 0
  intDeleg := 0
  ovl := 0
  progTag := 0
  scratchS := 0
  scratchK := 0
  vctl := 3
  vfault := 0
  dwlEn := 0x07FF07FF0000
  dwlSquash := 0
  divUnit := []
  hivUnit := []
  predictor := []
  retStack := []
  pkt := []
  sleep := .no
  held := []
  heldLen := 0
  branched := false
  haltedFrom := 0
  board := []
  progEcc := []

def Hub.cold : Hub := ⟨[], [], [], 0, [], [], [], []⟩

def Ridge.cold : Ridge where
  sec := 0
  ns := 0
  frac := 0
  ticks := 0
  slew := 0
  locked := []
  goodRuns := 0
  lastMeas := 0
  holdStart := 0
  phaseSource := none
  src := Vector.replicate 5 ⟨false, false, false, 0⟩
  txs := Vector.replicate 40 []
  cap := Vector.replicate 4 []
  todLabel := Vector.replicate 2 none
  ppsCap := Vector.replicate 2 none
  timers := Vector.replicate 32 ⟨false, 0, 0⟩
  cars := []
  skipped := []
  ppsLast := Vector.replicate 2 none
  todSent := none
  beatTick := 0
  fwRuns := false

def Truss.cold : Truss :=
  ⟨[], [], [], [], [], [], [], Vector.replicate 8 0, [], [], [], false, false, none, [], []⟩

def Tys.cold : Tys := ⟨Vector.replicate 4 ⟨0, none, false, none, 0, 0, false⟩, [], [], [], [], [], [], [], [], 0, 0, 0⟩

def Loft.cold : Loft :=
  ⟨[], [], [], [], Vector.replicate 10 [], [], Vector.replicate 10 0, Vector.replicate 10 [], [], [], [], [],
   Vector.replicate 10 [], [], []⟩

def DramCh.cold : DramCh := ⟨[], [], false, [], 0, [], false, 0⟩

def Girt.cold : Girt := ⟨[], [], [], [], [], [], [], [], [], [], [], [], [], [], [], [], [], []⟩

def Island.cold : Island := ⟨.active, 0, 0, false, none, none, true⟩

/-- [log 8] -/
def Life.cold : Life where
  state := 2
  pendingState := none
  epochA := 0
  epochB := 0
  resumes := 0
  wipePartial := false
  inTransition := false
  awaitHost := false
  booted := false
  inReset := false
  refclkLost := false
  bootSel := 0
  strap := 0
  imageDigest := []
  flashA := 0
  flashB := 0
  source := 0
  trainFail := 0
  faulty := []
  bistFail := []

/-- The machine with every register at its Cold value, before the boot of R409 has run: memories wiped to zero,
cores OFF, no Frame, no window, the Ridge at 0:0 in FREERUN with its step armed. [log 5, 7, 8, 9, 11] -/
def State.reset : State where
  regs := []
  mem := []
  sramErr := []
  progErr := []
  dramErr := []
  wr := []
  free := 0
  out := []
  answer := .none
  hub := Hub.cold
  msix := []
  pba := []
  bayPend := []
  fns := []
  hostReqs := []
  ridge := Ridge.cold
  truss := Truss.cold
  idleSince := []
  readySince := []
  cores := Vector.replicate 72 Core.cold
  engines := Vector.replicate 67 Engine.cold
  air := Vector.replicate 72 ⟨0, [], none⟩
  tys := Tys.cold
  loft := Loft.cold
  dram := ⟨Vector.replicate 16 DramCh.cold, [], false, 2⟩
  skid := Vector.replicate 64 ⟨none, none, 0, 0, 0, [], false⟩
  lanes := ⟨[], [], []⟩
  girt := Girt.cold
  islands := Vector.replicate 128 Island.cold
  islandResets := []
  bayResets := []
  bentMoves := []
  power := ⟨none, none, false, false, 0, Vector.replicate 8 false, Vector.replicate 8 false, [], [], none, false, none⟩
  gauge := ⟨0, 0, false, 0, 0, 0, 0, 0⟩
  faults := ⟨[], []⟩
  life := Life.cold
  pins := ⟨true, false, 0⟩
  pending := []

end Sys2Proof.Machine
end

