-- ==== Sys2Proof/Machine/Ops.lean ====
section
/-! DEFINITION. The named operations of the model: tables, registers and their fields, counters, memory, free values,
answers and outputs, and the end of a command. -/

namespace Sys2Proof.Machine

/-! ## Tables -/

/-- A table with key `k` set to `v`; keys stay strictly rising. -/
def tput {α : Type} : Table α → Nat → α → Table α
  | [], k, v => [(k, v)]
  | (j, w) :: t, k, v =>
    if k < j then (k, v) :: (j, w) :: t
    else if k = j then (k, v) :: t
    else (j, w) :: tput t k v

/-- A table without key `k`. -/
def tdel {α : Type} (t : Table α) (k : Nat) : Table α := t.filter fun e => e.1 != k

/-- The value of key `k`, or `d`. -/
def tget {α : Type} (t : Table α) (k : Nat) (d : α) : α := (t.lookup k).getD d

/-- The value of key `k`. -/
def tget? {α : Type} (t : Table α) (k : Nat) : Option α := t.lookup k

/-- A list with `x` added once. -/
def addOnce (l : List Nat) (x : Nat) : List Nat := if l.contains x then l else l ++ [x]

/-- A list with element `i` replaced. -/
def lset {α : Type} (l : List α) (i : Nat) (v : α) : List α := l.set i v

/-! ## Memory as data (the canonical form: keys strictly rising, no byte equal to 0) -/

/-- One byte stored: a zero byte is the unlisted value. -/
def memPut (m : List Host.Cell) (a : Nat) (b : Byte) : List Host.Cell :=
  if b = 0 then tdel m a else tput m a b

/-- Consecutive bytes stored from address `a`. -/
def memPutAll (m : List Host.Cell) (a : Nat) : List Byte → List Host.Cell
  | [] => m
  | b :: bs => memPutAll (memPut m a b) (a + 1) bs

/-- A range wiped to zero (R290). -/
def memWipe (m : List Host.Cell) (lo n : Nat) : List Host.Cell :=
  m.filter fun e => !decide (lo ≤ e.1 ∧ e.1 < lo + n)

def MemOp.apply (m : List Host.Cell) : MemOp → List Host.Cell
  | .put a bs => memPutAll m a bs
  | .wipe lo n => memWipe m lo n

/-- The canonical form of a memory. -/
def Memory.wf (m : List Host.Cell) : Bool :=
  match m with
  | [] => true
  | (k, b) :: r => b != 0 && (match r with | [] => true | (j, _) :: _ => decide (k < j)) && Memory.wf r

/-- A byte of a memory; an unlisted byte reads 0. [log 11] -/
def memGet (m : List Host.Cell) (a : Nat) : Byte := (m.lookup a).getD 0

/-- What the stores of the command in progress, newest first, make of byte `a`. -/
def wrGet : List MemOp → Nat → Option Byte
  | [], _ => none
  | .put lo bs :: r, a => if lo ≤ a ∧ a < lo + bs.length then bs[a - lo]? else wrGet r a
  | .wipe lo n :: r, a => if lo ≤ a ∧ a < lo + n then some 0 else wrGet r a

/-- Byte `a` as the command in progress sees it: its own stores first, then memory. [log 11] -/
def State.byte (s : State) (a : Nat) : Byte := (wrGet s.wr a).getD (memGet s.mem a)

def State.bytes (s : State) (a n : Nat) : List Byte := (List.range n).map fun i => s.byte (a + i)

/-- Store bytes at a memory key. [log 7] -/
def State.store (s : State) (a : Nat) (bs : List Byte) : State :=
  if bs.isEmpty then s else { s with wr := .put a bs :: s.wr }

/-- Wipe a range of memory keys, its stored-bit errors included (R290). -/
def State.wipe (s : State) (lo n : Nat) : State :=
  let keep (e : Nat × BitVec 13) : Bool := !decide (lo ≤ e.1 ∧ e.1 < lo + n)
  { s with wr := .wipe lo n :: s.wr, sramErr := s.sramErr.filter keep,
           progErr := s.progErr.filter fun e => !decide (lo ≤ e.1 ∧ e.1 < lo + n),
           dramErr := s.dramErr.filter fun e => !decide (lo ≤ e.1 ∧ e.1 < lo + n) }

/-- The end of a command that started in `s` and computed `t`: its stores take effect in memory in the order made,
and the queue is the one it found. [log 7] -/
def State.after (s t : State) : State :=
  { t with mem := t.wr.foldr (fun o m => o.apply m) s.mem, wr := [], pending := s.pending }

/-! ## Little-endian words and bit strings -/

/-- The value of bytes, least significant first. -/
def ofBytes : List Byte → Nat
  | [] => 0
  | b :: r => b.toNat + 256 * ofBytes r

/-- The low `n` bytes of a value, least significant first. -/
def toBytes : Nat → Nat → List Byte
  | 0, _ => []
  | n + 1, v => BitVec.ofNat 8 v :: toBytes n (v / 256)

/-- A 64-bit word at a memory key. -/
def State.dword (s : State) (a : Nat) : Nat := ofBytes (s.bytes a 8)

/-- Signed value of the low `n` bits. -/
def sgn (n v : Nat) : Int :=
  let w := v % 2 ^ n
  if 2 * w < 2 ^ n then (w : Int) else (w : Int) - ((2 ^ n : Nat) : Int)

/-- An integer as `n` bits of two's complement. -/
def wrap (n : Nat) (v : Int) : Nat := (v % ((2 ^ n : Nat) : Int)).toNat

/-- Signed saturation to `n` bits. -/
def satS (n : Nat) (v : Int) : Int :=
  let hi : Int := ((2 ^ (n - 1) : Nat) : Int)
  if v ≥ hi then hi - 1 else if v < -hi then -hi else v

/-- rnd(x, s) of R128: x / 2^s, halves to even. -/
def rnd (x : Int) (s : Nat) : Int :=
  let d : Int := ((2 ^ s : Nat) : Int)
  let q := x / d
  let r := x % d
  if 2 * r > d then q + 1
  else if 2 * r = d ∧ s > 0 then (if q % 2 = 0 then q else q + 1)
  else q

/-- Integer division truncating toward zero. -/
def tdivT (x y : Int) : Int := Int.tdiv x y

/-! ## Registers -/

/-- A register word as stored: an unlisted one holds its Cold value. [log 14] -/
def State.reg (s : State) (a : Nat) : Nat := ((s.regs.lookup a).getD (coldWord a)).toNat

/-- A register word stored; a word at its Cold value is unlisted. -/
def State.setReg (s : State) (a v : Nat) : State :=
  let w := BitVec.ofNat 32 v
  { s with regs := if w = coldWord a then tdel s.regs a else tput s.regs a w }

/-- Bits [hi:lo] of a register. -/
def State.fld (s : State) (a hi lo : Nat) : Nat := bitsOf (s.reg a) hi lo

/-- One bit of a register. -/
def State.flag (s : State) (a i : Nat) : Bool := bitOf (s.reg a) i

/-- Bits [hi:lo] of a register set. -/
def State.setFld (s : State) (a hi lo v : Nat) : State := s.setReg a (putBits (s.reg a) hi lo v)

/-- One bit of a register set. -/
def State.setFlag (s : State) (a i : Nat) (b : Bool) : State := s.setFld a i i (bitNat b)

/-- A counter that holds at 0xFFFF_FFFF. -/
def State.bumpBy (s : State) (a n : Nat) : State := s.setReg a (min (s.reg a + n) 0xFFFFFFFF)

def State.bump (s : State) (a : Nat) : State := s.bumpBy a 1

/-- A 64-bit register, low word first. -/
def State.wide (s : State) (a : Nat) : Nat := s.reg a + 0x100000000 * s.reg (a + 4)

def State.setWide (s : State) (a v : Nat) : State :=
  (s.setReg a (v % 0x100000000)).setReg (a + 4) (v / 0x100000000 % 0x100000000)

/-- A wrapping 64-bit counter in two words. -/
def State.bumpWide (s : State) (a n : Nat) : State := s.setWide a ((s.wide a + n) % 2 ^ 64)

/-! ## Header words -/

abbrev hdr (p off : Nat) : Nat := 4096 * p + off

/-- PG_CTRL.enable. -/
def State.enabled (s : State) (p : Nat) : Bool := s.flag (hdr p 0x08) 0

/-- PG_OWNER.bay. -/
def State.owner (s : State) (p : Nat) : Nat := s.fld (hdr p 0x28) 2 0

/-! ## Free values, answers and outputs -/

/-- A fresh free value: the machine goes on with a value the spec leaves open. [log 5] -/
def State.fresh (s : State) : Nat × State := ((Config.freeWord s.free).toNat, { s with free := s.free + 1 })

/-- [log 7] -/
def State.say (s : State) (a : Answer) : State := { s with answer := a }

/-- [log 7] -/
def State.emit (s : State) (o : Output) : State := { s with out := s.out ++ [o] }

/-- Apply an update to every element of a list in turn. -/
def each {α : Type} (l : List α) (f : α → State → State) (s : State) : State := l.foldl (fun s x => f x s) s

/-- Apply an update where a condition holds. -/
def onlyIf (c : Bool) (f : State → State) (s : State) : State := if c then f s else s

end Sys2Proof.Machine
end

