-- ==== Sys2Proof/Machine/PageHub.lean ====
section
/-! DEFINITION. The page hub (02): page state, interrupts and MSI-X (R28, R385), error capture, the Scribe log
(R33 to R36), the one rule by which a register write is accepted, refused or answered with an error (R18, R19,
R22, R26, R27), and wide-register reads. The owning chapters' effects of a write are passed in. -/

namespace Sys2Proof.Machine

/-! ## Islands and requesters -/

def State.island (s : State) (i : Nat) : Island := s.islands.getD i Island.cold

def State.setIsland (s : State) (i : Nat) (x : Island) : State := { s with islands := s.islands.setIfInBounds i x }

/-- Requests to the island are carried (R399). -/
def State.islandUp (s : State) (i : Nat) : Bool := (s.island i).crossing == .active

/-- Key of a function's state. -/
def fnKey (h fn : Nat) : Nat := h * 17 + fn

def State.fnBay (s : State) (h fn : Nat) : Nat := s.fld (bank fn (HST_FN_CFG h)) 2 0
def State.fnOn (s : State) (h fn : Nat) : Bool := s.flag (bank fn (HST_FN_CFG h)) 31
def State.fn (s : State) (h fn : Nat) : FnState := tget s.fns (fnKey h fn) ⟨false, false, false, false, false⟩
def State.setFn (s : State) (h fn : Nat) (f : FnState) : State := { s with fns := tput s.fns (fnKey h fn) f }

/-- The link of a host is in L0 (R394). -/
def State.linkL0 (s : State) (h : Nat) : Bool := s.fld (HST_LINK_STAT h) 19 16 == 3

/-- Requester field of a Scribe entry, and the identity a snapshot is held for (02). -/
def reqId : Requester → Nat
  | .host h fn => h.val * 1024 + fn.val * 32
  | .core c => 0x1000 + c.val
  | .plate p => 0x2000 + p.val
  | .skid ch => 0x3000 + ch.val
  | .engine e => 0x4000 + e.val
  | .air ch => 0x5000 + ch.val
  | .tys => 0x6000
  | .girt b => 0x7000 + b.val
  | .gauge => 0x8000
  | .truss => 0x9000

/-- The Bay of a requester on the register window (R21). [log 15] -/
def State.bayOf (s : State) : Requester → Nat
  | .host h fn => s.fnBay h.val fn.val
  | .core c => s.owner (0x40 + c.val / 9)
  | .skid ch => s.owner (0x201 + ch.val)
  | .air ch => s.owner (0x40 + ch.val / 9)
  | .girt b => b.val
  | _ => 0

def isPlate : Requester → Bool
  | .plate _ => true
  | _ => false

def isHost : Requester → Bool
  | .host _ _ => true
  | _ => false

/-- Requesters of the register window: R21 gives a Bay to these alone. [log 15] -/
def onWindow : Requester → Bool
  | .host _ _ | .core _ | .plate _ | .skid _ => true
  | _ => false

/-! ## MSI-X and page interrupts -/

def msixKey (h fn v : Nat) : Nat := fnKey h fn * 256 + v

/-- Conditions of R385 for sending entry `v` of a function. -/
def State.msixReady (s : State) (h fn v : Nat) : Bool :=
  let f := s.fn h fn
  f.msixEn && f.bme && !f.masked && s.linkL0 h && s.fnOn h fn &&
    !(tget s.msix (msixKey h fn v) ⟨0, 0, true⟩).masked

/-- A vector at a function: a message, or its pending bit (R385). -/
def State.fnVector (s : State) (h fn v : Nat) : State :=
  if s.msixReady h fn v then
    let e := tget s.msix (msixKey h fn v) ⟨0, 0, true⟩
    s.emit (.msix (Fin.ofNat 4 h) (Fin.ofNat 17 fn) e.addr e.data)
  else { s with pba := addOnce s.pba (msixKey h fn v) }

/-- Pending bits whose conditions now hold are sent (R385). -/
def State.msixFlush (s : State) : State :=
  each s.pba (fun k s =>
    let hf := k / 256
    if s.msixReady (hf / 17) (hf % 17) (k % 256) then
      { s with pba := s.pba.filter (· != k) }.fnVector (hf / 17) (hf % 17) (k % 256)
    else s) s

/-- Vector `v` of Bay `b` fires (R385). [log 22] -/
def State.bayVector (s : State) (b v : Nat) : State :=
  if s.flag (BAY_IRQ b) 31 then s.fnVector (s.fld (BAY_IRQ b) 9 8) (s.fld (BAY_IRQ b) 4 0) v
  else { s with bayPend := addOnce s.bayPend (b * 256 + v) }

/-- The interrupt line of a page (R28). -/
def State.line (s : State) (p : Nat) : Bool := Nat.land (s.reg (hdr p 0x10)) (s.reg (hdr p 0x14)) != 0

/-- The page's message on its owner's vector (R28). -/
def State.pageMsg (s : State) (p : Nat) : State := s.bayVector (s.owner p) (s.fld (hdr p 0x28) 23 16)

/-- Raw bits set on a page; a message when the line rises (R28). -/
def State.raiseBits (s : State) (p bits : Nat) : State :=
  let t := s.setReg (hdr p 0x10) (Nat.lor (s.reg (hdr p 0x10)) bits)
  if !s.line p && t.line p then t.pageMsg p else t

/-- Event `n` of a page. -/
def State.raise (s : State) (p n : Nat) : State := s.raiseBits p (2 ^ n)

/-- An error captured on a page: the first is kept, later ones set overflow, which only a write of 1 clears (R20). -/
def State.capture (s : State) (p bay code info : Nat) : State :=
  if s.flag (hdr p 0x1C) 31 then s.setFlag (hdr p 0x1C) 30 true
  else
    let left := bitNat (s.flag (hdr p 0x1C) 30) * 0x40000000
    (s.setReg (hdr p 0x1C) (0x80000000 + left + bay % 8 * 0x8000000 + code)).setWide (hdr p 0x20) info

/-! ## Scribe log -/

/-- Flags of an entry. -/
abbrev flagRefused : Nat := 1
abbrev flagLocked : Nat := 2
abbrev flagOwner : Nat := 4
abbrev flagReset : Nat := 8
abbrev flagPair : Nat := 16

/-- The oldest staged entry moves to the ring (R34, R35). [log 19] -/
def State.scribeStep (s : State) : State :=
  match s.hub.fifo with
  | [] => s
  | e :: r =>
    ({ s with hub := { s.hub with fifo := r, ring := tput s.hub.ring (e.seq.toNat % 4096) e } }).setWide SCB_HEAD_SEQ_LO e.seq.toNat

/-- An entry is given the next sequence number and placed in the staging FIFO (R33). The FIFO never holds more than 64: a
RESET entry that finds it full waits for the oldest entry to reach DRAM (R34). -/
def State.scribe (s : State) (bay flags req page off new old : Nat) : State :=
  let s := if s.hub.fifo.length ≥ 64 then s.scribeStep else s
  let q := s.hub.seq + 1
  let e : ScribeEntry :=
    ⟨BitVec.ofNat 3 bay, BitVec.ofNat 8 flags, q, BitVec.ofNat 16 req, s.ridge.sec, BitVec.ofNat 14 page,
     BitVec.ofNat 12 off, s.ridge.ns, BitVec.ofNat 32 new, BitVec.ofNat 32 old⟩
  { s with hub := { s.hub with seq := q, fifo := s.hub.fifo ++ [e] } }

/-- A register write by Plate firmware, recorded with Bay 0 as any accepted write is (R21, R33). -/
def State.fwWrite (s : State) (a v : Nat) : State :=
  let t := s.scribe 0 0 (reqId (.plate 0)) (a / 4096) (a % 4096) v (s.reg a)
  (t.setReg (hdr (a / 4096) 0x2C) (t.hub.seq.toNat % 0x100000000)).setReg a v

/-- A 64-bit register written by firmware in two words. -/
def State.fwWide (s : State) (a v : Nat) : State := (s.fwWrite a (v % 2 ^ 32)).fwWrite (a + 4) (v / 2 ^ 32 % 2 ^ 32)

/-- RESET entries for pages (R36): class 1 Warm, 2 Island, 3 Bay. DESIGN CHOICE: the rule gives the entry no requester; its
bay and requester fields hold 0. [log 123] -/
def State.scribeReset (s : State) (pages : List Nat) (cls : Nat) : State :=
  each pages (fun p s => s.scribe 0 flagReset 0 p 0 cls 0) s

/-! ## Selected and wide registers -/

/-- Where a register word is stored: a register selected through another is kept at its bank's key. [log 14] -/
def State.key (s : State) (a : Nat) : Nat :=
  let p := a / 4096
  let o := a % 4096
  if 0x28 ≤ p ∧ p < 0x30 ∧ 0x104 ≤ o ∧ o < 0x130 then
    bank (s.fld (TRS_QSEL (p - 0x28)) 9 0) (TRS_Q_CFG 0 - 0x104 + o)
  else if 0x340 ≤ p ∧ p < 0x344 ∧ (o = 0x110 ∨ o = 0x114) then bank (s.fld (HST_FN_SEL (p - 0x340)) 4 0) a
  else if p = 3 ∧ 0x114 ≤ o ∧ o < 0x120 then bank (s.fld XNG_ISL_SEL 6 0) a
  else if a = PWR_ISL_REQ ∨ a = PWR_ISL_STAT then bank (s.fld PWR_ISL_SEL 6 0) a
  else if 0x3A1 ≤ p ∧ p < 0x3A9 ∧ 0x104 ≤ o ∧ o < 0x118 then
    bank (s.fld (AIR_CHSEL (p - 0x3A1)) 6 0) (AIR_CH_RING_LO 0 - 0x104 + o)
  else if a = TYS_STR_CNT then bank (s.fld TYS_STR_SEL 9 0) a
  else if a = PWR_CAR_REQ ∨ a = PWR_CAR_SLOT ∨ a = PWR_CAR_STAT then bank (s.fld PWR_CAR_SEL 7 0) a
  else if a = GRT_GCL_DATA then
    bank (s.fld GRT_GCL_SEL 21 16 * 2048 + s.fld GRT_GCL_SEL 10 10 * 1024 + s.fld GRT_GCL_SEL 9 0) a
  else a

/-- Wide registers of a page kind: in-page offset of the latch word, words, and array dimensions (R27). -/
def wideRows : PageKind → List (Nat × Nat × List (Nat × Nat))
  | .scb => [(0x100, 2, []), (0x200, 2, [(8, 0x40)])]
  | .rdg0 => [(0x100, 4, []), (0x110, 2, []), (0x120, 4, []), (0x140, 2, [])]
  | .rdg2 => [(0x304, 5, [])]
  | .rdg3 => [(0x184, 4, [(4, 0x20)])]
  | .rdgView => [(0x100, 4, []), (0x204, 3, [(4, 0x20)])]
  | .trsView => [(0x110, 2, []), (0x118, 2, []), (0x124, 2, []), (0x200, 2, [(16, 0x20)]), (0x208, 2, [(16, 0x20)])]
  | .ldg0 => [(0x100, 2, []), (0x108, 2, [])]
  | .rft => [(0x108, 2, []), (0x128, 2, []), (0x130, 2, [])]
  | .mrt | .fft | .pra | .ldd | .lde | .plr | .trb | .hq => [(0x128, 2, [])]
  | .airView => [(0x104, 2, [])]
  | .tys0 => [(0x104, 2, []), (0x150, 2, []), (0x210, 2, [(4, 0x40)]), (0x218, 2, [(4, 0x40)])]
  | .skd => [(0x100, 2, []), (0x108, 2, []), (0x110, 2, []), (0x118, 2, [])]
  | .skdCh => [(0x104, 2, []), (0x114, 2, []), (0x124, 2, []), (0x130, 2, [])]
  | .scf | .peg => [(0x208, 2, []), (0x210, 2, []), (0x800, 2, [(32, 8)])]
  | .grt0 => [(0x200, 16, [(16, 0x40)])]
  | .grtView => [(0x100, 2, [(2, 0x200), (16, 0x20)])]
  | .bay => [(0x110, 2, [(4, 8)])]
  | .pur => [(0x104, 2, [])]
  | .lcs => [(0x114, 2, []), (0x130, 2, [])]
  | .gau => [(0x118, 2, []), (0x140, 2, []), (0x148, 2, [])]
  | _ => []

/-- The wide register that holds a window offset: its latch word and its number of words. -/
def wideOf (a : Nat) : Option (Nat × Nat) :=
  match pageInfo (a / 4096) with
  | none => none
  | some i =>
    let off := a % 4096
    if off = 0x20 ∨ off = 0x24 then some (a / 4096 * 4096 + 0x20, 2)
    else (wideRows i.kind).findSome? fun r =>
      (List.range r.2.1).findSome? fun j =>
        if r.1 ≤ off - 4 * j ∧ 4 * j ≤ off ∧ inDims (off - 4 * j - r.1) r.2.2 then some (a - 4 * j, r.2.1) else none

/-! ## A write to a register word -/

/-- A value as a field holds it: clamped to the field's range (R488), or kept where the encoding has no meaning
(R489). [log 91] -/
def legalise (f : Field) (old v : Nat) : Nat :=
  match f.legal with
  | .any => v
  | .clamp lo hi => if v < lo then lo else if v > hi then hi else v
  | .only lo hi => if lo ≤ v ∧ v ≤ hi then v else old
  | .oneOf rs => if rs.any fun r => decide (r.1 ≤ v ∧ v ≤ r.2) then v else old
  | .signed m =>
    let w := f.hi + 1 - f.lo
    wrap w (max (-(m : Int)) (min (m : Int) (sgn w v)))

/-- One field of a written word (R5, R26). -/
def writeField (locked : Bool) (old v : Nat) (acc : Nat) (f : Field) : Nat :=
  let o := bitsOf old f.hi f.lo
  let w := bitsOf v f.hi f.lo
  let n := match f.acc with
    | .ro | .rc => o
    | .rw => legalise f o w
    | .rwl => if locked then o else legalise f o w
    | .rw1c => o - Nat.land o w
    | .rw1s => Nat.lor o w
    | .wo => 0
  putBits acc f.hi f.lo n

/-- Fields of a header word (R20) that a write reaches by their access codes alone. -/
def headerFields : Nat → List Field
  | 0x08 => [⟨31, 31, .rw1s, 0, .keep, .any⟩, ⟨1, 1, .wo, 0, .to 0, .any⟩, ⟨0, 0, .rwl, 0, .keep, .any⟩]
  | 0x10 => [⟨31, 0, .rw1c, 0, .to 0, .any⟩]
  | 0x14 => [⟨31, 0, .rw, 0, .keep, .any⟩]
  | 0x1C => [⟨31, 31, .rw1c, 0, .to 0, .any⟩, ⟨30, 30, .rw1c, 0, .to 0, .any⟩, ⟨29, 27, .ro, 0, .to 0, .any⟩,
      ⟨15, 0, .ro, 0, .to 0, .any⟩]
  | 0x20 | 0x24 => [⟨31, 0, .ro, 0, .to 0, .any⟩]
  | 0x28 => [⟨23, 16, .ro, 0, .keep, .any⟩, ⟨2, 0, .ro, 0, .keep, .any⟩]
  | _ => [⟨31, 0, .ro, 0, .keep, .any⟩]

/-- The fields of a register word; none where the offset holds no register (R18). -/
def fieldsAt (a : Nat) : Option (List Field) :=
  let off := a % 4096
  if off < 0x30 then some (headerFields off)
  else if off < 0x100 then none
  else (rowAt a).map RegRow.fields

/-- The word a write leaves. -/
def newWord (locked : Bool) (fs : List Field) (old v : Nat) : Nat := fs.foldl (writeField locked old v) 0

/-- The write would have changed an RWL field of a locked page (R26). -/
def lockHit (locked : Bool) (fs : List Field) (old v : Nat) : Bool :=
  locked && fs.any fun f => f.acc == .rwl && legalise f (bitsOf old f.hi f.lo) (bitsOf v f.hi f.lo) != bitsOf old f.hi f.lo

def State.locked (s : State) (p : Nat) : Bool := s.flag (hdr p 0x08) 31

/-- Accepted writes to this word are recorded (R33, R38). -/
def recorded (i : PageInfo) (off : Nat) : Bool :=
  i.logged && off != 0x10 && !(i.kind == .scb && decide (0x200 ≤ off))

/-- What the owning chapter says of a write: the value its register holds, as a read in full shows it; whether it refuses it
as in R22, given the state before and the state with the words of the access stored; what a write so refused counts; and its
effect once accepted, given the requester, the offset, the value written and the state before. -/
structure WriteRules where
  held : Nat → State → Nat × State
  refuse : Requester → Nat → Nat → State → State → Bool
  /-- What a write so refused counts besides, given both states. -/
  count : Requester → Nat → Nat → State → State → State → State
  effect : Requester → Nat → Nat → State → State → State

/-- The page belongs to the requester, or an exception of R22 names it: a PG_OWNER write of Bay 0, a write to the
Bay's own Scribe read port (R38), and the PWR writes of R425. -/
def State.mayWrite (s : State) (who : Requester) (i : PageInfo) (a : Nat) : Bool :=
  let p := a / 4096
  let off := a % 4096
  let b := s.bayOf who
  isPlate who || s.owner p == b || (b == 0 && off == 0x28 && i.ownable) ||
    (i.kind == .scb && (off == 0x200 + 0x40 * b || off == 0x204 + 0x40 * b)) ||
    (i.kind == .pwr && (a == PWR_ISL_SEL || a == PWR_ISL_REQ || a == PWR_CAR_SEL || a == PWR_CAR_REQ ||
      a == PWR_CAR_SLOT || a == PWR_KEEP b))

/-- The answer to a write that the hub refuses or answers with an error (R18, R22). -/
def State.writeError (s : State) (who : Requester) (refusedWrite : Bool) : State :=
  match who with
  | .host h fn =>
    if refusedWrite then
      let f := s.fn h.val fn.val
      (s.setFn h.val fn.val { f with targetAbort := true, aerAbort := true }).say .posted
    else s.say .posted
  | _ => s.say .busError

/-- The entry of a refused word, with the value its register holds as the old one (R33, R37). -/
def State.logRefused (s : State) (r : WriteRules) (who : Requester) (pair : Bool) (w : Nat × Nat) : State :=
  let (old, s) := r.held w.1 s
  s.scribe (s.bayOf who) (flagRefused + (if pair then flagPair else 0)) (reqId who) (w.1 / 4096) (w.1 % 4096) w.2 old

/-- A write refused as in R22. -/
def State.refuseWrite (s : State) (r : WriteRules) (who : Requester) (words : List (Nat × Nat)) : State :=
  let s := s.bump (SCB_REFUSE_CNT (s.bayOf who))
  (match words with
    | [w, x] => (s.logRefused r who true w).logRefused r who false x
    | ws => each ws (fun w s => s.logRefused r who false w) s).writeError who true

/-- The change of owner of R23: the lock clears and the interrupt follows the new owner. [log 18] -/
def State.changeOwner (s : State) (p b : Nat) : State :=
  if s.owner p = b then s
  else
    let t := (s.setFld (hdr p 0x28) 2 0 b).setFlag (hdr p 0x08) 31 false
    if t.line p then t.pageMsg p else t

/-! ## What a queue shows of its waiting (R94, R96, R102) -/

def qCfg (q : Nat) : Nat := bank q (TRS_Q_CFG 0)
def qStat (q : Nat) : Nat := bank q (TRS_Q_STAT 0)
/-- The doorbell page of a queue. -/
def qPage (q : Nat) : Nat := 0x1000 + q
def State.qOn (s : State) (q : Nat) : Bool := s.flag (qCfg q) 31
def State.q (s : State) (q : Nat) : Queue := tget s.truss.queues q ⟨0, 0, 0, none, 0, [], 0, 0⟩
def State.setQ (s : State) (q : Nat) (x : Queue) : State :=
  { s with truss := { s.truss with queues := tput s.truss.queues q x } }

/-- The stall cause TRS_Q_STAT shows: a move that is awaited, a queue that is off, a head Frame held back, a delivery that
waits. [log 34] -/
def State.showStall (s : State) (q : Nat) : State :=
  s.setFld (qStat q) 2 0 (
    if s.truss.moves.any fun m => m.1 == qPage q then 4
    else if !s.qOn q then 5
    else if (s.q q).room ≠ 0 then (s.q q).room
    else (s.q q).delay)

/-- Doorbell and TRS queue pages change owner at the point R102 fixes. -/
def movesLater (i : PageInfo) : Bool := i.kind == .doorbell || i.kind == .trsView

/-- A page's waiting move is withdrawn; its queue is no longer held for it. [log 34] -/
def State.unmove (s : State) (p : Nat) : State :=
  if s.truss.moves.all fun m => m.1 != p then s
  else
    let s := { s with truss := { s.truss with moves := s.truss.moves.filter fun m => m.1 != p } }
    if 0x1000 ≤ p then s.showStall (p - 0x1000) else s

/-- The Bay that a write of PG_OWNER names. A BNT page's is fixed by the BAY_BENTS masks (R31), so that its bay bits are
ignored. [log 18] -/
def State.namedBay (s : State) (who : Requester) (i : PageInfo) (p v : Nat) : Nat :=
  if i.ownable && i.kind != .bnt && (s.bayOf who == 0 || isPlate who) then v % 8 else s.owner p

/-- A write of PG_OWNER (R23); a queue that waits for its move is held, and the vector of a write that moves the page goes
with the move (R102). A write that names the present owner withdraws a move that waits. [log 18, 34] -/
def State.writeOwner (s : State) (who : Requester) (i : PageInfo) (p v : Nat) : State :=
  let b := s.bayOf who
  let old := s.owner p
  let nb := s.namedBay who i p v
  let vec := bitsOf v 23 16
  let bay0 := b == 0 || isPlate who
  if movesLater i && nb != old then
    let s := { s with truss := { s.truss with moves := s.truss.moves.filter (fun m => m.1 != p) ++ [(p, nb, vec)] } }
    if i.kind == .doorbell then s.showStall (p - 0x1000) else s
  else
    let s := if !bay0 || old == 0 || nb != old then s.setFld (hdr p 0x28) 23 16 vec else s
    if movesLater i then (if bay0 then s.unmove p else s) else s.changeOwner p nb

/-- What the header itself does once a header word is written: the soft reset request (R20), and the message after
a write to the interrupt registers (R28). PG_IRQ_FORCE sets the raw bits as their events would, those beyond irq_count too; GLB
raises no interrupt (R30). [log 123] -/
def State.headerEffect (s : State) (who : Requester) (i : PageInfo) (a v : Nat) : State :=
  let p := a / 4096
  let off := a % 4096
  if off = 0x08 then
    if bitOf v 1 then { s with hub := { s.hub with softReset := addOnce s.hub.softReset p } } else s
  else if off = 0x10 ∨ off = 0x14 then (if s.line p then s.pageMsg p else s)
  else if off = 0x18 then
    let t := s.setReg (hdr p 0x10) (Nat.lor (s.reg (hdr p 0x10)) (if p = 0 then 0 else v))
    if t.line p then t.pageMsg p else t
  else if off = 0x28 then s.writeOwner who i p v
  else s

/-- Staged words of a requester for one wide register. -/
def State.stagedOf (s : State) (who : Requester) (latch n : Nat) : List (Nat × Word) :=
  (tget s.hub.staged (reqId who) []).filter fun e => decide (latch < e.1 ∧ e.1 < latch + 4 * n)

def State.setStaged (s : State) (who : Requester) (l : List (Nat × Word)) : State :=
  { s with hub := { s.hub with staged := tput s.hub.staged (reqId who) l } }

/-- The Bay of an accepted word's entry: firmware's writes are recorded with Bay 0 (R21). -/
def State.entryBay (s : State) (who : Requester) : Nat := if isPlate who then 0 else s.bayOf who

/-- A plain entry for an accepted word, where the page is logged (R33). -/
def State.logWord (s : State) (who : Requester) (i : PageInfo) (a v old : Nat) (pair : Bool) : State :=
  if recorded i (a % 4096) then
    let t := s.scribe (s.entryBay who) (if pair then flagPair else 0) (reqId who) (a / 4096) (a % 4096) v old
    t.setReg (hdr (a / 4096) 0x2C) (t.hub.seq.toNat % 0x100000000)
  else s

/-- A word's fields as written stored in it (R5, R26). -/
def State.storeWord (s : State) (locked : Bool) (a v : Nat) : State :=
  s.setReg (s.key a) (newWord locked ((fieldsAt a).getD []) (s.reg (s.key a)) v)

/-- The write would change an RWL field that the lock holds (R26). -/
def State.hitsLock (s : State) (a v : Nat) : Bool :=
  lockHit (s.locked (a / 4096)) ((fieldsAt a).getD []) (s.reg (s.key a)) v

/-- Flags of an accepted word's entry (R37). OWNER_CHANGE marks every accepted write that sets PG_OWNER.bay, one that names
the present owner included. [log 123] -/
def State.entryFlags (s : State) (who : Requester) (i : PageInfo) (a v : Nat) (pair : Bool) : Nat :=
  (if s.hitsLock a v then flagLocked else 0) + (if pair then flagPair else 0) +
    (if a % 4096 = 0x28 ∧ i.ownable ∧ (s.bayOf who = 0 ∨ isPlate who) then flagOwner else 0)

/-- The record of an accepted word with the value held before it, and PG_SEQ with it (R20, R33, R37). -/
def State.logAccepted (s : State) (r : WriteRules) (who : Requester) (i : PageInfo) (a v : Nat) (pair : Bool) : State :=
  if recorded i (a % 4096) || s.hitsLock a v then
    let (old, s) := r.held a s
    let t := s.scribe (s.entryBay who) (s.entryFlags who i a v pair) (reqId who) (a / 4096) (a % 4096) v old
    t.setReg (hdr (a / 4096) 0x2C) (t.hub.seq.toNat % 0x100000000)
  else s

/-- A recorded word takes effect: stored by its fields, its effect made. `extra` are the staged words that a latch word
commits with it. -/
def State.applyWord (r : WriteRules) (who : Requester) (i : PageInfo) (a v : Nat) (extra : List (Nat × Nat)) (s : State) : State :=
  let locked := s.locked (a / 4096)
  let t := s.storeWord locked a v
  let t := extra.foldl (fun t e => t.storeWord locked e.1 e.2) t
  let t := if a % 4096 < 0x100 then t.headerEffect who i a v else t
  r.effect who a v s t

/-- A requester's staged words of one wide register are dropped. -/
def State.unstage (s : State) (who : Requester) (latch n : Nat) : State :=
  s.setStaged who ((tget s.hub.staged (reqId who) []).filter fun e => !decide (latch < e.1 ∧ e.1 < latch + 4 * n))

/-- A word staged in place of an earlier one (R27). -/
def State.stage (s : State) (who : Requester) (a v : Nat) : State :=
  s.setStaged who ((tget s.hub.staged (reqId who) []).filter (fun e => e.1 != a) ++ [(a, BitVec.ofNat 32 v)])

/-- The record of one accepted word: a plain entry where it is only staged (R27, R33). -/
def State.recordOne (r : WriteRules) (who : Requester) (i : PageInfo) (a v : Nat) (pair : Bool) (s : State) : State :=
  match wideOf a with
  | some (latch, _) =>
    if a = latch then s.logAccepted r who i a v pair
    else let (old, s) := r.held a s
      s.logWord who i a v old pair
  | none => s.logAccepted r who i a v pair

/-- One recorded word acts: stored, or staged where it is a wide register's word other than its latch word, which commits the
staged ones with it (R27). -/
def State.applyOne (r : WriteRules) (who : Requester) (i : PageInfo) (a v : Nat) (s : State) : State :=
  match wideOf a with
  | none => s.applyWord r who i a v []
  | some (latch, n) =>
    if a = latch then
      (s.applyWord r who i a v ((s.stagedOf who latch n).map fun e => (e.1, e.2.toNat))).unstage who latch n
    else s.stage who a v

/-- One accepted word, recorded and then acting. -/
def State.acceptOne (r : WriteRules) (who : Requester) (i : PageInfo) (a v : Nat) (pair : Bool) (s : State) : State :=
  (s.recordOne r who i a v pair).applyOne r who i a v

/-- The accepted words of one access: their entries follow each other, low word first (R33), and then they act in that order.
A latch word and the word after it, written as one access, commit together (R27). -/
def State.acceptLive (r : WriteRules) (who : Requester) (i : PageInfo) (live : List (Nat × Nat)) (s : State) : State :=
  match live with
  | [w] => s.acceptOne r who i w.1 w.2 false
  | [w, x] =>
    let s := (s.recordOne r who i w.1 w.2 true).recordOne r who i x.1 x.2 false
    let s := match wideOf w.1 with
      | some (latch, _) => if w.1 = latch then s.stage who x.1 x.2 else s
      | none => s
    let s := s.applyOne r who i w.1 w.2
    match wideOf w.1 with
    | some (latch, _) => if w.1 = latch then s else s.applyOne r who i x.1 x.2
    | none => s.applyOne r who i x.1 x.2
  | _ => s

/-- The block registers of a page answer: its island is reached and no soft reset runs (R19, R20). -/
def State.blockUp (s : State) (i : PageInfo) (p : Nat) : Bool :=
  s.islandUp i.island && !s.hub.softReset.contains p

def sizeBytes : AccessSize → Nat
  | .b1 => 1 | .b2 => 2 | .b4 => 4 | .b8 => 8

/-- The state with written words stored, for the rules that judge a write by what it would leave. [log 92] -/
def State.preview (s : State) (words : List (Nat × Nat)) : State :=
  words.foldl (fun s w => s.setReg (s.key w.1) (newWord (s.locked (w.1 / 4096)) ((fieldsAt w.1).getD []) (s.reg (s.key w.1)) w.2)) s

/-- A write's posted answer to a host, before its effect; an on-chip requester has none (R22). -/
def takenAnswer (who : Requester) : Answer := if isHost who then .posted else .none

/-- The first word of an access that the owning chapter refuses, each judged in the state that the words before it leave. -/
def State.refusedWord (r : WriteRules) (who : Requester) (live : List (Nat × Nat)) (s : State) : Option (Nat × Nat) :=
  match live with
  | [w, x] =>
    if r.refuse who w.1 w.2 s (s.preview live) then some w
    else if r.refuse who x.1 x.2 (s.preview [w]) (s.preview live) then some x else none
  | ws => ws.find? fun w => r.refuse who w.1 w.2 s (s.preview ws)

/-- A write reaches the hub (R18, R19, R22, R26, R27, R33, R34). An access of two words is one write: it is held until the
FIFO has room for both its entries, and behind the writes held before it, and refused whole where one of its words may not be written. [log 15, 115, 123] -/
def State.hubWrite (r : WriteRules) (who : Requester) (a size v : Nat) (s : State) : State :=
  let p := a / 4096
  if (size ≠ 4 ∧ size ≠ 8) ∨ a % size ≠ 0 ∨ !onWindow who then s.writeError who false
  else match pageInfo p with
  | none => s.writeError who false
  | some i =>
    if a % 4096 ≥ 0x100 ∧ !s.blockUp i p then
      (if s.islandUp i.island then s else s.bump (bank i.island XNG_ERR_RESP_CNT)).writeError who false
    else if !s.hub.held.isEmpty ∨ s.hub.fifo.length + size / 4 > 64 then
      let w : HeldWrite := ⟨who, BitVec.ofNat 26 a, if size = 8 then .b8 else .b4, BitVec.ofNat 64 v⟩
      ({ s with hub := { s.hub with held := s.hub.held ++ [w] } }.bump SCB_STALL_CNT).say .held
    else
      let lo := v % 0x100000000
      let words := if size = 8 then [(a, lo), (a + 4, v / 0x100000000 % 0x100000000)] else [(a, lo)]
      let live := words.filter fun w => (fieldsAt w.1).isSome
      let s := s.say (takenAnswer who)
      if live.isEmpty then s
      else if live.any fun w => !s.mayWrite who i w.1 then s.refuseWrite r who live
      else match s.refusedWord r who live with
      | some w => r.count who w.1 w.2 s (s.preview live) (s.refuseWrite r who live)
      | none => s.acceptLive r who i live

/-! ## Resets of registers (R20, R406) -/

/-- Fields whose Cold value the part, its fuses, its board or its boot fixes: address, high and low bit. -/
def perPart : List (Nat × Nat × Nat) :=
  [(0x104, 31, 0), (0x108, 31, 0), (HST_BIF 0, 31, 0), (LCS_SVN, 31, 0), (LCS_DEVID_LO, 31, 0), (LCS_DEVID_HI, 31, 0),
   (DRC_SIZE, 31, 0), (DRC_CFG, 31, 31), (PWR_PROF_STAT, 30, 30), (TRS_EPOCH, 31, 0), (XNG_RESET_CAUSE, 31, 0)]

/-- The page that a stored word belongs to: a selected register's copy belongs to the page through which its Bay reaches it. [log 17] -/
def State.pageOfKey (s : State) (k : Nat) : Nat :=
  let p := k % 0x4000000 / 4096
  if k < 0x4000000 then p
  else if p = 0x28 then 0x28 + s.owner (0x1000 + (k / 0x4000000 - 1))
  else if p = 0x3A1 then 0x3A1 + s.owner (0x40 + (k / 0x4000000 - 1) / 9)
  else p

/-- Block registers of a page return to their Cold values; the header is unchanged (R20). [log 17] -/
def State.coldPage (s : State) (p : Nat) : State :=
  let t := { s with regs := s.regs.filter fun e => !(s.pageOfKey e.1 == p && decide (0x100 ≤ e.1 % 4096)) }
  each (perPart.filter fun e => e.1 / 4096 == p) (fun e t => t.setFld e.1 e.2.1 e.2.2 (s.fld e.1 e.2.1 e.2.2)) t

/-- A field through a warm reset (R4). -/
def warmField (old acc : Nat) (f : Field) : Nat :=
  match f.warm with
  | .keep => putBits acc f.hi f.lo (bitsOf old f.hi f.lo)
  | .to v => putBits acc f.hi f.lo v

/-- A stored word through a warm reset: fields marked "=" or "runs" keep their values. The header's words follow
R20; owner_lock keeps (it clears only as R26 states). -/
def warmWord (k : Nat) (w : Word) : Word :=
  let a := k % 0x4000000
  let off := a % 4096
  if off < 0x100 then
    if off = 0x10 ∨ off = 0x1C ∨ off = 0x20 ∨ off = 0x24 then 0 else w
  else match rowAt a with
    | some r => BitVec.ofNat 32 (r.fields.foldl (warmField w.toNat) 0)
    | none => w

/-- Pages take the Warm column (R406). -/
def State.warmPages (s : State) (sel : Nat → Bool) : State :=
  { s with regs := s.regs.filterMap fun e =>
      if sel (s.pageOfKey e.1) then
        let w := warmWord e.1 e.2
        if w = coldWord e.1 then none else some (e.1, w)
      else some e }

end Sys2Proof.Machine
end

