-- ==== Sys2Proof/Machine/FaultLog.lean ====
section
/-! DEFINITION. The fault log and the list of failed units (R452, R460 to R463). -/

namespace Sys2Proof.Machine

/-- Ridge time in the format of t_tx and of the fault log: quarter nanoseconds, seconds modulo 2^18, nanoseconds. -/
def State.quarterTime (s : State) : Nat :=
  s.ridge.frac.toNat / 2 ^ 46 * 2 ^ 48 + s.ridge.sec.toNat % 2 ^ 18 * 2 ^ 30 + s.ridge.ns.toNat

/-- An entry of the fault log (R460): its interrupt is PLT page 1 bit 0. -/
def State.logFault (s : State) (kind unit cause action : Nat) : State :=
  let seq := (s.reg PLT_FLT_HEAD + 1) % 2 ^ 32
  let w0 := kind * 2 ^ 56 + unit % 256 * 2 ^ 48 + cause * 2 ^ 40 + action * 2 ^ 32 + seq
  let e : FaultEntry := ⟨BitVec.ofNat 64 w0, BitVec.ofNat 64 s.quarterTime⟩
  let s := { s with faults := { s.faults with log := tput s.faults.log (seq % 64) e } }
  (s.setReg PLT_FLT_HEAD seq).raise 9 0

/-- A memory becomes FAILING (R281, R282), which the fault log shows once; no rule gives the entry's action (R460). [log 120] -/
def State.memFailing (s : State) (m : Nat) : State :=
  if s.loft.failing.contains m then s
  else
    let (f, s) := s.fresh
    { s with loft := { s.loft with failing := addOnce s.loft.failing m } }.logFault (if m < 60 then 4 else 5) m 3 (1 + f % 6)

/-- A further failure of the kind is not masked (R461). -/
def State.degrade (s : State) (kind : Nat) : State :=
  if s.flag PLT_FLT_DEGRADED kind then s else (s.setFlag PLT_FLT_DEGRADED kind true).raise 9 1

/-- The unit joins the list of R462. -/
def State.listFailed (s : State) (kind unit : Nat) : State :=
  if s.faults.failed.contains (kind, unit) then s
  else { s with faults := { s.faults with failed := s.faults.failed ++ [(kind, unit)] } }

def State.isListed (s : State) (kind unit : Nat) : Bool := s.faults.failed.contains (kind, unit)

/-- A declaration of R452: listed, logged, and the kind degraded. [log 116] -/
def State.declare (s : State) (kind unit cause action : Nat) : State :=
  ((s.listFailed kind unit).logFault kind unit cause action).degrade kind

end Sys2Proof.Machine
end

