-- ==== Sys2Proof/Machine/Memory.lean ====
section
/-! DEFINITION. The device address map and the memories behind it (02, 10, 11, R384): where an address lies, who may
reach it (R17, R272, R273, R298), the check bits of the SRAM and of DRAM (R274 to R281, R304 to R307), and reads and
writes of bytes as every requester makes them. -/

namespace Sys2Proof.Machine

/-- A requester of memory with the Bay its access is checked for. `free` marks the Plate, and the Truss on its own
records: no window is checked (R272, R298). -/
structure Agent where
  who : Requester
  bay : Nat
  free : Bool
  deriving DecidableEq, Repr

/-- Why an access is answered with an error: a bus error, or an uncorrectable error (R276). -/
inductive MemErr where
  | bus | unc
  deriving DecidableEq, Repr

/-! ## The device address map -/

abbrev loftBase : Nat := 0x000100000000
abbrev bufBase : Nat := 0x000200000000
abbrev dataBase : Nat := 0x000210000000
abbrev winBase : Nat := 0x000300000000
/-- Model key of the program memories, which no device address but the core's own alias reaches. -/
abbrev progBase : Nat := 0x000400000000
abbrev dramBase : Nat := 0x010000000000
abbrev hostBase : Nat := 0x800000000000

/-- Where an access of `n` bytes lies. -/
inductive Place where
  | none
  | sram (key : Nat)
  | data (core key : Nat)
  | prog (core key : Nat)
  | window (off : Nat)
  | dram (o : Nat)
  | host (h x : Nat)
  deriving DecidableEq, Repr

/-- Usable DRAM capacity in bytes (R296). -/
def State.dramU (s : State) : Nat := s.fld DRC_SIZE 8 0 * 0x10000000

/-- Decode of the device address map (R17). -/
def State.place (s : State) (who : Requester) (a n : Nat) : Place :=
  let inR (lo len : Nat) : Bool := decide (lo ≤ a ∧ a + n ≤ lo + len)
  match who with
  | .core c =>
    if inR 0 0x80000 then .data c.val (dataBase + 0x80000 * c.val + a)
    else if inR 0x100000 0x20000 then .prog c.val (progBase + 0x20000 * c.val + (a - 0x100000))
    else common s inR
  | _ => common s inR
where
  common (s : State) (inR : Nat → Nat → Bool) : Place :=
    if inR loftBase 0x3000000 then .sram a
    else if inR bufBase 0xC00000 then .sram a
    else if inR dataBase (72 * 0x80000) then
      let c := (a - dataBase) / 0x80000
      if (a + n - 1 - dataBase) / 0x80000 = c ∨ n = 0 then .data c a else .none
    else if inR winBase 0x4000000 then .window (a - winBase)
    else if inR dramBase s.dramU then .dram (a - dramBase)
    else if inR hostBase 0x400000000000 then
      let h := (a - hostBase) / 0x100000000000
      if (a + n - 1 - hostBase) / 0x100000000000 = h ∨ n = 0 then .host h (a - hostBase - h * 0x100000000000) else .none
    else .none

/-- Number of an SRAM in the numbering of R292 and R294: 0 to 59 banks, 128 + core data memories. -/
def sramNo (key : Nat) : Nat :=
  if key < bufBase then (key - loftBase) / 0x100000
  else if key < dataBase then 48 + (key - bufBase) / 0x100000
  else 128 + (key - dataBase) / 0x80000

/-- First key of an SRAM. -/
def sramFirst (m : Nat) : Nat :=
  if m < 48 then loftBase + m * 0x100000
  else if m < 60 then bufBase + (m - 48) * 0x100000
  else dataBase + (m - 128) * 0x80000

def sramLen (m : Nat) : Nat := if m < 60 then 0x100000 else 0x80000

/-- Scrub group of an SRAM (R270). -/
def scrubGroup (m : Nat) : Nat := if m < 48 then 0 else if m < 60 then 1 else 2 + (m - 128) / 9

/-! ## Check bits of a byte (R274, R275) -/

/-- Hamming position of stored bit 0 to 11: d0..d7, k0..k3. -/
def hamPos (i : Nat) : Nat := [3, 5, 6, 7, 9, 10, 11, 12, 1, 2, 4, 8].getD i 0

/-- Syndrome of an error mask over d0..d7, k0..k4: the code is linear, so the mask alone gives it. -/
def synOf (m : BitVec 13) : Nat :=
  (List.range 12).foldl (fun s i => if m.getLsbD i then Nat.xor s (hamPos i) else s) 0

def parOf (m : BitVec 13) : Bool := (List.range 13).foldl (fun p i => p != m.getLsbD i) false

/-- A byte as read: its value, and the bit corrected if one was. -/
inductive ByteRead where
  | ok (b : Byte)
  | corrected (b : Byte) (bit : Nat)
  | bad
  deriving DecidableEq, Repr

/-- The decoding table of R275. [log 12] -/
def eccDecode (b : Byte) (m : BitVec 13) : ByteRead :=
  let raw := b ^^^ (m.setWidth 8)
  let s := synOf m
  match s, parOf m with
  | 0, false => .ok raw
  | 0, true => .corrected raw 12
  | s, true =>
    if s ≤ 12 then
      let i := ((List.range 12).find? fun i => hamPos i == s).getD 0
      .corrected (if i < 8 then raw ^^^ BitVec.ofNat 8 (2 ^ i) else raw) i
    else .bad
  | _, false => .bad

/-! ## Shim table and repair (R279 to R281, R284) -/

def spares (m : Nat) : Nat := if m < 60 then 8 else 4

/-- A byte with an error that its check bits correct is stored as read, with fresh check bits; any other stays as it is. -/
def State.correctByte (s : State) (a : Nat) : State :=
  match tget? s.sramErr a with
  | none => s
  | some m => match eccDecode (s.byte a) m with
    | .corrected v _ => { s.store a [v] with sramErr := tdel s.sramErr a }
    | _ => s

/-- A word is copied to a spare and redirected, or refused where none is free (R280, R281). -/
def State.promote (s : State) (m word origin : Nat) : State :=
  let used := tget s.loft.shims m []
  if used.length < spares m then
    let lo := sramFirst m + 16 * word
    let s := each (List.range 16) (fun i s => s.correctByte (lo + i)) s
    let s := { s with loft := { s.loft with shims := tput s.loft.shims m (used ++ [(⟨word, origin⟩ : Shim)]) } }
    let s := if m < 60 then s.setFld (LFT_BANK_STAT m) 27 24 (used.length + 1) else s
    (s.bump SHM_PROMO_CNT).raise 0x190 0
  else
    let s := ((s.bump SHM_FULL_CNT).capture 0x190 0 0x0001 (m * 0x10000 + word)).raise 0x190 1
    let s := s.memFailing m
    if m < 60 then s.setFlag (LFT_BANK_STAT m) 20 true else s

/-- A corrected bit enters the memory's tracker; the third correction of one bit promotes the word (R279). -/
def State.track (s : State) (m word byte bit : Nat) : State :=
  let t := tget s.loft.trackers m []
  match t.find? fun e => e.word == word && e.byte == byte && e.bit == bit with
  | some e =>
    let t' := t.map fun x => if x = e then { x with count := x.count + 1 } else x
    let s := { s with loft := { s.loft with trackers := tput s.loft.trackers m t' } }
    if e.count + 1 = 3 then s.promote m word 2 else s
  | none =>
    let low := t.foldl (fun n e => min n e.count) 1000
    let t := if t.length < 16 then t
      else match t.find? fun e => e.count == low with
        | some e => t.erase e
        | none => t
    { s with loft := { s.loft with trackers := tput s.loft.trackers m (t ++ [(⟨word, byte, bit, 1⟩ : Track)]) } }

/-- A word enters the repair FIFO of its group, or is dropped where the FIFO is full (R276, R284). -/
def State.queueRepair (s : State) (m word : Nat) : State :=
  let g := scrubGroup m
  let q := s.loft.repair.getD g []
  if q.any fun e => e.1 == m && e.2.1 == word then s
  else if q.length ≥ 16 then (s.bump PLN_REPAIR_DROP_CNT).raise 0x188 1
  else { s with loft := { s.loft with repair := s.loft.repair.setIfInBounds g (q ++ [(m, word, [])]) } }

/-- The words of uncorrectable bytes are marked suspect (R276, R284). -/
def State.markSuspect (s : State) (keys : List Nat) : State :=
  { s with loft := { s.loft with suspect := keys.foldl (fun l k => addOnce l (k / 16 * 16)) s.loft.suspect } }

/-- A read met an uncorrectable byte, the first of them at `key`: counted and captured (R276). -/
def State.sramUncorrectable (s : State) (bay key : Nat) : State :=
  let m := sramNo key
  if m < 60 then ((s.bump LFT_UE_CNT).capture 0x180 bay 0x0001 key).raise 0x180 0
  else s.capture (0x80 + (m - 128)) bay 0x0002 key

/-- Bytes of one SRAM read through the check bits: what is corrected is queued for repair and tracked, the read counted, and the
words of uncorrectable bytes marked suspect (R275, R276). [log 12] -/
def State.sramRead (s : State) (bay key n : Nat) : Except MemErr (List Byte) × State :=
  let errs := s.sramErr.filter fun e => decide (key ≤ e.1 ∧ e.1 < key + n)
  if errs.isEmpty then (.ok (s.bytes key n), s)
  else
    let m := sramNo key
    let rd (k : Nat) : ByteRead := eccDecode (s.byte k) (tget s.sramErr k 0)
    let vals := (List.range n).map fun i => match rd (key + i) with | .ok b => b | .corrected b _ => b | .bad => 0
    let bad := (errs.map (·.1)).filter fun k => rd k == .bad
    let cor := errs.filterMap fun e => match rd e.1 with | .corrected _ bit => some (e.1, bit) | _ => none
    let t := each cor (fun c s =>
      let w := (c.1 - sramFirst m) / 16
      (s.queueRepair m w).track m w (c.1 % 16) c.2) s
    let t := if cor.isEmpty ∨ 60 ≤ m then t
      else (t.bump LFT_CE_CNT).setFld (LFT_BANK_STAT m) 15 0 (min 0xFFFF (t.fld (LFT_BANK_STAT m) 15 0 + 1))
    match bad with
    | [] => (.ok vals, t)
    | k :: _ => (.error .unc, (t.markSuspect bad).sramUncorrectable bay k)

/-- Bytes written to an SRAM: fresh check bits, the suspect bytes among them to be verified, and repairs skip them all (R277,
R284). -/
def State.sramWrite (s : State) (key : Nat) (bs : List Byte) : State :=
  let hit (k : Nat) : Bool := decide (key ≤ k ∧ k < key + bs.length)
  let poisoned (e : Nat × BitVec 13) : Bool := eccDecode (s.byte e.1) e.2 == .bad
  let rewritten := ((s.sramErr.filter fun e => hit e.1 && poisoned e).map (·.1)).filter fun k => s.loft.suspect.contains (k / 16 * 16)
  let left (w : Nat) : Bool := s.sramErr.any fun e => e.1 / 16 * 16 == w && !hit e.1 && poisoned e
  let seen (e : Nat × Nat × List Nat) : Nat × Nat × List Nat :=
    let lo := sramFirst e.1 + 16 * e.2.1
    (e.1, e.2.1, e.2.2 ++ ((List.range 16).map (lo + ·)).filter hit)
  { s.store key bs with
    sramErr := s.sramErr.filter fun e => !hit e.1
    loft := { s.loft with
      suspect := s.loft.suspect.filter fun w => !rewritten.any (fun k => k / 16 * 16 == w) || left w
      verify := rewritten.foldl addOnce s.loft.verify
      repair := s.loft.repair.map fun q => q.map seen
      writeback := s.loft.writeback.map fun q => q.map seen } }

/-! ## Wipes (R290) -/

/-- Memories by number: SRAMs as in `sramNo`, and 256 + core for program memory (R270). -/
def memAt (key : Nat) : Nat := if key < progBase then sramNo key else 256 + (key - progBase) / 0x20000
def memFirst (m : Nat) : Nat := if m < 256 then sramFirst m else progBase + 0x20000 * (m - 256)
def memBytes (m : Nat) : Nat := if m < 256 then sramLen m else 0x20000
def memGroup (m : Nat) : Nat := if m < 256 then scrubGroup m else 2 + (m - 256) / 9

/-- A range of one memory holds zero data with zero check bits; what was remembered of its words is dropped, its tracker's
entries included (R279, R290). [log 129] -/
def State.wipeRange (s : State) (lo n : Nat) : State :=
  let m := memAt lo
  let inR (a : Nat) : Bool := decide (lo ≤ a ∧ a < lo + n)
  let keep (e : Nat × Nat × List Nat) : Bool := !inR (memFirst e.1 + 16 * e.2.1)
  let s := s.wipe lo n
  { s with loft := { s.loft with
      suspect := s.loft.suspect.filter fun w => !inR w
      verify := s.loft.verify.filter fun w => !inR w
      repair := s.loft.repair.map fun q => q.filter keep
      writeback := s.loft.writeback.map fun q => q.filter keep
      trackers := s.loft.trackers.map fun e => if e.1 = m then (m, e.2.filter fun x => !inR (memFirst m + 16 * x.word)) else e } }

/-! ## Access checks -/

/-- Every byte lies in enabled Loft or Mortise buffer windows of the Bay (R272). -/
def State.inLoftWindows (s : State) (bay key n : Nat) : Bool :=
  let space := if key < bufBase then 0 else 1
  let base := if key < bufBase then loftBase else bufBase
  let unit (u : Nat) : Bool := (List.range 64).any fun w =>
    let v := s.reg (LFT_WIN w)
    bitOf v 31 && bitsOf v 30 30 == space && bitsOf v 26 24 == bay && decide (bitsOf v 9 0 ≤ u) &&
      decide (u < bitsOf v 9 0 + s.fld (LFT_WIN_SIZE w) 9 0)
  let u0 := (key - base) / 65536
  let u1 := (key + n - 1 - base) / 65536
  (List.range (u1 - u0 + 1)).all fun i => unit (u0 + i)

/-- Every byte lies in enabled windows of DRAM that the Bay owns and firmware does not (R298). -/
def State.inDramWindows (s : State) (bay o n : Nat) : Bool :=
  let unit (u : Nat) : Bool := (List.range 32).any fun w =>
    let v := s.reg (DRC_WIN w)
    bitOf v 31 && !bitOf v 29 && bitsOf v 26 24 == bay && decide (bitsOf v 11 0 ≤ u) &&
      decide (u < bitsOf v 11 0 + s.fld (DRC_WIN_SIZE w) 12 0)
  let u0 := o / 0x1000000
  let u1 := (o + n - 1) / 0x1000000
  (List.range (u1 - u0 + 1)).all fun i => unit (u0 + i)

/-- The range touches one that is being wiped (R291). -/
def State.wipingAt (s : State) (key n : Nat) : Bool :=
  s.loft.wiping.any fun r => decide (key < r.1 + r.2 ∧ r.1 < key + n)

/-- Bank of the range in retention or off (R287). -/
def State.bankDown (s : State) (key n : Nat) : Bool :=
  let m0 := sramNo key
  let m1 := sramNo (key + n - 1)
  (List.range (m1 - m0 + 1)).any fun i => s.loft.retained.contains (m0 + i) || s.loft.off.contains (m0 + i)

/-- Half, channel and offset in the channel of a DRAM offset (R296). -/
def State.dramMap (s : State) (o : Nat) : Nat × Nat × Nat :=
  let half := s.dramU / 2
  let h := if o ≥ half then 1 else 0
  let o2 := o - h * half
  let n := o2 / 256
  (h, 8 * h + n % 8, n / 8 * 256 + o2 % 256)

/-- Bytes of a self-refresh piece in one channel: 8 pieces for each rank fitted (R296). -/
def State.pieceBytes (s : State) : Nat := max 1 (s.dramU / 16 / (8 * max 1 s.dram.ranks))

/-- Self-refresh piece (8 × rank + segment) of a DRAM offset (R296). -/
def State.dramPiece (s : State) (o : Nat) : Nat := (s.dramMap o).2.2 / s.pieceBytes

/-- The refusal of an access to memory of R272, R273 or R298, with what it counts and captures; `none` where the
access may go on. -/
def State.accessRefused (s : State) (ag : Agent) (p : Place) (n addr : Nat) : Option State :=
  match p with
  | .none => some s
  | .sram key =>
    if !s.islandUp 2 then some (s.bump (bank 2 XNG_ERR_RESP_CNT))
    else if s.wipingAt key n || s.bankDown key n then some ((s.capture 0x180 ag.bay 0x0003 addr).raise 0x180 3)
    else if !ag.free && !s.inLoftWindows ag.bay key n then
      some (((s.bump LFT_WIN_REFUSE_CNT).capture 0x180 ag.bay 0x0002 addr).raise 0x180 2)
    else none
  | .data c key =>
    let own := match ag.who with | .core k => k.val == c | _ => false
    if !s.islandUp (8 + c / 9) then some (s.bump (bank (8 + c / 9) XNG_ERR_RESP_CNT))
    else if s.wipingAt key n then some (s.capture (0x80 + c) ag.bay 0x0004 addr)
    else if own || ag.free || ag.who == .truss then none
    else if s.owner (0x40 + c / 9) == ag.bay && !bitOf (s.fld (BNT_STAT (c / 9)) 24 16) (c % 9) then none
    else some (s.capture (0x80 + c) ag.bay 0x0004 addr)
  | .prog _ _ => none
  | .window _ => some s
  | .dram o =>
    let granules := (List.range ((o + n - 1) / 256 - o / 256 + 1)).map fun i => (o / 256 + i) * 256
    if !s.islandUp 4 then some (s.bump (bank 4 XNG_ERR_RESP_CNT))
    else if !ag.free && !s.inDramWindows ag.bay o n then
      some (((s.bump DRC_WIN_REFUSE_CNT).capture 0x1C0 ag.bay 0x0002 addr).raise 0x1C0 2)
    else if s.dram.wipedSegs.any (fun e => decide (s.ridge.ticks < e.2) &&
        granules.any fun g => e.1 == (s.dramMap g).1 * 16 + s.dramPiece g) then
      some (s.capture 0x1C0 ag.bay 0x0003 addr)
    else if granules.any fun g => s.flag DRC_STAT (s.dramMap g).2.1 then some s
    else none
  | .host h _ =>
    let fn := s.fld (BAY_HWIN_FN ag.bay h) 4 0
    if !s.islandUp 3 then some (s.bump (bank 3 XNG_ERR_RESP_CNT))
    else if s.fnBay h fn == ag.bay && s.fnOn h fn && (s.fn h fn).bme && s.linkL0 h then none
    else some s

/-- Host address of a host-window access (R384). -/
def State.hostAddr (s : State) (bay h x : Nat) : Nat := (s.wide (BAY_HWIN_LO bay h) / 4096 * 4096 + x) % 2 ^ 64

/-! ## DRAM words (R304 to R307) -/

/-- Bits set in a 72-bit error mask. -/
def weight72 (m : BitVec 72) : Nat := (List.range 72).foldl (fun n i => if m.getLsbD i then n + 1 else n) 0

/-- An uncorrectable read: counted, captured, raised, and remembered for the sliding second of R315. -/
def State.dramUncorrectable (s : State) (bay o : Nat) : State :=
  let ch := (s.dramMap o).2.1
  let s := (((s.bump DRC_UE_CNT).bump (DRC_CH_UE_CNT ch)).capture 0x1C0 bay 0x0001 (dramBase + o)).raise 0x1C0 0
  match s.dram.chans[ch]? with
  | some c => { s with dram := { s.dram with chans := s.dram.chans.setIfInBounds ch { c with ueTicks := s.ridge.ticks :: c.ueTicks } } }
  | none => s

/-- One 64-byte burst of a read, from the stored bytes `raw` at `o`: one wrong bit in a word is corrected and written back, two are
detected, and of three or more the spec says only that anything can result (R304, R306). [log 12, 81] -/
def State.burstJudge (s : State) (bay o : Nat) (raw : List Byte) (errs : Table (BitVec 72)) : Except MemErr (List Byte) × State :=
  let one := errs.filter fun e => weight72 e.2 == 1
  let many := errs.filter fun e => decide (weight72 e.2 ≥ 3)
  let s := if one.isEmpty then s else (s.bump DRC_CE_CNT).bump (DRC_CH_CE_CNT (s.dramMap o).2.1)
  let s := { s with dramErr := one.foldl (fun t e => if tget? t e.1 = some e.2 then tdel t e.1 else t) s.dramErr }
  match errs.find? fun e => weight72 e.2 == 2 with
  | some e => (.error .unc, s.dramUncorrectable bay e.1)
  | none =>
    if many.isEmpty then (.ok raw, s)
    else
      let (f, s) := s.fresh
      if f % 2 = 1 then (.error .unc, s.dramUncorrectable bay o)
      else (.ok ((List.range raw.length).map fun i =>
        if many.any fun e => e.1 == (o + i) / 8 * 8 then BitVec.ofNat 8 (f / 2 / 2 ^ (8 * (i % 7))) else raw.getD i 0), s)

/-- The 64-byte bursts that a range meets: offset and length of the part in each (R300). -/
def bursts (o n : Nat) : List (Nat × Nat) :=
  (List.range ((o + n - 1) / 64 - o / 64 + 1)).map fun i =>
    let lo := max o ((o / 64 + i) * 64)
    (lo, min (o + n) ((o / 64 + i + 1) * 64) - lo)

/-- Bytes of DRAM as read, given the stored bytes and the errors of their words, burst by burst. With inline ECC off the stored
bits are returned (R305). [log 12, 81] -/
def State.dramJudge (s : State) (bay o : Nat) (raw : List Byte) (errs : Table (BitVec 72)) : Except MemErr (List Byte) × State :=
  if errs.isEmpty then (.ok raw, s)
  else if !s.flag DRC_CFG 31 then
    (.ok ((List.range raw.length).map fun i =>
      raw.getD i 0 ^^^ ((tget errs ((o + i) / 8 * 8) 0) >>> (8 * ((o + i) % 8))).setWidth 8), s)
  else (bursts o raw.length).foldl (fun (r : Except MemErr (List Byte) × State) b =>
    let mine := errs.filter fun e => e.1 / 64 == b.1 / 64
    match r.1, r.2.burstJudge bay b.1 ((raw.drop (b.1 - o)).take b.2) mine with
    | .ok bs, (.ok more, s) => (.ok (bs ++ more), s)
    | .ok _, (.error e, s) => (.error e, s)
    | .error e, (_, s) => (.error e, s)) (.ok [], s)

/-- Errors of the words a range of DRAM touches. -/
def State.dramErrs (s : State) (o n : Nat) : Table (BitVec 72) :=
  s.dramErr.filter fun e => decide (o / 8 * 8 ≤ e.1 ∧ e.1 < o + n)

/-- Bytes of DRAM read. [log 79] -/
def State.dramRead (s : State) (bay o n : Nat) : Except MemErr (List Byte) × State :=
  s.dramJudge bay o (s.bytes (dramBase + o) n) (s.dramErrs o n)

/-- Bytes written to DRAM: whole words are written; a part of a word is merged, and a merge that reads an
uncorrectable word writes nothing (R307). [log 79] -/
def State.dramWrite (s : State) (bay o : Nat) (bs : List Byte) : Bool × State :=
  let n := bs.length
  let iecc := s.flag DRC_CFG 31
  let words := (List.range ((o + n - 1) / 8 - o / 8 + 1)).map fun i => (o / 8 + i) * 8
  words.foldl (fun (r : Bool × State) w =>
    let lo := max w o
    let hi := min (w + 8) (o + n)
    let part := (bs.drop (lo - o)).take (hi - lo)
    let s := r.2
    if hi - lo = 8 ∨ !iecc then
      let fresh := ((BitVec.ofNat 72 (2 ^ (8 * (hi - lo)) - 1)) <<< (8 * (lo - w)))
      let kept := if hi - lo = 8 then 0 else tget s.dramErr w 0 &&& ~~~fresh
      (r.1, { s.store (dramBase + lo) part with dramErr := if kept = 0 then tdel s.dramErr w else tput s.dramErr w kept })
    else
      let s := s.bump DRC_MERGE_CNT
      match s.dramRead bay w 8 with
      | (.error _, s) => (false, s)
      | (.ok old, s) =>
        let new := old.take (lo - w) ++ part ++ old.drop (hi - w)
        (r.1, { s.store (dramBase + w) new with dramErr := tdel s.dramErr w })) (true, s)

/-! ## Program memory (R123) -/

/-- Unit of `Config.unit`: a program word with three or more wrong bits. -/
abbrev uProg : Nat := 63

/-- A 32-bit word of program memory: seven check bits correct one wrong bit and detect two; what three or more give, no rule
says. [log 12, 60] -/
def State.progRead (s : State) (key : Nat) : Option Nat :=
  let m := tget s.progErr (key / 4 * 4) 0
  let w := (List.range 39).foldl (fun n i => if m.getLsbD i then n + 1 else n) 0
  let raw := ofBytes (s.bytes (key / 4 * 4) 4)
  if w ≤ 1 then some raw
  else if w = 2 then none
  else
    let u := Config.unit uProg [raw, m.toNat]
    if u % 2 = 0 then none else some (u / 2 % 2 ^ 32)

/-- Bytes of program memory, none of whose words is uncorrectable. -/
def State.progBytes (s : State) (key n : Nat) : List Byte :=
  if s.progErr.isEmpty then s.bytes key n
  else (List.range n).map fun i => BitVec.ofNat 8 ((s.progRead (key + i)).getD 0 / 2 ^ (8 * ((key + i) % 4)))

/-! ## Reads and writes as requesters make them -/

/-- Bytes of the part of the address map that holds an address and that no access crosses: a bank of Loft or of the Mortise
buffers (R270), a core's data memory, a host's window, and a granule of DRAM while a channel is FAILED (R315); 0 elsewhere. -/
def State.pieceLen (s : State) (a : Nat) : Nat :=
  if loftBase ≤ a ∧ a < loftBase + 0x3000000 then 0x100000
  else if bufBase ≤ a ∧ a < bufBase + 0xC00000 then 0x100000
  else if dataBase ≤ a ∧ a < dataBase + 72 * 0x80000 then 0x80000
  else if hostBase ≤ a then 0x100000000000
  else if dramBase ≤ a ∧ a < dramBase + s.dramU ∧ s.fld DRC_STAT 15 0 ≠ 0 then 256
  else 0

/-- Parts of a range: an access that spans two banks is split into one for each, and so for the other parts. [log 83] -/
def State.cut (s : State) : Nat → Nat → Nat → List (Nat × Nat)
  | 0, a, n => [(a, n)]
  | fuel + 1, a, n =>
    let size := s.pieceLen a
    let room := size - a % size
    if size = 0 ∨ n ≤ room then [(a, n)] else (a, room) :: s.cut fuel (a + room) (n - room)

def State.pieces (s : State) (a n : Nat) : List (Nat × Nat) := s.cut (72 + n / 256) a n

/-- A read of `n` bytes that lie in one part. [log 13] -/
def State.partRead (s : State) (ag : Agent) (a n : Nat) : Except MemErr (List Byte) × State :=
  if n = 0 then (.ok [], s)
  else
    let p := s.place ag.who a n
    match s.accessRefused ag p n a with
    | some t =>
      let lost := match p with
        | .dram o => (List.range ((o + n - 1) / 256 - o / 256 + 1)).any fun i => s.flag DRC_STAT (s.dramMap ((o / 256 + i) * 256)).2.1
        | _ => false
      (.error (if lost then .unc else .bus), t)
    | none => match p with
      | .sram key => s.sramRead ag.bay key n
      | .data _ key => s.sramRead ag.bay key n
      | .prog _ key =>
        match (List.range ((key + n - 1) / 4 - key / 4 + 1)).find? fun i => (s.progRead (key + 4 * i)).isNone with
        | some _ => (.error .unc, s)
        | none => (.ok (s.progBytes key n), s)
      | .dram o => s.dramRead ag.bay o n
      | .host h x =>
        let c := s.free
        (.ok ((List.range n).map fun i => Config.hostByte c h (s.hostAddr ag.bay h x + i)), { s with free := c + 1 })
      | _ => (.error .bus, s)

/-- An access in several parts with a byte outside the windows of the requester's Bay reaches no byte of any (R272, R298). -/
def State.spanRefused (s : State) (ag : Agent) (a n : Nat) : Option State :=
  match s.place ag.who a n with
  | .sram key =>
    if sramNo key = sramNo (key + n - 1) ∨ ag.free ∨ !s.islandUp 2 ∨ s.inLoftWindows ag.bay key n then none
    else some (((s.bump LFT_WIN_REFUSE_CNT).capture 0x180 ag.bay 0x0002 a).raise 0x180 2)
  | .dram o =>
    if s.fld DRC_STAT 15 0 = 0 ∨ ag.free ∨ !s.islandUp 4 ∨ s.inDramWindows ag.bay o n then none
    else some (((s.bump DRC_WIN_REFUSE_CNT).capture 0x1C0 ag.bay 0x0002 a).raise 0x1C0 2)
  | _ => none

/-- A read of `n` bytes by a requester of memory: the error of the first part that has one. [log 83] -/
def State.memRead (s : State) (ag : Agent) (a n : Nat) : Except MemErr (List Byte) × State :=
  if let some t := s.spanRefused ag a n then (.error .bus, t)
  else (s.pieces a n).foldl (fun r p => match r with
    | (.ok bs, s) => match s.partRead ag p.1 p.2 with
      | (.ok more, s) => (.ok (bs ++ more), s)
      | (.error e, s) => (.error e, s)
    | (.error e, s) => (.error e, s)) (.ok [], s)

/-- A write of bytes that lie in one part: whether it was accepted. -/
def State.partWrite (s : State) (ag : Agent) (a : Nat) (bs : List Byte) : Bool × State :=
  if bs.isEmpty then (true, s)
  else
    let p := s.place ag.who a bs.length
    match s.accessRefused ag p bs.length a with
    | some t => (false, t)
    | none => match p with
      | .sram key => (true, s.sramWrite key bs)
      | .data _ key => (true, s.sramWrite key bs)
      | .prog _ key =>
        (true, { s.store key bs with progErr := s.progErr.filter fun e => !decide (key ≤ e.1 ∧ e.1 < key + bs.length) })
      | .dram o => s.dramWrite ag.bay o bs
      | .host h x =>
        (true, s.emit (.hostWrite (Fin.ofNat 4 h) (Fin.ofNat 17 (s.fld (BAY_HWIN_FN ag.bay h) 4 0))
          (BitVec.ofNat 64 (s.hostAddr ag.bay h x)) bs))
      | _ => (false, s)

/-- A write of bytes by a requester of memory: whether every part was accepted. [log 83, 84] -/
def State.memWrite (s : State) (ag : Agent) (a : Nat) (bs : List Byte) : Bool × State :=
  if let some t := s.spanRefused ag a bs.length then (false, t)
  else (s.pieces a bs.length).foldl (fun r p =>
    let x := r.2.partWrite ag p.1 ((bs.drop (p.1 - a)).take p.2)
    (r.1 && x.1, x.2)) (true, s)

/-- A write that goes on whatever its answer. -/
def State.put (s : State) (ag : Agent) (a : Nat) (bs : List Byte) : State := (s.memWrite ag a bs).2

/-- A read that takes an error as zero bytes. -/
def State.got (s : State) (ag : Agent) (a n : Nat) : List Byte :=
  match (s.memRead ag a n).1 with
  | .ok bs => bs
  | .error _ => List.replicate n 0

/-- The memory key of one byte that an agent can write; none where it lies in no memory of the device or is refused. [log 39] -/
def State.writable (s : State) (ag : Agent) (a : Nat) : Option Nat :=
  let p := s.place ag.who a 1
  if (s.accessRefused ag p 1 a).isSome then none
  else match p with
    | .sram k => some k
    | .data _ k => some k
    | .dram o => some (dramBase + o)
    | _ => none

/-- Bytes that the rules leave undefined (R90): each that the agent can write is a free value. [log 39, 70] -/
def State.spoil (s : State) (ag : Agent) (a n : Nat) : State :=
  if n = 0 then s
  else (List.range n).foldl (fun t i => match s.writable ag (a + i) with
    | some k => t.store k [Config.freeByte s.free i]
    | none => t) { s with free := s.free + 1 }

/-- The Truss on behalf of a Bay: its windows are checked (R78, R94). -/
def trussFor (b : Nat) : Agent := ⟨.truss, b, false⟩

/-- The Truss on its own Ledger records, and firmware (R298). -/
def trussOwn : Agent := ⟨.truss, 0, true⟩

/-- Bay of the task an engine holds (R272). -/
def State.engineBay (s : State) (e : Nat) : Nat :=
  match (s.engines.getD e Engine.cold).task with
  | none => s.owner (0x100 + e)
  | some r => match s.truss.frames.find? fun f => f.tasks.any fun t => t.idx == r with
    | some f => f.bay
    | none => s.owner (0x100 + e)

/-- A requester as an agent (R21, R272). -/
def State.agent (s : State) (who : Requester) : Agent :=
  match who with
  | .engine e => ⟨who, s.engineBay e.val, false⟩
  | .plate _ => ⟨who, 0, true⟩
  | .truss => trussOwn
  | _ => ⟨who, s.bayOf who, false⟩

/-- The range is readable by the Bay: inside its windows and in no region that answers an error (R78, R103). -/
def State.inWindows (s : State) (b a n : Nat) : Bool :=
  (s.pieces a n).all fun p => match s.place .truss p.1 p.2 with
    | .sram key => s.inLoftWindows b key p.2
    | .dram o => s.inDramWindows b o p.2
    | .data c _ => s.owner (0x40 + c / 9) == b
    | .host h _ => s.fnBay h (s.fld (BAY_HWIN_FN b h) 4 0) == b && s.fnOn h (s.fld (BAY_HWIN_FN b h) 4 0) &&
        (s.fn h (s.fld (BAY_HWIN_FN b h) 4 0)).bme && s.linkL0 h
    | _ => false

end Sys2Proof.Machine
end

