-- ==== Sys2Proof/Machine/Grid.lean ====
section
/-! DEFINITION. Ridge time and the slot grid as computed from the counter (R39, R40, R43, R63 to R65, R91). Times are
integers in units of 2^-48 ns, the resolution of the counter's own fraction. -/

namespace Sys2Proof.Machine

/-! ## The counter -/

/-- 2^48: one nanosecond in the counter's units. -/
abbrev nsUnit : Nat := 0x1000000000000

/-- The counter's value. -/
def State.now (s : State) : Int :=
  ((s.ridge.sec.toNat * 1000000000 + s.ridge.ns.toNat) * nsUnit + s.ridge.frac.toNat : Nat)

/-- Whole nanoseconds of the counter. -/
def State.nowNs (s : State) : Nat := s.ridge.sec.toNat * 1000000000 + s.ridge.ns.toNat

/-- The counter set; seconds wrap modulo 2^48 (R39). -/
def State.setNow (s : State) (t : Int) : State :=
  let n := t / (nsUnit : Int)
  { s with ridge := { s.ridge with
      sec := BitVec.ofInt 48 (n / 1000000000)
      ns := BitVec.ofInt 30 (n % 1000000000)
      frac := BitVec.ofInt 48 (t % (nsUnit : Int)) } }

/-- The rate value in force, signed 40 bits (R40). -/
def State.rate (s : State) : Int := sgn 40 (s.wide RDG_RATE_LO)

/-- Most that slew may add to a tick, towards `d`: RDG_SLEW_MAX in ppb, and never beyond 2^-9 faster than nominal
(R43). -/
def State.slewPerTick (s : State) (d : Int) : Int :=
  let m : Int := (s.fld RDG_SLEW_MAX 13 0 * nsUnit / 1000000000 : Nat)
  if d ≥ 0 then max 1 (min m (0x8000000000 - s.rate)) else m

/-- `n` elapsed ticks (R39, R40, R43). [log 1] -/
def State.advance (s : State) (n : Nat) : State :=
  let d := s.ridge.slew
  let m := s.slewPerTick d * n
  let moved := if d ≥ 0 then min d m else max d (-m)
  let t := s.setNow (s.now + ((nsUnit : Int) + s.rate) * n + moved)
  let locked := match (if n = 0 then 0 else s.fld RDG_SERVO_STAT 1 0), s.ridge.locked with
    | 2, (r, k) :: rest => if r = s.rate then (r, k + n) :: rest else (s.rate, n) :: (r, k) :: rest
    | 2, [] => [(s.rate, n)]
    | _, l => l
  { t with ridge := { t.ridge with ticks := s.ridge.ticks + n, slew := d - moved, locked := locked } }

/-- Quotient rounded up. -/
def ceilDiv (a b : Int) : Int := -((-a) / b)

/-- Ticks until the counter reads a time or later (R39, R43). -/
def State.ticksTo (s : State) (t : Int) : Nat :=
  let delta := t - s.now
  let base := (nsUnit : Int) + s.rate
  let d := s.ridge.slew
  let m := s.slewPerTick d
  if delta ≤ 0 then 0
  else if d ≥ 0 then (max (ceilDiv (delta - d) base) (ceilDiv delta (base + m))).toNat
  else (min (ceilDiv (delta - d) base) (ceilDiv delta (base - m))).toNat

/-- Time passes until the counter has reached a time. An event that the block's own clock brings about happens at its
time: where the command for it comes first, the Ridge runs on to that time. [log 4] -/
def State.untilTime (s : State) (t : Int) : State := s.advance (s.ticksTo t)

/-- Time passes until an elapsed tick. [log 4, 117] -/
def State.untilTick (s : State) (n : Nat) : State := s.advance (n - s.ridge.ticks)

/-! ## Grids -/

/-- A carrier's grid: κTc of a symbol but the first of a half-subframe, of that first one, symbols in a
half-subframe and in a slot (R63). -/
structure GridShape where
  len : Nat
  first : Nat
  perHalf : Nat
  perSlot : Nat
  deriving DecidableEq, Repr

/-- The grids of R63; `none` for a combination R65 does not name. -/
def gridShape (mu ecp rat : Nat) : Option GridShape :=
  match rat, ecp, mu with
  | 0, 0, 0 => some ⟨2192, 2208, 7, 14⟩
  | 0, 0, 1 => some ⟨1096, 1112, 14, 14⟩
  | 0, 0, 2 => some ⟨548, 564, 28, 14⟩
  | 0, 1, 2 => some ⟨640, 640, 24, 12⟩
  | 0, 0, 3 => some ⟨274, 290, 56, 14⟩
  | 0, 0, 4 => some ⟨137, 153, 112, 14⟩
  | 1, 0, 0 | 2, 0, 0 | 3, 0, 0 => some ⟨2192, 2208, 7, 7⟩
  | 1, 1, 0 | 3, 1, 0 => some ⟨2560, 2560, 6, 6⟩
  | _, _, _ => none

def State.carCfg (s : State) (c : Nat) : Nat := s.reg (RDG_CAR_CFG c)
def State.carOn (s : State) (c : Nat) : Bool := bitOf (s.carCfg c) 31
def State.carBay (s : State) (c : Nat) : Nat := bitsOf (s.carCfg c) 26 24

/-- The grid of a carrier. -/
def State.shape (s : State) (c : Nat) : GridShape :=
  let v := s.carCfg c
  (gridShape (bitsOf v 2 0) (bitsOf v 3 3) (bitsOf v 5 4)).getD ⟨2192, 2208, 7, 14⟩

/-- The carrier's anchor: the GPS epoch plus its offset (R63). -/
def State.anchor (s : State) (c : Nat) : Int :=
  315964819 * 1000000000 * (nsUnit : Int) + sgn 32 (s.reg (RDG_CAR_OFFS c)) * (nsUnit / 4 : Nat)

/-- κTc units from an anchor to a time, rounded down: 1 κTc is 3125/96 ns. -/
def kOf (t : Int) : Int := t * 96 / (3125 * (nsUnit : Int))

/-- First time, in the counter's units, at or after `k` κTc units. -/
def kTime (k : Int) : Int := -((-(k * 3125 * (nsUnit : Int))) / 96)

/-- Number of the symbol that holds `k` κTc units from the anchor. -/
def symOf (g : GridShape) (k : Int) : Int :=
  let h := k / 15360
  let x := k % 15360
  h * g.perHalf + (if x < g.first then 0 else 1 + (x - g.first) / g.len)

/-- κTc units from the anchor to the start of symbol number `n`. -/
def symStart (g : GridShape) (n : Int) : Int :=
  let h := n / g.perHalf
  let i := n % g.perHalf
  h * 15360 + (if i = 0 then 0 else g.first + (i - 1) * g.len)

/-- Number of the last symbol boundary of a carrier at or before a time. -/
def State.symAt (s : State) (c : Nat) (t : Int) : Int := symOf (s.shape c) (kOf (t - s.anchor c))

/-- Number of the last symbol boundary strictly before a time. -/
def State.symBefore (s : State) (c : Nat) (t : Int) : Int :=
  symOf (s.shape c) (-((-((t - s.anchor c) * 96)) / (3125 * (nsUnit : Int))) - 1)

/-- Time of a symbol boundary of a carrier, as the first counter value at or after it (R64). -/
def State.symTime (s : State) (c : Nat) (n : Int) : Int := s.anchor c + kTime (symStart (s.shape c) n)

/-- Slot count of a carrier, before it is taken modulo 2^32 (R63). -/
def State.slotInt (s : State) (c : Nat) : Int := s.symAt c s.now / (s.shape c).perSlot

def State.carStarted (s : State) (c : Nat) : Bool := (tget s.ridge.cars c ⟨false, 0⟩).started

/-- RDG_CAR_SLOT: 0 while the carrier is not enabled, for it has no anchor then (R63). [log 124] -/
def State.carSlot (s : State) (c : Nat) : Nat := if s.carOn c then wrap 32 (s.slotInt c) else 0

/-- RDG_CAR_POS: 0 until the carrier has started (R65). -/
def State.carPos (s : State) (c : Nat) : Nat :=
  if !s.carStarted c then 0
  else
    let g := s.shape c
    let k := kOf (s.now - s.anchor c)
    let n := symOf g k
    let frame := k / 307200
    let perFrame : Int := (20 * g.perHalf / g.perSlot : Nat)
    wrap 10 (frame / 1024) * 0x400000 + wrap 10 frame * 0x1000 + ((n / g.perSlot) % perFrame).toNat * 16 +
      (n % g.perSlot).toNat

/-- A slot count modulo 2^32 as the whole count nearest the carrier's present one (R78, R91). -/
def State.nearSlot (s : State) (c : Nat) (slot : Nat) : Int :=
  let cur := s.slotInt c
  cur + sgn 32 (wrap 32 ((slot : Int) - cur))

/-- Number of the symbol `sym` of slot count `slot`, `later` symbols on. -/
def State.symNo (s : State) (c slot sym later : Nat) : Int :=
  s.nearSlot c slot * (s.shape c).perSlot + sym + later

/-- A forward step has passed over symbol boundary `n` of carrier `c`: none of its events fires (R50). -/
def State.steppedOver (s : State) (c : Nat) (n : Int) : Bool :=
  (tget s.ridge.skipped c []).any fun r => decide (r.1 < n ∧ n ≤ r.2)

/-- The grid has reached symbol `sym` of slot `slot`, plus `later` symbols (R91). -/
def State.reached (s : State) (c slot sym later : Nat) : Bool :=
  decide (s.symTime c (s.symNo c slot sym later) ≤ s.now)

/-- deadline_time(t) − A in κTc units, A the anchor of R63 at offset 0 (R87): the carrier's own offset counts. -/
def State.deadlineK (s : State) (c slot sym : Nat) : Int :=
  kOf (s.symTime c (s.symNo c slot sym 0) - 315964819 * 1000000000 * (nsUnit : Int))

/-- The Ridge time as a stamp. -/
def stampOf (t : Int) (mt : Nat) (seq : Nat) : Stamp :=
  let n := t / (nsUnit : Int)
  ⟨BitVec.ofInt 48 (n / 1000000000), BitVec.ofInt 30 (n % 1000000000), BitVec.ofInt 32 (t % (nsUnit : Int) / 65536),
   BitVec.ofNat 4 mt, BitVec.ofNat 16 seq⟩

end Sys2Proof.Machine
end

