-- ==== Sys2Proof/Machine/AirChannels.lean ====
section
/-! DEFINITION. AIR's job channels as the Truss sees them (R236 to R241): their registers, the completion of an entry, and the
purge of a channel. -/

namespace Sys2Proof.Machine

/-- Sum and difference modulo 2^32. -/
def add32 (a b : Nat) : Nat := (a + b) % 0x100000000
def sub32 (a b : Nat) : Nat := (a + 0x100000000 - b % 0x100000000) % 0x100000000

def State.coreBay (s : State) (c : Nat) : Nat := s.owner (0x40 + c / 9)

/-! ## Channels -/

def airPage : Nat := 0x3A0

def State.airCh (s : State) (c : Nat) : AirCh := s.air.getD c ⟨0, [], none⟩
def State.setAirCh (s : State) (c : Nat) (x : AirCh) : State := { s with air := s.air.setIfInBounds c x }

/-- Registers of a channel, kept at the banked copies of AIR_VIEW[0]. -/
def airReg (c a : Nat) : Nat := bank c a
def State.airRing (s : State) (c : Nat) : Nat := s.wide (airReg c (AIR_CH_RING_LO 0)) / 2048 * 2048
def State.airOn (s : State) (c : Nat) : Bool := s.flag (airReg c (AIR_CH_CTL 0)) 31
def State.airFetch (s : State) (c : Nat) : Nat := s.reg (airReg c (AIR_CH_FETCH 0))

/-- D: the oldest entry whose word 7 is not yet written done (R238). -/
def State.airDone (s : State) (c : Nat) : Nat := sub32 (s.airFetch c) (s.airCh c).jobs.length

/-- AIR's accesses are made as the Bay of the core (R236). -/
def State.airAgent (s : State) (c : Nat) : Agent := ⟨.air (Fin.ofNat 72 c), s.coreBay c, false⟩

/-- Word 7 of the oldest entry is written, and the entry leaves the channel (R241). [log 71] -/
def State.airComplete (s : State) (ch code sat cycles : Nat) : State :=
  let d := s.airDone ch
  let w := 2 ^ 63 + code * 2 ^ 56 + min sat 0xFFFF * 2 ^ 32 + cycles % 2 ^ 32
  let s := s.put (s.airAgent ch) (s.airRing ch + 64 * (d % 16) + 56) (toBytes 8 w)
  let s := s.setAirCh ch { s.airCh ch with jobs := (s.airCh ch).jobs.drop 1, result := none }
  if code = 0 then (s.bump AIR_JOB_CNT).bumpBy AIR_SAT_CNT sat
  else if code = 1 then s.bump AIR_STALE_CNT
  else if code ≥ 0x10 then (s.bump AIR_ERR_CNT).raise airPage 0
  else s

/-- A purge (R240): every job of the channel completes PURGED, and the fetch index becomes P. [log 70] -/
def State.airPurge (s : State) (ch : Nat) : State :=
  let s := each (s.airCh ch).jobs (fun _ s => let (f, s) := s.fresh; s.airComplete ch 2 0 (f % 2 ^ 32)) s
  (s.setReg (airReg ch (AIR_CH_FETCH 0)) (s.airCh ch).prod.toNat).bump AIR_PURGE_CNT

end Sys2Proof.Machine
end

