-- ==== Sys2Proof/Machine/Truss.lean ====
section
/-! DEFINITION. The Truss and the Ledger as shared operations (04): queues and rings, the Frame checks of R78,
records and their CRC (R82), task states (R84), Frame states (R85), events (R86), selection (R87), completion and
delivery (R92 to R94), capacity (R100, R101) and what a fault or a wipe does to work (R103 to R106). -/

namespace Sys2Proof.Machine

/-! ## Queues -/

def qDepth (q : Nat) : Nat := bank q (TRS_Q_DEPTH 0)
def qSring (q : Nat) : Nat := bank q (TRS_Q_SRING_LO 0)
def qCblk (q : Nat) : Nat := bank q (TRS_Q_CBLK_LO 0)
def viewPage (b : Nat) : Nat := 0x28 + b

def State.qOnchip (s : State) (q : Nat) : Bool := s.flag (qCfg q) 29
def State.qClass (s : State) (q : Nat) : Nat := s.fld (qCfg q) 26 24
def State.qGrace (s : State) (q : Nat) : Nat := s.fld (qCfg q) 23 20
def State.qKind (s : State) (q : Nat) : Nat := s.fld (qCfg q) 19 16
def State.qMask (s : State) (q : Nat) : Nat := s.fld (qCfg q) 15 0
def State.qBay (s : State) (q : Nat) : Nat := s.owner (qPage q)
def State.qLimit (s : State) (q : Nat) : Nat := s.fld (qDepth q) 16 0

/-- The 64-byte aligned base of the submission ring, and its size. -/
def State.ringBase (s : State) (q : Nat) : Nat := s.wide (qSring q) / 64 * 64
def State.ringSize (s : State) (q : Nat) : Nat := 2 ^ s.fld (qSring q) 4 0
def State.cblk (s : State) (q : Nat) : Nat := s.wide (qCblk q) / 64 * 64
def State.epoch (s : State) : Nat := s.reg TRS_EPOCH

/-- The head Frame is held back for `c`, or no longer (R96). -/
def State.holdHead (s : State) (q c : Nat) : State :=
  if (s.q q).room = c then s else (s.setQ q { s.q q with room := c }).showStall q

/-- Delivery waits for `c`, or no longer (R94). -/
def State.holdDelivery (s : State) (q c : Nat) : State :=
  if (s.q q).delay = c then s else (s.setQ q { s.q q with delay := c }).showStall q

/-- Tasks a queue holds: from admission until they end (R71). -/
def State.qHeld (s : State) (q : Nat) : Nat :=
  s.truss.frames.foldl (fun n f => n + (f.tasks.filter fun t => t.queue == q && t.st != .done && t.st != .closed).length) 0

/-! ## Regions (R81) -/

def regionBase (unit : Nat) : Nat := if unit = 0 then 1024 else unit * 65536

/-- First record and number of records of a Bay's region. -/
def State.region (s : State) (b : Nat) : Nat × Nat :=
  let base := s.fld (LDG_REGION b) 7 0
  let size := s.fld (LDG_REGION b) 24 16
  if size = 0 then (regionBase base, 0) else (regionBase base, (base + size) * 65536 - regionBase base)

/-- Records of a region that unreturned Frames hold. -/
def State.regionUsed (s : State) (b : Nat) : Nat :=
  s.truss.frames.foldl (fun n f => if f.bay = b then n + f.tasks.length else n) 0

/-- LDG_FREE: records that are FREE or CLOSED. -/
def State.regionFree (s : State) (b : Nat) : Nat := (s.region b).2 - s.regionUsed b

/-- Record index of task `i` of a Frame (R81). -/
def State.recIdx (s : State) (b fid i : Nat) : Nat :=
  let r := s.region b
  r.1 + (fid - r.1 + i) % max 1 r.2

/-- The records at the allocation point are free (R81). [log 38] -/
def State.canAlloc (s : State) (b n : Nat) : Bool :=
  let r := s.region b
  let at' := s.truss.alloc.getD b 0
  let want := (List.range n).map fun i => r.1 + (at' + i) % max 1 r.2
  decide (n ≤ r.2) && s.truss.frames.all fun f => f.tasks.all fun t => !want.contains t.idx

/-! ## Records (R82) -/

/-- CRC-32C of RFC 3720 over bytes. -/
def crc32c (bs : List Byte) : Nat :=
  let step (c : Nat) (b : Byte) : Nat :=
    (List.range 8).foldl (fun c _ => if c % 2 = 1 then Nat.xor (c / 2) 0x82F63B78 else c / 2) (Nat.xor c b.toNat)
  Nat.xor (bs.foldl step 0xFFFFFFFF) 0xFFFFFFFF

def parentBits (ps : List Nat) (lo n : Nat) : Nat :=
  (List.range n).foldl (fun v k => v + (ps.getD (lo + k) 0) % 4096 * 2 ^ (12 * k)) 0

/-- State code of R82. -/
def recCode : RecState → Nat
  | .free => 0 | .admitted => 1 | .ready => 2 | .running => 3 | .staged => 4 | .done => 5 | .closed => 6

/-- The eight words of a record, with the state field as given. -/
def recordWords (f : Frame) (i : Nat) (t : Task) (code : Nat) : List Nat :=
  let w0 := t.status * 2 ^ 59 + code * 2 ^ 56 + f.queue * 2 ^ 46 + t.queue * 2 ^ 36 + i * 2 ^ 24 + f.id
  let w1 := t.parents.length * 2 ^ 60 + t.attempt % 16 * 2 ^ 56 + t.dlSym * 2 ^ 52 + f.carrier * 2 ^ 40 + f.seq % 2 ^ 40
  let w2 := t.evtId * 2 ^ 50 + t.evtKind * 2 ^ 48 + t.aff * 2 ^ 32 + t.dlSlot
  let w3 := t.nOut * 2 ^ 60 + t.nIn * 2 ^ 56 + t.evtSym * 2 ^ 52 + t.evtSlot * 2 ^ 49 + t.job
  let w4 := t.detail * 2 ^ 48 + t.buf
  let w5 := parentBits t.parents 0 5
  let w6 := t.consumer * 2 ^ 36 + parentBits t.parents 5 3
  let body := ([w0, w1, w2, w3, w4, w5, w6].map (toBytes 8)).flatten ++ toBytes 4 f.baseSlot ++ toBytes 4 t.idx
  [w0, w1, w2, w3, w4, w5, w6, crc32c body * 0x100000000 + f.baseSlot]

/-- The check of a record as read from DRAM. -/
def recordOk (bs : List Byte) (idx : Nat) : Bool :=
  crc32c (bs.take 60 ++ toBytes 4 idx) == ofBytes (bs.drop 60)

def mirrorBase (m : Nat) : Nat := if m = 0 then LDG_M0_LO else LDG_M1_LO

/-- The output buffers of a task of a Bay hold undefined data (R90). [log 39] -/
def State.spoilOutputs (s : State) (bay : Nat) (t : Task) : State :=
  each t.outs (fun o s => s.spoil ⟨.engine 0, bay, false⟩ o.1 o.2) s

def ended (t : Task) : Bool := t.st == .done || t.st == .closed

/-- A consumer is idle from now on. -/
def State.idleFrom (s : State) (consumer : Nat) : State :=
  { s with idleSince := tput s.idleSince consumer s.ridge.ticks }

/-- A task taken away from its consumer: a core raises ABANDON at its next packet boundary (R135), and its AIR channel is
purged before it is free (R240); an engine abandons (R169). -/
def State.takeAway (s : State) (consumer : Nat) (why : AbandonCause) : State :=
  let s := if consumer < 72 then s.airPurge consumer else s
  let s := { s with truss := { s.truss with holding := tdel s.truss.holding consumer } }
  if consumer < 128 then
    if h : consumer < 72 then
      let c := { s.cores[consumer] with taskValid := false, taskAbandoned := true, abandonPending := some why }
      { s with cores := s.cores.set consumer c }
    else s
  else s.setFld (MRT_STAT (consumer - 128)) 3 0 4

/-- A record that no mirror holds: admission stops, and every task whose state is held on chip ends, its consumer giving it up
(R106). [log 125] -/
def State.ledgerLost (s : State) : State :=
  let kill (t : Task) : Task := if ended t then t else { t with st := .done, status := 2, detail := 6 }
  let s := { s.setFlag LDG_STAT 3 true with truss := { s.truss with admits := false } }
  each s.truss.frames (fun f s =>
    if f.st = .committed ∨ f.st = .returned then s
    else
      let s := each f.tasks (fun t s =>
        if ended t then s
        else
          let s := if t.st = .running then s.takeAway t.consumer .cancel else s
          s.spoilOutputs f.bay t) s
      let s := if f.tasks.all ended then s else s.raise (0x28 + s.owner (qPage f.queue)) 3
      let f' := { f with tasks := f.tasks.map kill }
      let f' := if f.st = .opened then f' else { f' with st := .committed, commitNs := s.ridge.ns.toNat }
      { s with truss := { s.truss with frames := s.truss.frames.map fun g => if g.id = f.id then f' else g } }) s

/-- The mirror that is being filled from the other one (R106). -/
def State.returning (s : State) : Option Nat :=
  if !s.flag LDG_STAT 2 then none
  else match s.fld LDG_STAT 1 0 with
    | 1 => some 1
    | 2 => some 0
    | _ => none

/-- A mirror is out of service, a copy to it or from it is over; with neither left, records are lost (R106). -/
def State.mirrorFail (s : State) (m : Nat) : State :=
  let s := ((s.setFlag LDG_STAT m false).setFlag LDG_STAT 2 false).setReg LDG_RESYNC_POS 0
  if s.fld LDG_STAT 1 0 = 0 then s.ledgerLost else s

/-- A record written to each mirror in service, and to one that is being filled where the copy has passed it (R83, R106);
whether a mirror in service has taken it. -/
def State.writeRecord (s : State) (idx : Nat) (words : List Nat) : Bool × State :=
  let s := each [0, 1] (fun m s =>
    if s.flag LDG_STAT m || (s.returning == some m && decide (idx < s.reg LDG_RESYNC_POS)) then
      let (ok, s) := s.memWrite trussOwn (s.wide (mirrorBase m) + 64 * idx) ((words.map (toBytes 8)).flatten)
      if ok then s else s.mirrorFail m
    else s) s
  (decide (s.fld LDG_STAT 1 0 ≠ 0), s)

/-- A record read from one mirror, where it passes its check. -/
def State.readMirror (s : State) (m idx : Nat) : Option (List Byte) × State :=
  match s.memRead trussOwn (s.wide (mirrorBase m) + 64 * idx) 64 with
  | (.ok bs, s) => (if recordOk bs idx then some bs else none, s)
  | (.error _, s) => (none, s)

/-- A failed read of a mirror counted in LDG_UE_CNT, whose halves saturate. -/
def State.countMirrorUe (s : State) (m : Nat) : State :=
  if m = 0 then s.setFld LDG_UE_CNT 15 0 (min 0xFFFF (s.fld LDG_UE_CNT 15 0 + 1))
  else s.setFld LDG_UE_CNT 31 16 (min 0xFFFF (s.fld LDG_UE_CNT 31 16 + 1))

/-- A live record read under R83: mirror 0 first, repaired from mirror 1; `none` where both fail. -/
def State.readRecord (s : State) (idx : Nat) : Option (List Byte) × State :=
  if s.flag LDG_STAT 0 then
    match s.readMirror 0 idx with
    | (some bs, s) => (some bs, s)
    | (none, s) =>
      let s := s.countMirrorUe 0
      if s.flag LDG_STAT 1 then
        match s.readMirror 1 idx with
        | (some bs, s) =>
          let (ok, s) := s.memWrite trussOwn (s.wide (mirrorBase 0) + 64 * idx) bs
          (some bs, (if ok then s else s.mirrorFail 0).bump LDG_CE_CNT)
        | (none, s) => (none, s.countMirrorUe 1)
      else (none, s)
  else if s.flag LDG_STAT 1 then
    match s.readMirror 1 idx with
    | (some bs, s) => (some bs, s)
    | (none, s) => (none, s.countMirrorUe 1)
  else (none, s)

/-! ## Frames and tasks -/

def State.setFrames (s : State) (fs : List Frame) : State := { s with truss := { s.truss with frames := fs } }

/-- The live Frame with a Frame ID. -/
def State.frame? (s : State) (fid : Nat) : Option Frame := s.truss.frames.find? fun f => f.id == fid

/-- Replace the live Frame that has the Frame ID of `f`. -/
def State.setFrame (s : State) (f : Frame) : State :=
  s.setFrames (s.truss.frames.map fun g => if g.id = f.id then f else g)

/-- The live Frame, index and task that hold a record. -/
def State.taskAt (s : State) (idx : Nat) : Option (Frame × Nat × Task) :=
  s.truss.frames.findSome? fun f =>
    (List.range f.tasks.length).findSome? fun i =>
      match f.tasks[i]? with
      | some t => if t.idx = idx then some (f, i, t) else none
      | none => none

/-- Tasks ADMITTED whose parents have ended: with a status other than DONE they end LAPSED, PARENT; with DONE, and
their event seen, they become READY (R84). Parents have lower indices, so one pass settles all. -/
def settleTasks (acc : List Task) : List Task → List Task
  | [] => acc
  | t :: r =>
    let par := t.parents.filterMap fun p => acc[p]?
    let t' :=
      if t.st = .admitted then
        if par.any fun p => p.st == .done && p.status != 0 then { t with st := .done, status := 1, detail := 0x12 }
        else if par.all (fun p => p.st == .done) && (t.evtKind == 0 || t.evtSeen) then { t with st := .ready }
        else t
      else t
    settleTasks (acc ++ [t']) r

/-- An engine refused the task's descriptor on its first attempt: the failing check wrote nothing (R170). [log 39] -/
def Task.unwritten (t : Task) : Bool :=
  decide (t.consumer ≥ 128) && t.status == 2 && t.detail == 3 && decide (t.attempt ≤ 1)

/-- The closure record of a task and what its ending counts; a record that no mirror takes ends its task LEDGER_LOST. Without
status DONE its outputs are undefined, but for those nothing has written (R83, R90, R106, R170, TRS_LAPSE_CNT, view bit 3). [log 30] -/
def State.closeRecord (s : State) (f : Frame) (i : Nat) (t : Task) : State :=
  let (kept, s) := s.writeRecord t.idx (recordWords f i t 5)
  let t := if kept then t else { t with status := 2, detail := 6 }
  let s := if kept then s
    else s.setFrames (s.truss.frames.map fun g => if g.id = f.id then { g with tasks := g.tasks.set i t } else g)
  let s := if t.status = 0 ∨ t.unwritten then s else s.spoilOutputs f.bay t
  let s := if t.status = 1 then s.bump TRS_LAPSE_CNT else s
  if t.status = 2 then s.raise (viewPage (s.qBay f.queue)) 3 else s

/-- Tasks are READY from now on, by their records (R424). -/
def State.readyFrom (s : State) (idxs : List Nat) : State :=
  { s with readySince := idxs.foldl (fun t i => tput t i s.ridge.ticks) s.readySince }

/-- A Frame settled after a change of its tasks `f`: once it has been accepted, dependents end or become READY; closure records
are written, and the Frame commits once its last task has ended (R84, R85). [log 30] -/
def State.settle (s : State) (f : Frame) : State :=
  let before := match s.frame? f.id with | some g => g.tasks | none => []
  let ts := if f.st = .opened then f.tasks else settleTasks [] f.tasks
  let ready := (List.range ts.length).filterMap fun i =>
    match ts[i]?, before[i]? with
    | some t, some b => if t.st = .ready && b.st != .ready then some t.idx else none
    | _, _ => none
  let fresh := (List.range ts.length).filterMap fun i =>
    match ts[i]?, before[i]? with
    | some t, some b => if t.st = .done && !ended b then some (i, t) else none
    | _, _ => none
  let moved := ts.any fun t => t.st == .running || ended t
  let st := if f.st = .sealed && moved then .running else f.st
  let all := ts.all ended
  let f' := { f with tasks := ts, st := if all && (st == .running || st == .sealed) then .committed else st,
                     commitNs := if all && (st == .running || st == .sealed) then s.ridge.ns.toNat else f.commitNs }
  let s := (s.setFrame f').readyFrom ready
  each fresh (fun it s => s.closeRecord f' it.1 it.2) s

/-- Task `i` of a Frame ends with a status and detail; its consumer, if it runs, gives it up for `why`. [log 30] -/
def State.endTask (s : State) (fid i status detail : Nat) (why : AbandonCause) : State :=
  match s.frame? fid with
  | none => s
  | some f => match f.tasks[i]? with
    | none => s
    | some t =>
      if ended t then s
      else
        let s := if t.st = .running then s.takeAway t.consumer why else s
        s.settle { f with tasks := f.tasks.set i { t with st := .done, status := status, detail := detail } }

/-- The running task of a consumer that failed, was reset or is drained with force (R84, R103): it re-enters READY at
attempt + 1, or ends. The deadline precedes the attempts. [log 31] -/
def State.rerun (s : State) (idx : Nat) : State :=
  match s.taskAt idx with
  | none => s
  | some (f, i, t) =>
    if t.st ≠ .running then s
    else
      let s := { s with truss := { s.truss with holding := tdel s.truss.holding t.consumer } }
      if s.reached f.carrier t.dlSlot t.dlSym 0 then
        s.settle { f with tasks := f.tasks.set i { t with st := .done, status := 1, detail := 0x10 } }
      else if t.attempt < max 1 (s.fld TRS_CTL 3 0) then
        ((s.setFrame { f with tasks := f.tasks.set i { t with st := .ready, attempt := t.attempt + 1 } }).readyFrom [idx]).bump
          TRS_RERUN_CNT
      else s.settle { f with tasks := f.tasks.set i { t with st := .done, status := 2, detail := 1 } }

/-- The consumer's report (R84): finished before deadline plus grace stages the task; otherwise the event wins. -/
def State.report (s : State) (consumer : Nat) (rep : Report) : State :=
  match tget? s.truss.holding consumer with
  | none => s
  | some idx => match s.taskAt idx with
    | none => s
    | some (f, i, t) =>
      if t.st ≠ .running then s
      else
        if s.reached f.carrier t.dlSlot t.dlSym (s.qGrace t.queue) then
          (s.takeAway consumer .grace).settle { f with tasks := f.tasks.set i { t with st := .done, status := 1, detail := 0x11 } }
        else
          let s := { s with truss := { s.truss with holding := tdel s.truss.holding consumer } }
          match rep with
          | .finished => s.setFrame { f with tasks := f.tasks.set i { t with st := .staged } }
          | .failed => s.settle { f with tasks := f.tasks.set i { t with st := .done, status := 2, detail := 4 } }
          | .inputError => s.settle { f with tasks := f.tasks.set i { t with st := .done, status := 2, detail := 2 } }
          | .descriptor => s.settle { f with tasks := f.tasks.set i { t with st := .done, status := 2, detail := 3 } }

/-! ## Events (R86) -/

/-- An event of kind 2 or 3, or a flow-group arrival, is seen by the waiting tasks of accepted Frames. [log 33] -/
def State.eventSeen (s : State) (kind id slot sym : Nat) : State :=
  let sees (f : Frame) (t : Task) : Bool :=
    t.evtKind == kind && t.evtId == id && !ended t &&
      (kind != 1 || (add32 f.baseSlot t.evtSlot == slot && t.evtSym == sym))
  let hit := s.truss.frames.filter fun f => f.st != .opened && f.tasks.any fun t => sees f t && !t.evtSeen
  each hit (fun f s =>
    match s.frame? f.id with
    | some g => s.settle { g with tasks := g.tasks.map fun t => if sees g t then { t with evtSeen := true } else t }
    | none => s) s

/-- An arrival is kept for two slots of the flow group's carrier, and shown to the waiting tasks (R11, R86). -/
def State.arrival (s : State) (fg slot sym carrier : Nat) : State :=
  let cur := s.carSlot carrier
  let keep (a : Nat × Nat × Nat) : Bool := a.1 != fg || sub32 cur a.2.1 ≤ 1
  let s := { s with truss := { s.truss with arrivals := s.truss.arrivals.filter keep ++ [(fg, slot, sym)] } }
  s.eventSeen 1 fg slot sym

/-! ## Admission (R78, R79, R96) -/

def wordAt (bs : List Byte) (i : Nat) : Nat := ofBytes ((bs.drop (8 * i)).take 8)

/-- A task descriptor of R74 as read, with its buffers. -/
def parseTask (w : Nat → Nat) (baseSlot idx : Nat) (bufs : List (Nat × Nat)) : Task where
  idx := idx
  st := .admitted
  status := 0
  detail := 0
  queue := bitsOf (w 0) 57 48
  attempt := 1
  dlSlot := add32 baseSlot (bitsOf (w 2) 27 20)
  dlSym := bitsOf (w 2) 19 16
  evtKind := bitsOf (w 2) 33 32
  evtId := bitsOf (w 2) 45 34
  evtSlot := bitsOf (w 2) 52 50
  evtSym := bitsOf (w 2) 49 46
  evtSeen := false
  aff := bitsOf (w 2) 15 0
  nIn := bitsOf (w 1) 51 48
  nOut := bitsOf (w 1) 55 52
  job := bitsOf (w 0) 47 0
  buf := bitsOf (w 1) 47 0
  parents := (List.range (bitsOf (w 3) 63 60)).map fun k =>
    if k < 5 then bitsOf (w 3) (12 * k + 11) (12 * k) else bitsOf (w 4) (12 * (k - 5) + 11) (12 * (k - 5))
  consumer := 0
  ins := bufs.take (bitsOf (w 1) 51 48)
  outs := bufs.drop (bitsOf (w 1) 51 48)

/-- Word 0 of a flow group's table entry (R393). -/
def State.fgWord (s : State) (fg i : Nat) : Nat := ((tget s.girt.fgs fg []).getD i 0).toNat

/-- The event names a flow group, timer or Skid channel of the Bay (R78, code 5). [log 119] -/
def State.eventOk (s : State) (b kind id : Nat) : Bool :=
  match kind with
  | 0 => true
  | 1 => bitOf (s.fgWord id 0) 63 && bitsOf (s.fgWord id 0) 58 56 == b
  | 2 => decide (id < 32) && id / 4 == b
  | _ => decide (id < 64) && s.owner (0x201 + id) == b

/-- The checks of R78 on one task: the codes it fails, and the task. DESIGN CHOICE: without a buffer its block's address is not
checked, and the unused bits of the buffer descriptors are no reserved descriptor bits. [log 35] -/
def State.checkTask (s : State) (b q base last : Nat) (i : Nat) (bs : List Byte) : List Nat × Task × State :=
  let w := wordAt bs
  let t0 := parseTask w base 0 []
  let n := t0.nIn + t0.nOut
  let (bufs, badBuf, s') :=
    if n = 0 ∨ t0.nIn > 8 ∨ t0.nOut > 8 then (([] : List (Nat × Nat)), false, s)
    else if t0.buf % 16 ≠ 0 ∨ !s.inWindows b t0.buf (16 * n) then ([], true, s)
    else match s.memRead (trussFor b) t0.buf (16 * n) with
      | (.ok x, s') => ((List.range n).map fun k => (bitsOf (wordAt x (2 * k)) 47 0, bitsOf (wordAt x (2 * k + 1)) 31 0), false, s')
      | (.error _, s') => ([], true, s')
  let resv := bitsOf (w 0) 63 58 + bitsOf (w 1) 63 56 + bitsOf (w 2) 63 53 + bitsOf (w 2) 31 28 + bitsOf (w 4) 63 36 +
    w 5 + w 6 + w 7
  let codes :=
    (if resv ≠ 0 then [1] else []) ++
    (if s.qOn t0.queue && s.qBay t0.queue == b && s.qOnchip t0.queue == s.qOnchip q then [] else [2]) ++
    (if t0.nIn > 8 ∨ t0.nOut > 8 ∨ t0.parents.length > 8 ∨ (t0.parents.take 8).any (fun p => decide (i ≤ p)) then [3] else []) ++
    (if t0.dlSym > last ∨ (t0.evtKind ≤ 1 ∧ t0.evtSym > last) then [4] else []) ++
    (if s.eventOk b t0.evtKind t0.evtId then [] else [5]) ++
    (if badBuf then [6] else [])
  (codes, parseTask w base 0 bufs, s')

/-- The checks of R78 on a Frame descriptor: the first failing code (0 where none fails), and its tasks. -/
def State.checkFrame (s : State) (b q : Nat) (w : List Nat) : Nat × List Task × State :=
  let d (i : Nat) : Nat := w.getD i 0
  let n := bitsOf (d 0) 59 48 + 1
  let tt := bitsOf (d 0) 47 0
  let car := bitsOf (d 2) 39 32
  let base := bitsOf (d 2) 31 0
  let sv := bitsOf (d 3) 47 0
  let last := (s.shape car).perSlot - 1
  let near := sgn 32 (wrap 32 ((base : Int) - s.slotInt car))
  let c1 := if bitsOf (d 0) 63 60 + bitsOf (d 2) 63 40 + bitsOf (d 3) 63 48 + d 4 + d 5 + d 6 ≠ 0 then [1] else []
  let c4 := if s.carOn car && s.carBay car == b && decide (-65536 ≤ near ∧ near ≤ 65536) then [] else [4]
  let c6 := if sv ≠ 0 && (sv % 8 != 0 || !s.inWindows b sv (8 * ((n + 15) / 16))) then [6] else []
  let firstOf (l : List Nat) : Nat := l.foldl (fun m c => if m = 0 ∨ c < m then c else m) 0
  if tt % 64 ≠ 0 ∨ !s.inWindows b tt (64 * n) then (firstOf (c1 ++ c4 ++ [6]), [], s)
  else match s.memRead (trussFor b) tt (64 * n) with
    | (.error _, s) => (firstOf (c1 ++ c4 ++ [6]), [], s)
    | (.ok bs, s) =>
      let r := (List.range n).foldl (fun (r : List Nat × List Task × State) i =>
        let (cs, t, s') := r.2.2.checkTask b q base last i ((bs.drop (64 * i)).take 64)
        (r.1 ++ cs, r.2.1 ++ [t], s')) ((c1 ++ c4 ++ c6 : List Nat), ([] : List Task), s)
      let ts := r.2.1
      let big := decide (n > (s.region b).2) || ts.any fun t =>
        decide ((ts.filter fun u => u.queue == t.queue).length > s.qLimit t.queue)
      (firstOf (r.1 ++ if big then [7] else []), ts, r.2.2)

/-- Why a checked Frame cannot be admitted now (R96): 1 LEDGER_FULL, 2 QUEUE_FULL, 0 there is room. -/
def State.noRoom (s : State) (b : Nat) (ts : List Task) : Nat :=
  if !s.canAlloc b ts.length then 1
  else if ts.any fun t => decide (s.qHeld t.queue + (ts.filter fun u => u.queue == t.queue).length > s.qLimit t.queue) then 2
  else 0

/-- A Frame enters OPEN: it takes its records and its admission records are written (R81, R83, R85). [log 35] -/
def State.openFrame (s : State) (b q : Nat) (w : List Nat) (feed : Feed) (ts : List Task) : State :=
  let d (i : Nat) : Nat := w.getD i 0
  let r := s.region b
  let at' := s.truss.alloc.getD b 0
  let fid := r.1 + at'
  let x := s.q q
  let f : Frame :=
    ⟨q, b, fid, x.nextSeq, feed, .opened, false, bitsOf (d 2) 39 32, bitsOf (d 2) 31 0, bitsOf (d 3) 47 0, 0, true,
     (List.range ts.length).filterMap fun i => (ts[i]?).map fun t => { t with idx := r.1 + (at' + i) % max 1 r.2 }⟩
  let s := s.setQ q { x with nextSeq := (x.nextSeq + 1) % 2 ^ 40 }
  let s := { s with truss := { s.truss with
    alloc := s.truss.alloc.setIfInBounds b ((at' + ts.length) % max 1 r.2), frames := s.truss.frames ++ [f]
    closed := s.truss.closed.filter fun i => !f.tasks.any fun t => t.idx == i } }
  each (List.range f.tasks.length) (fun i s => match f.tasks[i]? with
    | some t =>
      let (kept, s) := s.writeRecord t.idx (recordWords f i t 1)
      if kept then s
      else s.setFrames (s.truss.frames.map fun g => if g.id = f.id then { g with durable := false } else g)
    | none => s) s

/-- The control block of a submission ring (R77): F, C and the epoch of the last write. [log 37] -/
def State.writeCblk (s : State) (q word v : Nat) : Bool × State :=
  let b := s.qBay q
  let (ok, s) := s.memWrite (trussFor b) (s.cblk q + 8 * word) (toBytes 8 v)
  if ok then s.memWrite (trussFor b) (s.cblk q + 16) (toBytes 8 s.epoch) else (false, s)

/-- C: every entry below the oldest live ring entry has been returned (04, Submitting a Frame). -/
def State.completedIndex (s : State) (q : Nat) : Nat :=
  let f := (s.q q).fetch
  let back := s.truss.frames.foldl (fun n g => match g.feed with
    | .ring i => if g.queue = q then max n (sub32 f i) else n
    | _ => n) 0
  sub32 f back

/-- C brought up to date, with its word of the control block. [log 37] -/
def State.passEntries (s : State) (q : Nat) : State :=
  let c := s.completedIndex q
  if (s.q q).completed = c then s
  else ((s.setQ q { s.q q with completed := c }).writeCblk q 1 c).2

/-- Admission is running for the ring or the on-chip feed of a queue: the Truss admits, the Ledger is not lost, the Bay
is not in reset, and the queue does not wait for a move (R102, R391, R408, R416). [log 34] -/
def State.admitting (s : State) (q : Nat) : Bool :=
  s.truss.admits && !s.flag LDG_STAT 3 && !s.flag TRS_STAT 0 && s.qOn q && !s.bayResets.contains (s.qBay q) &&
    (!s.truss.moves.any fun m => m.1 == qPage q) &&
    !s.truss.frames.any fun f => f.queue == q && f.st == .opened

/-- The acceptance or refusal word of R73. -/
def frameWord (refused : Bool) (code fid epoch : Nat) : Nat :=
  if refused then 2 ^ 62 + code * 2 ^ 56 + epoch else 2 ^ 63 + fid % 2 ^ 24 * 2 ^ 32 + epoch

/-- Entries F to P − 1 are pending in the ring: P is ahead of F modulo 2^32 (R77). [log 37] -/
def State.ringPending (s : State) (q : Nat) : Bool :=
  let d := sub32 (s.reg (TRS_DB q)) (s.q q).fetch
  decide (0 < d ∧ d < 0x80000000)

/-- The ring has an entry that the Truss may take up. -/
def State.ringServed (s : State) (q : Nat) : Bool :=
  s.admitting q && !s.qOnchip q && s.ringPending q && (s.q q).voids.isEmpty

/-- Places that the rotation of a class has to move on to reach a queue (R80). -/
def State.rotationTo (s : State) (q : Nat) : Nat := (q + 1023 - tget s.truss.rotation (s.qClass q) 1023) % 1024

/-- Admission serves the rings with pending entries in the order of their deadline classes, in rotation within a class; a ring
whose head is held back is passed over (R80, R96). [log 126] -/
def State.ringTurn (s : State) (q : Nat) : Bool :=
  (List.range 1024).all fun x =>
    x == q || !s.ringServed x || (s.q x).room != 0 ||
      (if s.qClass x = s.qClass q then decide (s.rotationTo q < s.rotationTo x) else decide (s.qClass q < s.qClass x))

/-- The head entry of a submission ring whose turn it is: read, checked, and refused, held back or admitted (R78, R79, R96).
DESIGN CHOICE: an entry that cannot be read stays at the head, and nothing happens. [log 37] -/
def State.fetchRing (s : State) (q : Nat) : State :=
  let x := s.q q
  let b := s.qBay q
  if !s.ringServed q || !s.ringTurn q then s
  else
    let s := { s with truss := { s.truss with rotation := tput s.truss.rotation (s.qClass q) q } }
    let at' := s.ringBase q + 64 * (x.fetch % s.ringSize q)
    match s.memRead (trussFor b) at' 64 with
    | (.error _, s) => s
    | (.ok bs, s) =>
      let w := (List.range 8).map (wordAt bs)
      let (code, ts, s) := s.checkFrame b q w
      let next (s : State) : State := (((s.setQ q { s.q q with fetch := add32 x.fetch 1 }).writeCblk q 0 (add32 x.fetch 1)).2).passEntries q
      if code ≠ 0 then
        let s := s.put (trussFor b) (at' + 56) (toBytes 8 (frameWord true code 0 s.epoch))
        next (((s.bump TRS_REFUSE_CNT).raise (viewPage b) 1).holdHead q 0)
      else match s.noRoom b ts with
        | 0 => next ((s.holdHead q 0).openFrame b q w (.ring x.fetch) ts)
        | c =>
          (if c = 1 ∧ x.room ≠ 1 then s.raise (viewPage b) 0 else s).holdHead q c

/-- On-chip submissions are withdrawn; a queue whose head went with them no longer waits for its room (R96, R330). -/
def State.withdraw (s : State) (mine : OnChip → Bool) : State :=
  let waiting (q : Nat) : Option OnChip := s.truss.onChip.find? fun x => x.queue == q && !x.taken
  let heads := s.truss.onChip.filter fun e => mine e && waiting e.queue == some e
  each heads (fun e s => s.holdHead e.queue 0)
    { s with truss := { s.truss with onChip := s.truss.onChip.filter fun e => !mine e } }

/-- The first on-chip submission waiting for a queue: refused or admitted, or left waiting for room, which a Skid
channel shows as WAIT_ROOM (R97, R326, R331). [log 50] -/
def State.fetchOnChip (s : State) (q : Nat) : State :=
  match s.truss.onChip.find? fun e => e.queue == q && !e.taken with
  | none => s
  | some e =>
    let put (x : OnChip) (s : State) : State :=
      { s with truss := { s.truss with onChip := s.truss.onChip.map fun y => if y = e then x else y } }
    let room (old new : Nat) (s : State) : State := match e.src with
      | .skid c => if s.fld (SKD_CH_STAT c.val) 3 0 = old then s.setFld (SKD_CH_STAT c.val) 3 0 new else s
      | _ => s
    let refuse (code : Nat) (s : State) : State :=
      let s := (room 3 2 s).holdHead q 0
      ((put { e with taken := true, word := some (BitVec.ofNat 64 (frameWord true code 0 s.epoch)) } s).bump
        TRS_REFUSE_CNT).raise (viewPage e.bay) 1
    if !(s.qOn q && s.qOnchip q && s.qBay q == e.bay) then refuse 2 s
    else if e.desc.isEmpty then refuse 6 s
    else if !s.admitting q then s
    else
      let (code, ts, s) := s.checkFrame e.bay q e.desc
      if code ≠ 0 then refuse code s
      else match s.noRoom e.bay ts with
        | 0 => (put { e with taken := true } ((room 3 2 s).holdHead q 0)).openFrame e.bay q e.desc e.src ts
        | c =>
          let s := if c = 1 ∧ (s.q q).room ≠ 1 then s.raise (viewPage e.bay) 0 else s
          room 2 3 (s.holdHead q c)

/-- An OPEN Frame of the queue, its records durable, is accepted: its word is issued, tasks past their deadline lapse, arrivals of the two
kept slots count, and tasks without anything to wait for become READY (R79, R80, R86, R91). -/
def State.acceptFrame (s : State) (q : Nat) : State :=
  match s.truss.frames.find? fun f => f.queue == q && f.st == .opened && f.durable with
  | none => s
  | some f =>
    let word := frameWord false 0 f.id s.epoch
    let s := match f.feed with
      | .ring i => s.put (trussFor (s.qBay q)) (s.ringBase q + 64 * (i % s.ringSize q) + 56) (toBytes 8 word)
      | src =>
        let issue (e : OnChip) : OnChip :=
          if e.src = src ∧ e.taken ∧ e.word = none then { e with word := some (BitVec.ofNat 64 word) } else e
        { s with truss := { s.truss with onChip := s.truss.onChip.map issue } }
    let s := s.bump TRS_ACCEPT_CNT
    let arrived (t : Task) : Bool := t.evtKind == 1 && s.truss.arrivals.any fun a =>
      a.1 == t.evtId && a.2.1 == add32 f.baseSlot t.evtSlot && a.2.2 == t.evtSym &&
        decide (sub32 (s.carSlot (bitsOf (s.fgWord t.evtId 0) 55 48)) a.2.1 ≤ 1)
    let late (t : Task) : Bool := State.reached s f.carrier t.dlSlot t.dlSym 0
    let ts : List Task := f.tasks.map fun (t : Task) =>
      if ended t then t
      else if late t then { t with st := .done, status := 1, detail := 0x10 }
      else if arrived t then { t with evtSeen := true } else t
    let s := s.setFrame { f with st := .sealed }
    s.settle { f with st := .sealed, tasks := ts }

/-! ## Selection (R87) -/

/-- The consumer, by its R82 encoding, may run tasks of the queue (R72). -/
def State.eligible (s : State) (consumer q : Nat) : Bool :=
  let b := s.qBay q
  if consumer < 128 then
    s.qKind q == 0 && bitOf (s.qMask q) (consumer / 9) && bitOf (s.reg (BAY_BENTS 0 b)) (consumer / 9)
  else
    let e := consumer - 128
    let cls := (engineClass e).1
    let i := s.fld (MRT_STAT e) 23 16
    s.qKind q == cls + 1 && bitOf (s.qMask q) i && bitOf (s.reg (BAY_ENG 0 b cls)) i

/-- Q of R87 in κTc, as TRS_CTL.quantum reports it. -/
def State.quantum (s : State) : Int :=
  match s.fld TRS_CTL 9 8 with
  | 0 => 1
  | 2 => 15360
  | _ => 1096

/-- The key of R87, compared field by field. -/
structure SelKey where
  cls : Nat
  dl : Int
  miss : Nat
  seq : Nat
  q : Nat
  i : Nat
  deriving DecidableEq, Repr

def SelKey.less (a b : SelKey) : Bool :=
  if a.cls ≠ b.cls then a.cls < b.cls
  else if a.dl ≠ b.dl then a.dl < b.dl
  else if a.miss ≠ b.miss then a.miss < b.miss
  else if a.seq ≠ b.seq then a.seq < b.seq
  else if a.q ≠ b.q then a.q < b.q
  else a.i < b.i

/-- The best READY task a consumer may run; a task whose deadline the grid has reached is not handed out (R88). DESIGN CHOICE: of
two with wholly equal keys, the one whose Frame was admitted first. [log 35] -/
def State.select (s : State) (consumer : Nat) : Option (Frame × Nat × Task) :=
  let tag := tget s.truss.lastTag consumer 0
  let cand := s.truss.frames.flatMap fun f =>
    (List.range f.tasks.length).filterMap fun i => match f.tasks[i]? with
      | some t =>
        if t.st = .ready && s.eligible consumer t.queue && !s.reached f.carrier t.dlSlot t.dlSym 0 then
          let k : SelKey := ⟨s.qClass t.queue, s.deadlineK f.carrier t.dlSlot t.dlSym / s.quantum,
            if t.aff ≠ 0 ∧ t.aff = tag then 0 else 1, f.seq, t.queue, i⟩
          some (k, f, i, t)
        else none
      | none => none
  (cand.foldl (fun (b : Option (SelKey × Frame × Nat × Task)) c => match b with
    | none => some c
    | some x => if c.1.less x.1 then some c else some x) none).map fun c => c.2

/-- The consumer may ask: dispatch runs, it is not drained, and it holds nothing. -/
def State.mayAsk (s : State) (consumer : Nat) : Bool :=
  s.truss.dispatch && !s.flag TRS_STAT 0 && !s.truss.drained.contains consumer &&
    (tget? s.truss.holding consumer).isNone

/-- Island of a consumer in R82's encoding. -/
def consumerIsland (c : Nat) : Nat := if c < 72 then 8 + c / 9 else 16 + (c - 128)

/-- The consumer's last tag is nonzero and that of its own best task (R88). -/
def State.tagHit (s : State) (consumer : Nat) : Bool :=
  match s.select consumer with
  | some (_, _, t) => t.aff != 0 && tget s.truss.lastTag consumer 0 == t.aff
  | none => false

/-- Of the consumers that ask together and have a task to take, those with a hit are served first, then the others, in order of
consumer ID (R88): none that waits comes before this one. [log 127] -/
def State.askTurn (s : State) (consumer : Nat) : Bool :=
  s.truss.asking.all fun x =>
    x == consumer || !s.mayAsk x || !s.islandUp (consumerIsland x) || (s.select x).isNone ||
      (if s.tagHit x = s.tagHit consumer then decide (consumer < x) else s.tagHit consumer)

/-- A task handed to a consumer whose turn it is: RUNNING, recorded as its last consumer, its tag remembered (R84, R87). -/
def State.handOff (s : State) (consumer : Nat) : Option (Frame × Nat × Task) × State :=
  if !s.mayAsk consumer then (none, s)
  else match if s.askTurn consumer then s.select consumer else none with
    | none => (none, { s with truss := { s.truss with asking := addOnce s.truss.asking consumer } })
    | some (f, i, t) =>
      let t' := { t with st := .running, consumer := consumer }
      let f' := { f with tasks := f.tasks.set i t', st := if f.st = .sealed then .running else f.st }
      let s := (s.setFrame f').bump TRS_DISPATCH_CNT
      let s := { s with truss := { s.truss with
        lastTag := tput s.truss.lastTag consumer t.aff
        asking := s.truss.asking.filter (· != consumer)
        holding := tput s.truss.holding consumer t.idx } }
      (some (f', i, t'), s)

/-! ## Completion and delivery (R92 to R94) -/

/-- A Frame's status (R92). -/
def frameStatus (f : Frame) : Nat :=
  ([5, 4, 2, 1].find? fun c => f.tasks.any fun t => t.status == c).getD 0

/-- The status vector (R92). -/
def statusVector (f : Frame) : List Byte :=
  let n := f.tasks.length
  ((List.range ((n + 15) / 16)).map fun w =>
    toBytes 8 ((List.range 16).foldl (fun v k => v + (match f.tasks[16 * w + k]? with
      | some t => t.status % 16 * 16 ^ k
      | none => 0)) 0)).flatten

/-- The completion record (R93). -/
def completionRecord (f : Frame) (epoch : Nat) : List Byte :=
  let bad := (List.range f.tasks.length).find? fun i => match f.tasks[i]? with | some t => t.status != 0 | none => false
  let nBad := (f.tasks.filter fun t => t.status != 0).length
  let t? := bad.bind fun i => f.tasks[i]?
  let ring := match f.feed with | .ring i => i | .moved i => i | _ => 0
  let w0 := bitNat f.late * 2 ^ 54 + frameStatus f * 2 ^ 50 + f.queue * 2 ^ 40 + f.seq % 2 ^ 40
  let w1 := ring * 2 ^ 32 + epoch
  let w2 := nBad * 2 ^ 37 + (f.tasks.length - nBad) * 2 ^ 24 + f.id
  let w3 := f.commitNs % 2 ^ 30 * 2 ^ 32 + (t?.map Task.detail).getD 0 * 2 ^ 16 + (t?.map Task.status).getD 0 * 2 ^ 12 +
    bad.getD 0xFFF
  ([w0, w1, w2, w3].map (toBytes 8)).flatten

/-- Completion ring `r` of a Bay: base and entries. -/
def State.cring (s : State) (b r : Nat) : Nat × Nat := (s.wide (TRS_CR_LO b r) / 32 * 32, 2 ^ s.fld (TRS_CR_LO b r) 4 0)

/-- The ring lies in a host window whose function cannot issue requests, so it counts as full (R386). -/
def State.cringCut (s : State) (b r : Nat) : Bool :=
  match s.place .truss (s.cring b r).1 32 with
  | .host h _ =>
    let fn := s.fld (BAY_HWIN_FN b h) 4 0
    !((s.fn h fn).bme && s.linkL0 h && s.fnOn h fn)
  | _ => false

def State.cringFull (s : State) (b r : Nat) : Bool :=
  s.cringCut b r ||
  decide (sub32 (s.reg (TRS_CR_PROD b r)) (s.reg (TRS_CR_CONS b r)) ≥ (s.cring b r).2)

/-- Writes made in order until one is answered with an error: the failing address, if any. [log 84] -/
def State.putAll (s : State) (ag : Agent) : List (Nat × List Byte) → Option Nat × State
  | [] => (none, s)
  | (a, bs) :: r =>
    match s.memWrite ag a bs with
    | (true, s) => s.putAll ag r
    | (false, s) => (some a, s)

/-- A completion record is written to slot `slot` of its ring, and the ring's indices; the ring's vector fires (R94). -/
def State.postRecord (s : State) (b r slot : Nat) (before : List (Nat × List Byte)) (rec : List Byte)
    (after : List (Nat × List Byte)) : Option Nat × State :=
  let next := add32 (s.reg (TRS_CR_PROD b r)) 1
  let cb := s.wide (TRS_CR_CBLK_LO b r) / 64 * 64
  match s.putAll (trussFor b) (before ++ [((s.cring b r).1 + 32 * slot, rec), (cb, toBytes 8 next)] ++ after) with
  | (some a, s) => (some a, s)
  | (none, s) => (none, (s.setReg (TRS_CR_PROD b r) next).bayVector b (s.fld (TRS_CR_CTL b r) 7 0))

/-- The completion ring of its Bay that a queue's records go to. -/
def State.qRing (s : State) (q : Nat) : Nat := s.fld (qDepth q) 27 24

/-- The slot that the next record of a ring takes. -/
def State.nextSlot (s : State) (b r : Nat) : Nat := s.reg (TRS_CR_PROD b r) % (s.cring b r).2

/-- Another queue's record waits to be repeated to the ring, which does not advance before it is written (R94). [log 32] -/
def State.ringTaken (s : State) (q b r : Nat) : Bool :=
  s.truss.queues.any fun e => e.1 != q && s.qBay e.1 == b &&
    match e.2.intent with
    | some (_, r', _) => r' == r
    | none => e.2.delay == 6 && s.qRing e.1 == r

/-- The queue's record cannot be written yet: its ring is full (R94). -/
def State.cringWaits (s : State) (q b : Nat) : State :=
  (if (s.q q).delay = 3 then s else s.raise (viewPage b) 2).holdDelivery q 3

/-- A write of a delivery was answered with an error at `a` (R94). -/
def State.cringErr (s : State) (q b a : Nat) : State :=
  ((if (s.q q).delay = 6 then s else s.raise (viewPage b) 4).holdDelivery q 6).capture (viewPage b) b 0x0002 a

/-- The next Frame of the queue in sequence order, where it has committed (R94). -/
def State.deliverable (s : State) (q : Nat) : Option Frame :=
  let live := s.truss.frames.filter fun f => f.queue == q && f.st != .opened
  match live.foldl (fun (b : Option Frame) f => match b with
    | none => some f
    | some g => if f.seq < g.seq then some f else some g) none with
  | some f => if f.st = .committed then some f else none
  | none => none

/-- The VOIDED_EPOCH record of a ring entry of an earlier epoch (R107); the nanoseconds of a commit that never was are
a free value. [log 40] -/
def voidRecord (q i epoch ns : Nat) : List Byte :=
  ([3 * 2 ^ 50 + q * 2 ^ 40, i * 2 ^ 32 + epoch, 0, ns % 2 ^ 30 * 2 ^ 32 + 0xFFF].map (toBytes 8)).flatten

/-- The queue's outstanding VOIDED_EPOCH records are written in ring order, as far as the ring has room (R107). The commit time
of each is drawn once, so that a repeated write has the same bytes (R94). [log 40] -/
def State.deliverVoids (s : State) (q : Nat) : State :=
  each (s.q q).voids (fun v s =>
    let b := s.qBay q
    let r := s.qRing q
    if (s.q q).voids.head? != some v || !s.qOn q || !s.flag (TRS_CR_CTL b r) 31 || s.ringTaken q b r then s
    else if s.cringFull b r then s.cringWaits q b
    else
      let y := s.q q
      let c := if y.voids.length = 1 then s.completedIndex q else add32 v.1 1
      let cw := [(s.cblk q + 8, toBytes 8 c), (s.cblk q + 16, toBytes 8 s.epoch)]
      match s.postRecord b r (s.nextSlot b r) [] (voidRecord q v.1 s.epoch v.2) cw with
      | (some a, s) => s.cringErr q b a
      | (none, s) => (s.setQ q { s.q q with voids := y.voids.drop 1, completed := c }).holdDelivery q 0) s

/-- Delivery of the queue's next Frame (R94): nothing while the queue or its ring is off, the ring is full, held by another
queue's repeat, or its function cannot issue requests; an error leaves the intent, whose slot the repeat writes. [log 32] -/
def State.deliver (s : State) (q : Nat) : State :=
  let s := s.deliverVoids q
  match s.deliverable q with
  | none => s
  | some f =>
    let b := s.qBay q
    let r := s.qRing q
    if !(s.q q).voids.isEmpty || !s.qOn q || !s.flag (TRS_CR_CTL b r) 31 || s.ringTaken q b r then s
    else if s.cringFull b r then s.cringWaits q b
    else
      let x := s.q q
      let slot := match x.intent with
        | some (n, r', k) => if n = f.seq ∧ r' = r then k else s.nextSlot b r
        | none => s.nextSlot b r
      let s := s.setQ q { x with intent := some (f.seq, r, slot) }
      let vec := if f.statusVec ≠ 0 then [(f.statusVec, statusVector f)] else []
      let gone := s.setFrames (s.truss.frames.filter fun g => g.id != f.id)
      let c := gone.completedIndex q
      let cw := match f.feed with
        | .ring _ => if s.cblk q = 0 then [] else [(s.cblk q + 8, toBytes 8 c), (s.cblk q + 16, toBytes 8 s.epoch)]
        | _ => []
      match s.postRecord b r slot vec (completionRecord f s.epoch) cw with
      | (some a, s) => s.cringErr q b a
      | (none, s) =>
        let s := s.setFrames (s.truss.frames.filter fun g => g.id != f.id)
        let s := { s with truss := { s.truss with closed := s.truss.closed ++ f.tasks.map Task.idx } }
        let y := s.q q
        let s := s.setQ q { y with intent := none, delivered := (f.seq + 1) % 2 ^ 40, completed := c }
        s.holdDelivery q 0

/-! ## Cancel (R99) -/

/-- A cancel applied to one live Frame. -/
def State.cancelFrame (s : State) (f : Frame) : State :=
  if f.st = .committed then s.setFrame { f with late := true }
  else
    let s := each f.tasks (fun t s => if t.st = .running then s.takeAway t.consumer .cancel else s) s
    let kill (t : Task) : Task := if ended t then t else { t with st := .done, status := 5, detail := 0x30 }
    s.settle { f with tasks := f.tasks.map kill }

/-- TRS_DB_CANCEL: the queue's live Frame whose sequence has these low 32 bits. -/
def State.cancelSeq (s : State) (q v : Nat) : State :=
  match s.truss.frames.find? fun f => f.queue == q && f.st != .opened && f.seq % 0x100000000 == v with
  | some f => s.cancelFrame f
  | none => s.bump TRS_STALE_CNT

/-- Every live Frame of the queue, in sequence order. -/
def State.cancelAll (s : State) (q : Nat) : State :=
  each ((s.truss.frames.filter fun f => f.queue == q && f.st != .opened).mergeSort fun f g => f.seq ≤ g.seq)
    (fun f s => match s.frame? f.id with | some g => s.cancelFrame g | none => s) s

/-! ## Resets and wipes (R103 to R105) -/

/-- Ranges a task reads: its inputs, its job descriptor (64 bytes) and its buffer block (R103). -/
def taskInputs (t : Task) : List (Nat × Nat) := t.ins ++ [(t.job, 64), (t.buf, 16 * (t.nIn + t.nOut))]

def overlaps (a b : Nat × Nat) : Bool := decide (a.1 < b.1 + b.2 ∧ b.1 < a.1 + a.2)

/-- Every unended task with an input in one of the ranges ends with a status and detail. -/
def State.wipedInputs (s : State) (ranges : List (Nat × Nat)) (status detail : Nat) : State :=
  let hit (t : Task) : Bool := !ended t && (taskInputs t).any fun i => decide (0 < i.2) && ranges.any (overlaps i)
  each s.truss.frames (fun f s => match s.frame? f.id with
    | some g =>
      if !g.tasks.any hit then s
      else
        let s := each g.tasks (fun t s => if hit t && t.st == .running then s.takeAway t.consumer .cancel else s) s
        let kill (t : Task) : Task := if hit t then { t with st := .done, status := status, detail := detail } else t
        s.settle { g with tasks := g.tasks.map kill }
    | none => s) s

/-- The running task of a consumer ends or reruns because the consumer was reset or failed (R103). -/
def State.consumerLost (s : State) (consumer : Nat) : State :=
  match tget? s.truss.holding consumer with
  | some idx => s.rerun idx
  | none => s

end Sys2Proof.Machine
end

