-- ==== Sys2Proof/Machine/Ridge.lean ====
section
/-! DEFINITION. The Ridge (03): corrections as step, slew or refusal (R42 to R45), the servo's states (R46 to R48), what a
step does to the grid (R50), frequency sources (R52, R53), stamps, pulses, time of day and captures (R55 to R62),
carriers (R65) and event timers (R66). -/

namespace Sys2Proof.Machine

/-- RDG page 0. -/
abbrev pRdg : Nat := 0x10

/-- The servo's state: 0 FREERUN, 1 ACQUIRE, 2 LOCKED, 3 HOLDOVER. -/
def State.servo (s : State) : Nat := s.fld RDG_SERVO_STAT 1 0
def State.manual (s : State) : Bool := s.flag RDG_SERVO_CTL 0
def State.stepArmed (s : State) : Bool := s.flag RDG_SERVO_STAT 2

def State.setRate (s : State) (r : Int) : State := s.setWide RDG_RATE_LO (wrap 40 r)

/-! ## The servo (R46 to R48) -/

/-- Sum of rate × ticks and ticks over the newest `w` ticks spent in LOCKED (R47). -/
def lockedSum : Nat → List (Int × Nat) → Int × Nat
  | _, [] => (0, 0)
  | w, (r, k) :: t =>
    let n := min w k
    let rest := lockedSum (w - n) t
    (r * n + rest.1, n + rest.2)

/-- The time-weighted average of the rate in LOCKED (R47). Where the average is no whole number of 2^-48, which
neighbour is taken is a free value; a window of no seconds gives a free rate. [log 27] -/
def State.holdAverage (s : State) : State :=
  let w := s.fld RDG_HOLD_CFG 15 0 * 1000000000
  let (a, n) := lockedSum w s.ridge.locked
  if s.ridge.locked.isEmpty then s
  else if n = 0 then
    let (f, s) := s.fresh
    s.setRate (sgn 40 f)
  else if a % (n : Int) = 0 then s.setRate (a / n)
  else
    let (f, s) := s.fresh
    s.setRate (a / n + (f % 2 : Nat))

/-- The servo takes a state; a cause where the rule names one. [log 27, 122] -/
def State.servoTo (s : State) (st : Nat) (cause : Option Nat) : State :=
  let was := s.servo
  let s := s.setFld RDG_SERVO_STAT 1 0 st
  let s := match cause with | some c => s.setFld RDG_SERVO_STAT 7 4 c | none => s
  if was = st then s
  else
    let s := { s with ridge := { s.ridge with
      holdStart := if st = 3 then s.ridge.ticks else s.ridge.holdStart
      lastMeas := if st = 2 then s.ridge.ticks else s.ridge.lastMeas
      goodRuns := 0 } }
    let s := if (st = 0 ∨ st = 3) ∧ !s.manual then s.holdAverage else s
    match st with
    | 0 => s.raise pRdg 3
    | 2 => s.raise pRdg 0
    | 3 => s.raise pRdg 1
    | _ => s

/-! ## Timers (R66) -/

def evtCtl (k : Nat) : Nat := RDG_EVT_CTL (k / 4) (k % 4)
def State.timer (s : State) (k : Nat) : Timer := s.ridge.timers.getD k ⟨false, 0, 0⟩
def State.setTimer (s : State) (k : Nat) (t : Timer) : State :=
  { s with ridge := { s.ridge with timers := s.ridge.timers.setIfInBounds k t } }
def State.timerMode (s : State) (k : Nat) : Nat := s.fld (evtCtl k) 1 0
def State.timerCar (s : State) (k : Nat) : Nat := s.fld (evtCtl k) 15 8
def State.timerPeriod (s : State) (k : Nat) : Nat := max 1 (s.reg (RDG_EVT_PERIOD (k / 4) (k % 4)))

/-- The time an ABS or PERIOD timer holds, in whole ns. -/
def State.timerTime (s : State) (k : Nat) : Nat :=
  (s.reg (RDG_EVT_T_SEC_LO (k / 4) (k % 4)) + 0x100000000 * s.fld (RDG_EVT_T_SEC_HI (k / 4) (k % 4)) 15 0) * 1000000000 +
    s.reg (RDG_EVT_T_NS (k / 4) (k % 4))

/-- The signed offset of a GRID timer, in the counter's units. -/
def State.timerOff (s : State) (k : Nat) : Int := sgn 32 (s.reg (RDG_EVT_T_NS (k / 4) (k % 4))) * (nsUnit : Int)

/-- The timer's GRID carrier is owned by another Bay (R66). [log 119] -/
def State.badCar (s : State) (k : Nat) : Bool := s.timerMode k == 3 && s.carBay (s.timerCar k) != k / 4

/-- A timer fires: flags, count, and the event that waiting tasks name (R66, R86). -/
def State.timerFires (s : State) (k : Nat) (late : Bool) : State :=
  let s := s.setFlag (evtCtl k) 30 true
  let s := if late then s.setFlag (evtCtl k) 28 true else s
  (s.bump (RDG_EVT_CNT (k / 4) (k % 4))).eventSeen 2 k 0 0

/-- The first whole symbol number after `n` at which a GRID timer fires; `none` where its symbol is beyond the slot. -/
def nextGrid (g : GridShape) (sym : Nat) (n : Int) : Option Int :=
  if sym = 15 then some (n + 1)
  else if sym ≥ g.perSlot then none
  else some (n + 1 + ((sym : Int) - (n + 1)) % g.perSlot)

/-- Firings of a GRID timer at symbol numbers in (lo, hi]. -/
def gridCount (g : GridShape) (sym : Nat) (lo hi : Int) : Nat :=
  if hi ≤ lo then 0
  else if sym = 15 then (hi - lo).toNat
  else if sym ≥ g.perSlot then 0
  else ((hi - sym) / g.perSlot - (lo - sym) / g.perSlot).toNat

/-- A timer is armed in the mode just written (R66). DESIGN CHOICE: an ABS or PERIOD timer takes its time then, and a later write
of RDG_EVT_T does not move it; the period and a GRID timer's offset are read as they stand when it fires. [log 124] -/
def State.armTimer (s : State) (k : Nat) : State :=
  match s.timerMode k with
  | 0 => s.setTimer k ⟨false, 0, 0⟩
  | 3 => s.setTimer k ⟨true, 0, s.symAt (s.timerCar k) (s.now - s.timerOff k)⟩
  | m =>
    let t := s.timerTime k
    let past := decide ((t : Int) * nsUnit < s.now)
    if m = 1 then
      if past then (s.setTimer k ⟨false, t, 0⟩).timerFires k true else s.setTimer k ⟨true, t, 0⟩
    else
      let p := s.timerPeriod k
      if past then (s.setTimer k ⟨true, t + ((s.nowNs - t) / p + 1) * p, 0⟩).timerFires k true
      else s.setTimer k ⟨true, t, 0⟩

/-- A write of RDG_EVT_CTL, given the word before it: one that writes fired or late clears those bits alone, any
other arms the timer (R66). -/
def State.evtWrite (s : State) (k old v : Nat) : State :=
  if bitOf v 30 ∨ bitOf v 28 then
    s.setReg (evtCtl k) (putBits (putBits old 30 30 (bitNat (bitOf old 30 && !bitOf v 30))) 28 28
      (bitNat (bitOf old 28 && !bitOf v 28)))
  else s.armTimer k

/-- An armed timer reaches its time and fires (R66). -/
def State.timerDue (s : State) (k : Nat) : State :=
  let t := s.timer k
  if !t.armed then s
  else match s.timerMode k with
  | 1 => ((s.untilTime ((t.nextNs : Int) * nsUnit)).setTimer k { t with armed := false }).timerFires k false
  | 2 => ((s.untilTime ((t.nextNs : Int) * nsUnit)).setTimer k
      { t with nextNs := t.nextNs + s.timerPeriod k }).timerFires k false
  | 3 =>
    let c := s.timerCar k
    if !s.carOn c || !s.carStarted c || s.badCar k then s
    else match nextGrid (s.shape c) (s.fld (evtCtl k) 19 16) t.last with
      | none => s
      | some n => ((s.untilTime (s.symTime c n + s.timerOff k)).setTimer k { t with last := n }).timerFires k false
  | _ => s

/-! ## Steps (R50) -/

/-- Enabled carriers and their grids across a forward step from `t0` to `t1`: boundaries in the span do not fire, and
each is counted once. [log 23] -/
def State.skipCarriers (s : State) (t0 t1 : Int) : Nat × State :=
  s.ridge.cars.foldl (fun (r : Nat × State) e =>
    let lo := max e.2.last (r.2.symAt e.1 t0)
    let hi := r.2.symBefore e.1 t1
    if hi ≤ lo then r
    else (r.1 + (hi - lo).toNat,
      { r.2 with ridge := { r.2.ridge with
          cars := tput r.2.ridge.cars e.1 ⟨true, hi⟩
          skipped := tput r.2.ridge.skipped e.1 ((lo, hi) :: tget r.2.ridge.skipped e.1 []) } })) (0, s)

/-- Timer `k` across a forward step: what it skips, and the state; an ABS timer in the span fires late. [log 23] -/
def State.skipTimer (s : State) (k : Nat) (t0 t1 : Int) (cars : Table CarGrid) : Nat × State :=
  let t := s.timer k
  if !t.armed then (0, s)
  else match s.timerMode k with
  | 1 =>
    let x := (t.nextNs : Int) * nsUnit
    if t0 < x ∧ x < t1 then (0, (s.setTimer k { t with armed := false }).timerFires k true) else (0, s)
  | 2 =>
    let p := s.timerPeriod k
    let u := (nsUnit : Int)
    let first := max 0 (t0 / u + 1 - t.nextNs)
    let m0 := ceilDiv first p
    let m1 := ceilDiv (max 0 (ceilDiv t1 u - t.nextNs)) p
    if m1 ≤ m0 then (0, s) else ((m1 - m0).toNat, s.setTimer k { t with nextNs := t.nextNs + m1.toNat * p })
  | 3 =>
    let c := s.timerCar k
    if !s.carOn c || s.badCar k then (0, s)
    else
      let g := tget cars c ⟨false, 0⟩
      let lo0 := max t.last (s.symAt c (t0 - s.timerOff k))
      let lo := if g.started then lo0 else max lo0 g.last
      let hi := s.symBefore c (t1 - s.timerOff k)
      if hi ≤ lo then (0, s)
      else (gridCount (s.shape c) (s.fld (evtCtl k) 19 16) lo hi, s.setTimer k { t with last := hi })
  | _ => (0, s)

/-- A correction applied as a step in a single tick (R42, R50). [log 23] -/
def State.applyStep (s : State) (d : Int) : State :=
  let t0 := s.now
  let t1 := t0 + d
  let cars := s.ridge.cars
  let s := (s.setNow t1).setFlag RDG_SERVO_STAT 2 false
  let s := if d > 0 then
      let (n, s) := s.skipCarriers t0 t1
      let (n, s) := (List.range 32).foldl (fun (r : Nat × State) k =>
        let (m, s) := r.2.skipTimer k t0 t1 cars
        (r.1 + m, s)) (n, s)
      if n = 0 then s else (s.bumpBy RDG_SKIP_CNT n).raise pRdg 5
    else s
  s.raise pRdg 4

/-! ## Corrections (R42 to R44) -/

/-- Largest pending slew accepted, in the counter's units. -/
def State.stepLimit (s : State) : Int := (s.fld RDG_STEP_LIMIT 29 0 * nsUnit : Nat)

/-- Truncation toward zero to whole ns. -/
def wholeNs (d : Int) : Int := Int.tdiv d (nsUnit : Int)

/-- A refused correction (R44). -/
def State.refuseCorrection (s : State) (d : Int) : State :=
  let s := s.setFlag RDG_SERVO_STAT 3 true
  let w := wholeNs d
  let lim : Int := 2 ^ 63 - 1
  let s := s.setWide RDG_JUMP_VAL_LO (wrap 64 (if w > lim then lim else if w < -lim then -lim else w))
  let s := s.bump RDG_JUMP_CNT
  let s := if s.servo = 2 ∨ s.servo = 3 then s.servoTo 3 (some 2) else s
  s.raise pRdg 2

/-- A committed correction: whether it is accepted, and the state (R42). -/
def State.correct (s : State) (d : Int) : Bool × State :=
  if s.stepArmed then (true, s.applyStep d)
  else
    let p := s.ridge.slew + d
    if p ≤ s.stepLimit ∧ -p ≤ s.stepLimit then (true, { s with ridge := { s.ridge with slew := p } })
    else (false, s.refuseCorrection d)

/-- The correction that four RDG_ADJ words spell, in the counter's units. -/
def adjValue (ns frac secLo secHi : Nat) : Int :=
  (sgn 48 (secLo + 0x100000000 * (secHi % 65536)) * 1000000000 + sgn 32 ns) * (nsUnit : Int) + (frac * 65536 : Nat)

/-- A correction written through RDG_ADJ: in manual mode it stands in for the servo's measurement (R46). -/
def State.adjCommit (s : State) (d : Int) : State :=
  let (ok, s) := s.correct d
  if ok ∧ s.manual then s.servoTo 2 none else s

/-- A relock (R45). -/
def State.relock (s : State) : State :=
  let s := (s.setFlag RDG_SERVO_STAT 2 true).setFlag RDG_SERVO_STAT 3 false
  let s := { s with ridge := { s.ridge with slew := 0, goodRuns := 0 } }
  s.servoTo 1 none

/-- A frequency error under 50 ppb, in units of 2^-48 of nominal (R46). -/
def calm (e : Int) : Bool := decide (e * 1000000000 < 50 * (nsUnit : Int) ∧ -(50 * (nsUnit : Int)) < e * 1000000000)

/-- A source gives what makes it a phase source (R46, R56): PPS pulses a valid label, the Tysar peer of TYS_FREQ_SEL a θ; a
port whose stamps are SOFT gives no phase. -/
def State.phaseGiven (s : State) : PhaseSource → Bool
  | .ptpPort p => !s.flag (RDG_PORT_CAL_RX p.val) 31
  | .ppsIn j => (s.ridge.ppsCap.getD j.val none).isSome
  | .tysarPeer => s.flag TYS_FREQ_SEL 16 && s.tys.theta.contains (s.fld TYS_FREQ_SEL 5 0)

/-- A phase source has qualified: measurements that arrive before are discarded (R46). -/
def State.phaseReady (s : State) : Bool :=
  match s.ridge.phaseSource with
  | some p => s.phaseGiven p
  | none => false

/-- A valid phase measurement of the firmware servo: the offset, the frequency error, and the rate the servo's loop
filter then chooses (R46). [log 26] -/
def State.measure (s : State) (d freqErr rateAfter : Int) : State :=
  if s.manual ∨ !s.ridge.fwRuns ∨ !s.phaseReady then s
  else match s.servo with
  | 1 =>
    let n := if calm freqErr then s.ridge.goodRuns + 1 else 0
    let s := { s with ridge := { s.ridge with goodRuns := n } }.setRate rateAfter
    if n < 16 then s
    else match s.correct d with
      | (true, s) => s.servoTo 2 none
      | (false, s) => s
  | 2 =>
    let s := { s with ridge := { s.ridge with lastMeas := s.ridge.ticks } }
    match s.correct d with
    | (true, s) => s.setRate rateAfter
    | (false, s) => s
  | 3 =>
    match s.correct d with
    | (true, s) => (s.setRate rateAfter).servoTo 2 none
    | (false, s) => s
  | _ => s

/-! ## Frequency sources (R52, R53) -/

def State.source (s : State) (i : Nat) : FreqSource := s.ridge.src.getD i ⟨false, false, false, 0⟩
def State.setSource (s : State) (i : Nat) (x : FreqSource) : State :=
  { s with ridge := { s.ridge with src := s.ridge.src.setIfInBounds i x } }
def State.srcPrio (s : State) (i : Nat) : Nat := s.fld RDG_SRC_PRIO (4 * i + 3) (4 * i)

/-- The source the DPLL follows (R52): 1 to 4 a qualified source, 5 OSC_HOLD, 0 none. DESIGN CHOICE: a qualified source whose
priority is 0 is disabled, and does not keep the DPLL from OSC_HOLD. [log 124] -/
def State.dpllChoice (s : State) : Nat :=
  let good (i : Nat) : Bool := (s.source i).qualified && s.srcPrio i != 0
  let best := (List.range 4).foldl (fun (b : Option Nat) i =>
    if good i then (match b with | none => some i | some j => if s.srcPrio i < s.srcPrio j then some i else some j) else b) none
  let cur := s.fld RDG_SRC_STAT 2 0
  match best with
  | none => if s.fld RDG_DPLL_CTL 7 6 = 3 then 0 else 5
  | some i => if decide (1 ≤ cur ∧ cur ≤ 4) && good (cur - 1) && !s.flag RDG_DPLL_CTL 4 then cur else i + 1

/-- The DPLL reselects; a switch raises bit 6. -/
def State.dpllSelect (s : State) : State :=
  let n := s.dpllChoice
  if n = s.fld RDG_SRC_STAT 2 0 then s else (s.setFld RDG_SRC_STAT 2 0 n).raise pRdg 6

def State.setQualified (s : State) (i : Nat) (b : Bool) : State :=
  if i < 4 then s.setFlag RDG_SRC_STAT (8 + i) b else s

def State.holdOffTicks (s : State) : Nat := s.fld RDG_QUAL_CFG 23 16 * 10000000

/-- ±4.6 ppm, in units of 10^-12 (R52). -/
abbrev freqRange : Nat := 4600000

/-- The frequency of a source as it is measured when it qualifies: TYSAR's is that of its peer (R264); of another input, a free
value within the range. [log 124] -/
def State.sourceFreq (s : State) (i : Nat) : State :=
  if i < 3 then
    let (f, s) := s.fresh
    s.setReg (RDG_SRC_FOFF i) (wrap 32 ((f % (2 * freqRange + 1) : Nat) - (freqRange : Int)))
  else s

/-- A source has shown no loss for the time that applies to it, its frequency lies within ±4.6 ppm, and it qualifies. A loss
that still stands ends as the command comes, and the time runs from there. [log 124] -/
def State.sourceQualifies (s : State) (i : Nat) : State :=
  let x := s.source i
  let need := if x.wasLost then s.fld RDG_QUAL_CFG 15 0 * 1000000000 else s.holdOffTicks
  let f := sgn 32 (s.reg (RDG_SRC_FOFF 3))
  if i = 3 ∧ (!decide (-(freqRange : Int) ≤ f ∧ f ≤ freqRange) || !s.flag TYS_FREQ_SEL 16) then s
  else
    let s := s.untilTick ((if x.lost then s.ridge.ticks else x.since) + need)
    (((s.setSource i ⟨true, false, false, s.ridge.ticks⟩).setQualified i true).sourceFreq i).dpllSelect

/-- A source shows a loss at its input. -/
def State.sourceLost (s : State) (i : Nat) : State :=
  let x := s.source i
  if x.lost then s else s.setSource i { x with lost := true, since := s.ridge.ticks }

/-- Tick of the last ACCEPTED frame of the peer that feeds source TYSAR (R264). -/
def State.tysarSeen (s : State) : Nat := tget s.tys.acceptedAt (s.fld TYS_FREQ_SEL 5 0) 0

/-- A loss that lasts longer than the hold-off disqualifies the source. TYSAR's loss is that no ACCEPTED frame of its peer comes,
and it raises bit 6 of the TYS page (R264, R269). -/
def State.sourceDisqualifies (s : State) (i : Nat) : State :=
  let x := s.source i
  if !x.lost ∧ i ≠ 3 then s
  else
    let s := s.untilTick ((if i = 3 then s.tysarSeen else x.since) + s.holdOffTicks + 1)
    let s := onlyIf (i == 3 && x.qualified) (fun s => s.raise 0x3B0 6) s
    ((s.setSource i { x with qualified := false, wasLost := true }).setQualified i false).dpllSelect

/-! ## Stamps, pulses and captures (R55, R58 to R62) -/

/-- An egress stamp enters its port's FIFO of 16, or is dropped and counted (R55). -/
def State.pushStamp (s : State) (p : Nat) (st : Stamp) : State :=
  let q := s.ridge.txs.getD p []
  if q.length ≥ 16 then s.bump RDG_TXS_OVF_CNT
  else { s with ridge := { s.ridge with txs := s.ridge.txs.setIfInBounds p (q ++ [st]) } }

/-- The five words that show a popped stamp, from the latch word's address. -/
def State.showStamp (s : State) (a : Nat) (st : Stamp) : State :=
  (((s.setReg a st.ns.toNat).setReg (a + 4) st.frac.toNat).setReg (a + 8) (st.sec.toNat % 0x100000000)).setReg (a + 12)
    (st.sec.toNat / 0x100000000)

/-- What an empty FIFO shows: its time words are free values. [log 29] -/
def State.emptyStamp (s : State) : Stamp × State :=
  let (f, s) := s.fresh
  let (g, s) := s.fresh
  (⟨BitVec.ofNat 48 (g / 0x100000000), BitVec.ofNat 30 f, BitVec.ofNat 32 g, 0, 0⟩, s)

/-- A read of RDG_TXS_NS pops the head entry and latches its words (R55). -/
def State.popTxs (s : State) : State :=
  let p := s.fld RDG_TXS_SEL 5 0
  match s.ridge.txs.getD p [] with
  | st :: r =>
    let s := { s with ridge := { s.ridge with txs := s.ridge.txs.setIfInBounds p r } }
    (s.showStamp RDG_TXS_NS st).setReg RDG_TXS_TAG (0x80000000 + st.msgType.toNat * 0x10000 + st.seqId.toNat)
  | [] =>
    let (st, s) := s.emptyStamp
    (s.showStamp RDG_TXS_NS st).setFlag RDG_TXS_TAG 31 false

/-- A read of RDG_CAP_NS[i] pops the head entry (R62). -/
def State.popCap (s : State) (i : Nat) : State :=
  match s.ridge.cap.getD i [] with
  | st :: r =>
    let s := { s with ridge := { s.ridge with cap := s.ridge.cap.setIfInBounds i r } }
    (s.showStamp (RDG_CAP_NS i) st).setFld (RDG_CAP_CTL i) 7 4 r.length
  | [] =>
    let (st, s) := s.emptyStamp
    s.showStamp (RDG_CAP_NS i) st

/-- The time of an edge captured a number of quarter ns after the counter's value. -/
def State.edgeTime (s : State) (quarter : Nat) : Int := s.now + (quarter * (nsUnit / 4) : Nat)

/-- An edge on EXT_CAPTURE[i] (R62): of a pulse under 10 ns, whether the edge is captured is a free value. -/
def State.captureEdge (s : State) (i : Nat) (rising : Bool) (quarter widthNs : Nat) : State :=
  let sel := s.fld (RDG_CAP_CTL i) 1 0
  if !bitOf sel (if rising then 0 else 1) then s
  else
    let (seen, s) := if widthNs ≥ 10 then (true, s) else (s.fresh.1 % 2 == 1, s.fresh.2)
    if !seen then s
    else
      let q := s.ridge.cap.getD i []
      if q.length ≥ 8 then s.setFlag (RDG_CAP_CTL i) 8 true
      else
        let s := { s with ridge := { s.ridge with cap := s.ridge.cap.setIfInBounds i (q ++ [stampOf (s.edgeTime quarter) 0 0]) } }
        s.setFld (RDG_CAP_CTL i) 7 4 (q.length + 1)

/-- PPS_OUT[k] reaches its next leading edge, the one after the last where that is now (R58). [log 25] -/
def State.ppsOut (s : State) (k : Nat) : State :=
  let ctl := s.reg (RDG_PPSO_CTL k)
  let adv : Int := sgn 32 (s.reg (RDG_PPSO_DLY k)) * (nsUnit / 4 : Nat)
  let c := bitsOf ctl 15 8
  if !bitOf ctl 0 || (bitOf ctl 2 && !s.carOn c) then s
  else
    let edgeFrom (t : Int) : Int :=
      if bitOf ctl 2 then s.anchor c + kTime (ceilDiv ((t - s.anchor c) * 96) (3125 * (nsUnit : Int) * 307200) * 307200)
      else ceilDiv t (1000000000 * (nsUnit : Int)) * (1000000000 * (nsUnit : Int))
    let b0 := edgeFrom (s.now + adv)
    let b := if s.ridge.ppsLast.getD k none = some b0 ∧ b0 ≤ s.now + adv then edgeFrom (b0 + 1) else b0
    let s := s.untilTime (b - adv)
    let s := { s with ridge := { s.ridge with ppsLast := s.ridge.ppsLast.setIfInBounds k (some b) } }
    if bitOf ctl 1 && decide (s.servo < 2) then s
    else
      let st := stampOf b 0 0
      s.emit (.ppsEdge (Fin.ofNat 2 k) st.sec st.ns st.frac (BitVec.ofNat 32 (s.reg (RDG_PPSO_DLY k))) (10 * bitsOf ctl 31 16))

/-- An edge of PPS_IN[j] (R59): the pulse is used with the label it has; without one bit 7 is raised. [log 25] -/
def State.ppsIn (s : State) (j : Nat) (rising : Bool) (quarter : Nat) : State :=
  let ctl := s.reg (RDG_PPSI_CTL j)
  if !bitOf ctl 0 || bitOf ctl 1 == rising then s
  else
    let t := s.edgeTime quarter - sgn 32 (s.reg (RDG_PPSI_DLY j)) * (nsUnit / 4 : Nat)
    match s.ridge.todLabel.getD j none with
    | some sec => { s with ridge := { s.ridge with
        todLabel := s.ridge.todLabel.setIfInBounds j none, ppsCap := s.ridge.ppsCap.setIfInBounds j (some (t, sec)) } }
    | none => s.raise pRdg 7

/-! ## ToD messages (R59, R60) -/

/-- Sum of bytes modulo 65,536. -/
def sum16 (bs : List Byte) : Nat := (bs.foldl (fun n b => n + b.toNat) 0) % 65536

/-- A number of bytes, most significant first. -/
def ofBytesBE (bs : List Byte) : Nat := ofBytes bs.reverse

/-- The second a Larvia binary message labels. -/
def larviaSecond (bs : List Byte) : Option Nat :=
  if bs.length = 16 ∧ bs.take 4 = [0x4C, 0x56, 0x01, 10] ∧ ofBytesBE (bs.drop 14) = sum16 ((bs.drop 2).take 12) then
    some (ofBytesBE ((bs.drop 4).take 6))
  else none

/-- A sentence cut at its commas. -/
def commaSplit : List Nat → List (List Nat)
  | [] => [[]]
  | c :: r => match commaSplit r with
    | f :: fs => if c = 44 then [] :: f :: fs else (c :: f) :: fs
    | [] => [[c]]

/-- Decimal digits of a field; `none` where another character stands in it. -/
def decimal (f : List Nat) : Option Nat :=
  if f.isEmpty then none
  else f.foldl (fun (n : Option Nat) c => n.bind fun n => if 48 ≤ c ∧ c ≤ 57 then some (10 * n + (c - 48)) else none) (some 0)

/-- Days from 1970-01-01 to a date of the Gregorian calendar. -/
def daysFrom1970 (y m d : Nat) : Int :=
  let y' : Int := (y : Int) - (if m ≤ 2 then 1 else 0)
  let era := y' / 400
  let yoe := y' - era * 400
  let mp : Int := (((m + 9) % 12 : Nat) : Int)
  let doy := (153 * mp + 2) / 5 + (d : Int) - 1
  era * 146097 + yoe * 365 + yoe / 4 - yoe / 100 + doy - 719468

/-- UTC seconds of hhmmss and a date. -/
def utcSeconds (hms : Option Nat) (y m d : Option Nat) : Option Int :=
  match hms, y, m, d with
  | some t, some y, some m, some d =>
    if decide (1 ≤ m ∧ m ≤ 12 ∧ 1 ≤ d ∧ d ≤ 31 ∧ t / 10000 ≤ 23 ∧ t / 100 % 100 ≤ 59 ∧ t % 100 ≤ 60) then
      some (daysFrom1970 y m d * 86400 + (t / 10000 * 3600 + t / 100 % 100 * 60 + t % 100 : Nat))
    else none
  | _, _, _, _ => none

/-- The UTC second of an NMEA 0183 ZDA or RMC sentence whose checksum holds. [log 24, 114] -/
def nmeaSecond (bs : List Byte) : Option Int :=
  let cs := (bs.map BitVec.toNat).filter fun c => c != 13 && c != 10
  match cs with
  | 36 :: body =>
    let text := body.takeWhile (· != 42)
    let hex (c : Nat) : Nat := if 48 ≤ c ∧ c ≤ 57 then c - 48 else if 65 ≤ c ∧ c ≤ 70 then c - 55 else if 97 ≤ c ∧ c ≤ 102 then c - 87 else 255
    let chk := match body.drop text.length with
      | [42, a, b] => some (16 * hex a + hex b)
      | _ => none
    if chk != some (text.foldl Nat.xor 0) then none
    else
      let fs := commaSplit text
      let f (i : Nat) : List Nat := fs.getD i []
      let hms := decimal ((f 1).take 6)
      match (f 0).drop 2 with
      | [90, 68, 65] => utcSeconds hms (decimal (f 4)) (decimal (f 3)) (decimal (f 2))
      | [82, 77, 67] =>
        if f 2 = [65] then
          let d := f 9
          utcSeconds hms ((decimal (d.drop 4)).map (· + 2000)) (decimal ((d.drop 2).take 2)) (decimal (d.take 2))
        else none
      | _ => none
  | _ => none

/-- A ToD message arrives `ms` after the pulse it follows, and labels the next pulse (R59, R61). [log 24] -/
def State.todReceived (s : State) (bs : List Byte) (ms : Nat) : State :=
  let sec : Option Nat := match s.fld RDG_TOD_CTL 1 0 with
    | 1 => (nmeaSecond bs).map fun u => wrap 48 (u + sgn 16 (s.fld RDG_UTC 15 0))
    | 2 => larviaSecond bs
    | _ => none
  match sec with
  | some n =>
    if 100 ≤ ms ∧ ms ≤ 900 then
      { s with ridge := { s.ridge with todLabel := Vector.replicate 2 (some (BitVec.ofNat 48 n)) } }
    else s
  | none => s

/-- The low `n` bytes of a value, most significant first. -/
def toBytesBE (n v : Nat) : List Byte := (toBytes n v).reverse

/-- The Larvia message sent 300 ms after each second (R60); the clockClass of G.8275.1 is a free value. [log 28] -/
def State.todSend (s : State) : State :=
  if !s.flag RDG_TOD_CTL 4 then s
  else
    let due := s.ridge.sec.toNat + if s.ridge.ns.toNat > 300000000 then 1 else 0
    let sec := if s.ridge.todSent = some due ∧ 300000000 ≤ s.ridge.ns.toNat then due + 1 else due
    let s := { s with ridge := { s.ridge with todSent := some sec } }
    let s := s.untilTime (((sec * 1000000000 + 300000000 : Nat) : Int) * nsUnit)
    let (f, s) := s.fresh
    let body := [(0x01 : Byte), 10] ++ toBytesBE 6 ((sec + 1) % 2 ^ 48) ++ toBytesBE 2 (s.fld RDG_UTC 15 0) ++
      [BitVec.ofNat 8 (s.fld RDG_UTC 17 17 * 2 + s.fld RDG_UTC 16 16 + s.servo * 4), BitVec.ofNat 8 f]
    s.emit (.tod ([0x4C, 0x56] ++ body ++ toBytesBE 2 (sum16 body)))

/-! ## Carriers (R65) -/

/-- Armed GRID timers that name a carrier count its symbols in its new grid (R65, R66). -/
def State.regridTimers (s : State) (c : Nat) : State :=
  each (List.range 32) (fun k s =>
    if s.timerMode k = 3 ∧ s.timerCar k = c then s.setTimer k { s.timer k with last := s.symAt c (s.now - s.timerOff k) } else s) s

/-- Timers in GRID mode that name a carrier stop with it. -/
def State.stopGridTimers (s : State) (c : Nat) : State :=
  each (List.range 32) (fun k s =>
    if s.timerMode k = 3 ∧ s.timerCar k = c then s.setTimer k { s.timer k with armed := false } else s) s

/-- The number of the symbol that opens the next 10 ms frame of a carrier. -/
def State.nextFrameSym (s : State) (c : Nat) : Int :=
  (kOf (s.now - s.anchor c) / 307200 + 1) * (20 * (s.shape c).perHalf : Nat)

/-- A write of RDG_CAR_CFG[c], given the word before it (R65). -/
def State.carWrite (s : State) (c old v : Nat) : State :=
  let a := RDG_CAR_CFG c
  if bitOf old 31 ∧ bitOf v 31 then s.setReg a (putBits old 26 24 (bitsOf v 26 24))
  else if (gridShape (bitsOf v 2 0) (bitsOf v 3 3) (bitsOf v 5 4)).isNone then s.setReg a old
  else if bitOf v 31 then
    { s with ridge := { s.ridge with
        cars := tput s.ridge.cars c ⟨false, s.nextFrameSym c - 1⟩, skipped := tdel s.ridge.skipped c } }.regridTimers c
  else if bitOf old 31 then
    { s with ridge := { s.ridge with cars := tdel s.ridge.cars c } }.stopGridTimers c
  else s

/-- An enabled carrier reaches its first 10 ms frame boundary and starts (R65). -/
def State.carStart (s : State) (c : Nat) : State :=
  match tget? s.ridge.cars c with
  | some g =>
    if g.started ∨ !s.carOn c then s
    else
      let n := g.last + 1
      let s := s.untilTime (s.symTime c n)
      let s := { s with ridge := { s.ridge with cars := tput s.ridge.cars c ⟨true, n⟩ } }
      each (List.range 32) (fun k s =>
        if s.timerMode k = 3 ∧ s.timerCar k = c then s.setTimer k { s.timer k with last := max (s.timer k).last g.last }
        else s) s
  | none => s

/-- The next symbol boundary of a started carrier is reached (R64). -/
def State.gridBoundary (s : State) (c : Nat) : State :=
  match tget? s.ridge.cars c with
  | some g =>
    if !g.started ∨ !s.carOn c then s
    else
      let s := s.untilTime (s.symTime c (g.last + 1))
      { s with ridge := { s.ridge with cars := tput s.ridge.cars c ⟨true, g.last + 1⟩ } }
  | none => s

end Sys2Proof.Machine
end

