-- ==== Sys2Proof/Machine/Ledger.lean ====
section
/-! DEFINITION. What the Truss and the Ledger do beyond one Frame's path (04): doorbells (R77), retries (R94), drains
(R101), queue settings and moves (R102, R107, R111), rebuild (R104), mirrors (R106), regions and the read port
(R112). -/

namespace Sys2Proof.Machine

/-- A write of p to TRS_DB, given the producer before it (R77). -/
def State.doorbellWrite (s : State) (q old p : Nat) : State :=
  let x := s.q q
  if sub32 p x.fetch ≤ sub32 (add32 x.completed (s.ringSize q)) x.fetch then s
  else ((s.setReg (TRS_DB q) old).bump TRS_STALE_CNT).capture (qPage q) (s.qBay q) 0x0001 p

/-- The head Frame of a queue is taken up: from its ring, or from its on-chip feed. -/
def State.frameFetch (s : State) (q : Nat) : State :=
  if s.qOnchip q || s.truss.onChip.any (fun e => e.queue == q && !e.taken) then s.fetchOnChip q else s.fetchRing q

/-- Room has come for a head Frame that was held back (R96). -/
def State.admissionRoom (s : State) (q : Nat) : State :=
  if (s.q q).room ≠ 0 then s.frameFetch q else s

/-- The grid reaches a task's deadline: one that has not started ends LAPSED, NOT_STARTED (R91). -/
def State.deadlineDue (s : State) (idx : Nat) : State :=
  match s.taskAt idx with
  | none => s
  | some (f, i, t) =>
    if f.st = .opened ∨ (t.st ≠ .admitted ∧ t.st ≠ .ready) then s
    else (s.untilTime (s.symTime f.carrier (s.symNo f.carrier t.dlSlot t.dlSym 0))).endTask f.id i 1 0x10 .grace

/-- The grid reaches deadline plus grace: a running task ends LAPSED, OVERRAN, and is abandoned (R91). -/
def State.graceDue (s : State) (idx : Nat) : State :=
  match s.taskAt idx with
  | none => s
  | some (f, i, t) =>
    if t.st ≠ .running then s
    else (s.untilTime (s.symTime f.carrier (s.symNo f.carrier t.dlSlot t.dlSym (s.qGrace t.queue)))).endTask f.id i 1 0x11 .grace

/-- Outputs of a DONE task that begin in a ring slot of a TX flow group of its Bay publish it, tagged with the task's
deadline symbol moved on by pub_off symbols (R375). -/
def State.publish (s : State) (f : Frame) (t : Task) : State :=
  let groups := (s.girt.fgs.map (·.1)).filter fun g =>
    bitsOf (s.fgWord g 0) 63 61 == 7 && bitsOf (s.fgWord g 0) 58 56 == f.bay
  each groups (fun g s =>
    let base := bitsOf (s.fgWord g 1) 47 0
    let stride := 64 * bitsOf (s.fgWord g 2) 47 24
    let depth := bitsOf (s.fgWord g 0) 28 24 + 1
    let c := bitsOf (s.fgWord g 0) 55 48
    let n := s.symNo f.carrier t.dlSlot t.dlSym 0 + (bitsOf (s.fgWord g 0) 23 16 : Nat)
    let per : Int := (s.shape c).perSlot
    each t.outs (fun o s =>
      if stride = 0 ∨ o.1 < base ∨ o.1 ≥ base + depth * stride then s
      else
        let r := (o.1 - base) / stride
        let keep := s.girt.marks.filter fun m => !(m.1 == g && m.2.1 == r)
        { s with girt := { s.girt with marks := keep ++ [(g, r, wrap 32 (n / per), (n % per).toNat)] } }) s) s

/-- The closure write of a STAGED task is durable: it ends DONE and publishes its outputs before its completion record can
be issued (R84, R375). Where no mirror took the write, it has ended LEDGER_LOST and publishes nothing (R106). [log 30] -/
def State.closureDurable (s : State) (idx : Nat) : State :=
  match s.taskAt idx with
  | none => s
  | some (f, i, t) =>
    if t.st ≠ .staged then s
    else
      let s := s.settle { f with tasks := f.tasks.set i { t with st := .done, status := 0, detail := 0 } }
      match s.taskAt idx with
      | some (_, _, t') => if t'.status = 0 then s.publish f t' else s
      | none => s

/-- Queues of a Bay whose deliveries go to its completion ring `r`. -/
def State.ringQueues (s : State) (b r : Nat) : List Nat :=
  (List.range 1024).filter fun q => s.qBay q == b && s.fld (qDepth q) 27 24 == r

/-- Deliveries of a ring that wait for room or for a failed write are tried again (R94). [log 32] -/
def State.retryRing (s : State) (b r : Nat) (full : Bool) : State :=
  each (s.ringQueues b r) (fun q s =>
    if (s.q q).delay = 6 ∨ (full ∧ (s.q q).delay = 3) then s.deliver q else s) s

/-- The 10 µs retry of a failed delivery (R94). [log 4, 32] -/
def State.retryDelivery (s : State) (q : Nat) : State := if (s.q q).delay = 6 then s.deliver q else s

/-- A consumer of R82's encoding exists. -/
def consumerExists (c : Nat) : Bool := decide (c < 72) || decide (128 ≤ c ∧ c < 195)

/-- A write of TRS_DRAIN (R101). -/
def State.drainWrite (s : State) (v : Nat) : State :=
  let c := bitsOf v 7 0
  if !consumerExists c then s
  else if !bitOf v 8 then
    if s.truss.drained.contains c then
      ({ s with truss := { s.truss with drained := s.truss.drained.filter (· != c) } } : State).idleFrom c
    else s
  else
    let s := { s with truss := { s.truss with
      drained := addOnce s.truss.drained c, asking := s.truss.asking.filter (· != c)
      lastTag := tdel s.truss.lastTag c, draining := some c } }
    let s := s.setFlag TRS_DRAIN 31 true
    match bitOf v 16, tget? s.truss.holding c with
    | true, some idx => (s.takeAway c .drain).rerun idx
    | _, _ => s

/-- The drained consumer holds no task (R101). -/
def State.drainDone (s : State) : State :=
  match s.truss.draining with
  | some c =>
    if (tget? s.truss.holding c).isSome then s
    else ({ s with truss := { s.truss with draining := none } }.setFlag TRS_DRAIN 31 false).raise 0x20 1
  | none => s

/-- A queue enabled with resume: C and F come from the control block, and every entry between them that was accepted
in an earlier epoch gets a VOIDED_EPOCH record (R107). -/
def State.resumeQueue (s : State) (q : Nat) : State :=
  let b := s.qBay q
  match s.memRead (trussFor b) (s.cblk q) 16 with
  | (.error _, s) => s
  | (.ok bs, s) =>
    let f := wordAt bs 0 % 0x100000000
    let c := wordAt bs 1 % 0x100000000
    let (voids, s) := (List.range (min (sub32 f c) (s.ringSize q))).foldl (fun (r : List (Nat × Nat) × State) k =>
      let i := add32 c k
      match r.2.memRead (trussFor b) (r.2.ringBase q + 64 * (i % r.2.ringSize q) + 56) 8 with
      | (.ok w, s) =>
        if bitOf (ofBytes w) 63 && decide (ofBytes w % 0x100000000 < s.epoch) then
          let (ns, s) := s.fresh
          (r.1 ++ [(i, ns % 2 ^ 30)], s)
        else (r.1, s)
      | (.error _, s) => (r.1, s)) (([] : List (Nat × Nat)), s)
    let s := s.setQ q { s.q q with fetch := f, completed := c, voids := voids }
    (if voids.isEmpty then s.passEntries q else s).deliverVoids q

/-- A write of TRS_Q_CFG for queue `q`, given the word before it (R107, R111). -/
def State.queueWrite (s : State) (q old v : Nat) : State :=
  if bitOf old 31 then
    let s := s.setReg (qCfg q) (putBits (putBits (s.reg (qCfg q)) 29 29 (bitsOf old 29 29)) 19 16 (bitsOf old 19 16))
    if bitOf v 31 then s
    else
      let x := s.q q
      (if x.room = 0 ∧ x.delay = 0 then s else s.setQ q { x with room := 0, delay := 0 }).showStall q
  else if bitOf v 31 then
    let s := s.showStall q
    if bitOf v 30 ∧ !bitOf v 29 then s.resumeQueue q else s
  else s

/-- The settings of an enabled queue that a write leaves alone (R111): those at `a`, as they were in `s0`. -/
def State.keepQueue (s s0 : State) (q off : Nat) : State :=
  if !s0.qOn q then s
  else if off = 0x108 then s.setFld (qDepth q) 27 24 (s0.fld (qDepth q) 27 24)
  else if off = 0x110 ∨ off = 0x114 then s.setWide (qSring q) (s0.wide (qSring q))
  else if off = 0x118 ∨ off = 0x11C then s.setWide (qCblk q) (s0.wide (qCblk q))
  else s

/-- The 0.5 ms boundary of the anchor of R63 at offset 0 that comes next, or that the last κTc has begun with: moves that
wait for one boundary all take effect there. [log 34] -/
def State.halfMs (s : State) : Int :=
  let a := 315964819 * 1000000000 * (nsUnit : Int)
  a + kTime ((kOf (s.now - a) + 15359) / 15360 * 15360)

/-- The pending move of queue `q`, and the pending changes of owner of TRS_VIEW pages, take effect at the next 0.5 ms
boundary (R102). [log 34] -/
def State.queueMove (s : State) (q : Nat) : State :=
  let ms := s.truss.moves.filter fun m => m.1 == qPage q || decide (m.1 < 0x1000)
  if ms.isEmpty then s
  else
    let s := s.untilTime s.halfMs
    let s := { s with truss := { s.truss with moves := s.truss.moves.filter fun m => !ms.contains m } }
    let s := each ms (fun m s => (s.setFld (hdr m.1 0x28) 23 16 m.2.2).changeOwner m.1 m.2.1) s
    if ms.any fun m => m.1 == qPage q then
      let s := ((s.setFlag (qCfg q) 31 false).setFlag (qCfg q) 30 false).setFld (qDepth q) 27 24 0
      let s := ((s.setWide (qSring q) 4).setWide (qCblk q) 0).setReg (TRS_DB q) 0
      let s := s.setQ q { s.q q with fetch := 0, completed := 0, intent := none, room := 0, delay := 0 }
      let moved (f : Frame) : Frame := match f.feed with
        | .ring i => if f.queue = q then { f with feed := .moved i } else f
        | _ => f
      (s.setFrames (s.truss.frames.map moved)).showStall q
    else s

/-- A consumer faults or is reset: a core's AIR channel is purged (R240), and its task reruns or ends (R84, R103). -/
def State.consumerFault (s : State) (c : Nat) : State :=
  let s := if c < 72 then s.airPurge c else s
  let s := if h : c < 72 then
      { s with cores := s.cores.set c { s.cores[c] with taskValid := false, taskAbandoned := s.cores[c].taskValid || s.cores[c].taskAbandoned } }
    else s
  s.consumerLost c

/-- The Frames that were being admitted when a warm reset came (R104, step 1): a ring's Frame whose records are durable is
accepted, and one whose records are not is fetched again; an on-chip Frame was never accepted, and is dropped. -/
def State.settleOpened (s : State) (f : Frame) : State :=
  let dropped := s.setFrames (s.truss.frames.filter fun g => g.id != f.id)
  let dropped := dropped.setQ f.queue { dropped.q f.queue with nextSeq := f.seq }
  match f.feed with
  | .ring i =>
    if f.durable then s.acceptFrame f.queue
    else (dropped.setQ f.queue { dropped.q f.queue with fetch := i }).passEntries f.queue
  | _ => dropped

/-- A record as the rebuild leaves it (R104, step 3): unended, it is ADMITTED, at attempt + 1 unless its Frame was accepted in
step 1; it ends where its deadline has passed or an input of it was wiped. -/
def State.againTask (s : State) (f : Frame) (accepted : Bool) (t : Task) : Task :=
  if ended t then t
  else
    let t := if accepted then t else { t with st := .admitted, attempt := t.attempt + 1, consumer := 0 }
    if s.reached f.carrier t.dlSlot t.dlSym 0 then { t with st := .done, status := 1, detail := 0x10 }
    else if (taskInputs t).any fun i => decide (0 < i.2) && s.truss.wiped.any (overlaps i) then
      { t with st := .done, status := 2, detail := 5 }
    else t

/-- The rebuild after a warm reset, from the records of both mirrors (R104). [log 33] -/
def State.rebuild (s : State) : State :=
  if !s.flag TRS_STAT 0 then s
  else
    let opened := (s.truss.frames.filter fun f => f.st == .opened).map Frame.id
    let s := each (s.truss.frames.filter fun f => f.st == .opened) (fun f s => s.settleOpened f) s
    let s := { s with truss := { s.truss with holding := [], asking := [], onChip := [] } }
    let s := each s.truss.queues (fun e s => if e.2.intent.isSome then s.deliver e.1 else s) s
    let (bad, s) := (s.truss.frames.flatMap fun f => f.tasks.map Task.idx).foldl (fun (r : Bool × State) i =>
      match r.2.readRecord i with
      | (some _, s) => (r.1, s)
      | (none, s) => (true, s)) (false, s)
    let s := if bad then s.ledgerLost else s
    let s := each s.truss.frames (fun f s => match s.frame? f.id with
      | some g =>
        if g.st = .committed ∨ g.st = .returned then s
        else s.settle { g with tasks := g.tasks.map (s.againTask g (opened.contains g.id)) }
      | none => s) s
    let s := { s with truss := { s.truss with admits := !s.flag LDG_STAT 3, dispatch := true, wiped := [] } }
    (((s.setFlag TRS_STAT 0 false).setFld PLT_FW_STAT 3 0 1).raise 8 0).raise 0x20 0

/-- One unit of the Ledger's records. [log 128] -/
abbrev unitRecords : Nat := 0x10000

/-- A returned mirror is filled from the live one: the copy begins at record 0, one command copies the next unit of records, and
with the last one both mirrors agree (R106). A live record that cannot be read is lost. [log 128] -/
def State.resync (s : State) : State :=
  let pair : Option (Nat × Nat) :=
    match s.fld LDG_STAT 1 0 with
    | 1 => some (0, 1)
    | 2 => some (1, 0)
    | _ => none
  match pair with
  | none => s
  | some (live, back) =>
    let s := if s.flag LDG_STAT 2 then s else (s.setFlag LDG_STAT 2 true).setReg LDG_RESYNC_POS 0
    let pos := s.reg LDG_RESYNC_POS
    let idxs := (s.truss.frames.flatMap fun f => f.tasks.map Task.idx).filter fun i => decide (pos ≤ i ∧ i < pos + unitRecords)
    let (bad, s) := idxs.foldl (fun (r : Bool × State) i => match r.2.readRecord i with
      | (some _, s) => (r.1, s)
      | (none, s) => (true, s)) (false, s)
    if bad then ((s.setFlag LDG_STAT 2 false).setReg LDG_RESYNC_POS 0).ledgerLost
    else
      let lo := s.wide (mirrorBase live) + 64 * pos
      let to' := s.wide (mirrorBase back) + 64 * pos
      let n := 64 * unitRecords
      let cells := s.mem.filter fun e => decide (lo ≤ e.1 ∧ e.1 < lo + n)
      let s := s.wipe to' n
      let s := each cells (fun e s => s.store (to' + (e.1 - lo)) [e.2]) s
      if pos + unitRecords < 0x1000000 then s.setReg LDG_RESYNC_POS (pos + unitRecords)
      else ((s.setFlag LDG_STAT back true).setFlag LDG_STAT 2 false).setReg LDG_RESYNC_POS 0

/-- A write of LDG_REGION[b] that R112 refuses. [log 36] -/
def State.regionRefused (s : State) (b v : Nat) : Bool :=
  let base := bitsOf v 7 0
  let size := bitsOf v 24 16
  let busy := (List.range 1024).any fun q => s.qBay q == b && s.qOn q
  let meets (c : Nat) : Bool :=
    let o := s.fld (LDG_REGION c) 7 0
    let n := s.fld (LDG_REGION c) 24 16
    c != b && decide (base < o + n ∧ o < base + size ∧ 0 < size ∧ 0 < n)
  busy || s.regionFree b != (s.region b).2 || (List.range 8).any meets || decide (base + size > 256)

/-- The on-chip state of a record (R82). [log 38] -/
def State.recordState (s : State) (idx : Nat) : Nat :=
  match s.taskAt idx with
  | some (_, _, t) => recCode t.st
  | none => if s.truss.closed.contains idx then 6 else 0

/-- A fetch of a record into the read port (R112). [log 112] -/
def State.readPort (s : State) (idx : Nat) : State :=
  let code := s.recordState idx
  let show' (bs : List Byte) (s : State) : State :=
    each (List.range 16) (fun w s =>
      let v := ofBytes ((bs.drop (4 * w)).take 4)
      s.setReg (LDG_RD_DATA w) (if w = 1 then putBits v 26 24 code else v)) s
  let s := s.setReg LDG_RD_STAT 0
  if code = 0 ∨ code = 6 then
    let m := if s.flag LDG_STAT 0 then 0 else 1
    show' (s.bytes (s.wide (mirrorBase m) + 64 * idx) 64) s
  else match s.readRecord idx with
    | (some bs, s) => show' bs s
    | (none, s) => (s.setFlag LDG_RD_STAT 1 true).ledgerLost

end Sys2Proof.Machine
end

