-- ==== Sys2Proof/Machine/Rafter.lean ====
section
/-! DEFINITION. A Rafter core as shared operations (05, 06): its registers by number, levels, exception entry (R137),
interrupts (R140), control registers (R141, R165), the hold window (R122), store errors (R136), the hand-off of a task
(R131, R132), halting and starting (R142, R143). -/

namespace Sys2Proof.Machine

/-! ## Registers -/

def Core.G (k : Core) (r : Nat) : Nat := (k.g.getD r 0).toNat
def Core.A (k : Core) (r : Nat) : Nat := (k.a.getD r 0).toNat
def Core.V (k : Core) (r : Nat) : Nat := (k.v.getD r 0).toNat
def Core.N (k : Core) (r : Nat) : Nat := (k.n.getD r 0).toNat
def Core.M (k : Core) (r : Nat) : Nat := (k.m.getD r 0).toNat
def Core.setG (k : Core) (r v : Nat) : Core := { k with g := k.g.setIfInBounds r (BitVec.ofNat 64 v) }
def Core.setA (k : Core) (r v : Nat) : Core := { k with a := k.a.setIfInBounds r (BitVec.ofNat 48 v) }
/-- Any write to vector state sets RFT_VCTL.dirty (R153). -/
def Core.dirty (k : Core) : Core := { k with vctl := k.vctl ||| 4 }
def Core.setV (k : Core) (r v : Nat) : Core := { k with v := k.v.setIfInBounds r (BitVec.ofNat 1024 v) }.dirty
def Core.setN (k : Core) (r v : Nat) : Core := { k with n := k.n.setIfInBounds r (BitVec.ofNat 128 v) }.dirty
def Core.setM (k : Core) (r v : Nat) : Core := { k with m := k.m.setIfInBounds r (BitVec.ofNat 3072 v) }.dirty

/-- A register's number over all files, for R115, R118 and R162. -/
abbrev regG (r : Nat) : Nat := r
abbrev regA (r : Nat) : Nat := 32 + r
abbrev regCb (r : Nat) : Nat := 48 + r
abbrev regCl (r : Nat) : Nat := 56 + r
abbrev regCirc : Nat := 64
abbrev regV (r : Nat) : Nat := 72 + r
abbrev regN (r : Nat) : Nat := 104 + r
abbrev regM (r : Nat) : Nat := 120 + r
abbrev regRun : Nat := 128

/-- Levels: 0 U, 1 S, 2 K. -/
def Core.level (k : Core) : Nat := k.priv.toNat

def State.core (s : State) (c : Nat) : Core := s.cores.getD c Core.cold
def State.setCore (s : State) (c : Nat) (k : Core) : State := { s with cores := s.cores.setIfInBounds c k }
def rftPage (c : Nat) : Nat := 0x80 + c
/-- RFT_STAT.state: 0 OFF, 1 BOOT, 2 RUN, 3 TAKE wait, 4 HALTED, 5 spared out. -/
def State.coreSt (s : State) (c : Nat) : Nat := s.fld (RFT_STAT c) 7 4
/-- A core that begins to wait in TAKE is idle from now on (R424). -/
def State.setCoreSt (s : State) (c v : Nat) : State :=
  let s := if v = 3 ∧ s.coreSt c ≠ 3 then s.idleFrom c else s
  s.setFld (RFT_STAT c) 7 4 v

/-- A core as a requester of memory. -/
def State.coreAgent (s : State) (c : Nat) : Agent := ⟨.core (Fin.ofNat 72 c), s.coreBay c, false⟩

/-! ## Exception entry (R137) -/

/-- The level that takes a cause. -/
def Core.target (k : Core) (code : Nat) : Nat :=
  if code = 0x0E then (if k.level = 0 then 1 else 2)
  else if code = 0x0F ∨ code = 0x0C ∨ k.level = 2 ∨ !k.excDeleg.getLsbD code then 2
  else 1

/-- The hold window ends at once. -/
def Core.endHold (k : Core) : Core :=
  if k.holdLeft = 0 then k else { k with holdLeft := 0, holdEnded := some k.cycle.toNat }

/-- Entry at a level: EPC, ECAUSE and EVAL are written, the level's ie clears, and execution continues at its vector.
A detail, slot or EVAL that the rules do not give is a free value. [log 55, 58] -/
def State.enterLevel (s : State) (c target code : Nat) (irq : Bool) (detail slot val : Option Nat) (epc : Nat) : State :=
  let (f, s) := s.fresh
  let (e, s) := s.fresh
  let k := (s.core c).endHold
  let cause := bitNat irq * 2 ^ 31 + k.level * 2 ^ 24 + slot.getD (f % 4) % 4 * 2 ^ 16 + detail.getD (f / 4 % 256) % 256 * 256 + code
  let ev := BitVec.ofNat 64 (val.getD e)
  let k := if target = 2 then
      { k with epcK := BitVec.ofNat 64 epc, ecauseK := BitVec.ofNat 64 cause, evalK := ev, ieK := false,
               pc := BitVec.ofNat 48 (k.evecK.toNat + 64 * code) }
    else
      { k with epcS := BitVec.ofNat 64 epc, ecauseS := BitVec.ofNat 64 cause, evalS := ev, ieS := false,
               pc := BitVec.ofNat 48 (k.evecS.toNat + 64 * code) }
  let s := s.setCore c { k with priv := BitVec.ofNat 2 target, pkt := [], sleep := .no, held := [], heldLen := 0, branched := true }
  let s := (s.setFld (RFT_LAST_EXC c) 25 24 target).setFld (RFT_LAST_EXC c) 7 0 code
  if s.coreSt c = 3 then s.setCoreSt c 2 else s

/-- An exception at packet address `epc` (R137, R138). -/
def State.exception (s : State) (c : Nat) (x : Cause) (epc : Nat) : State :=
  let t := (s.core c).target x.code
  let s := s.enterLevel c t x.code false x.detail x.slot x.val epc
  if x.code = 0x0C then
    let k := s.core c
    ((s.setCore c { k with progEcc := s.ridge.ticks :: k.progEcc }).raiseBits (rftPage c) 10)
  else s

/-! ## Stalled packets -/

/-- A core's unissued on-chip submission is withdrawn. -/
def State.dropSubmission (s : State) (c : Nat) : State :=
  let mine (e : OnChip) : Bool := match e.src with | .core k => k.val == c | _ => false
  { s with truss := { s.truss with onChip := s.truss.onChip.filter fun e => !mine e } }

/-- A packet asleep in TAKE or ENQ is broken, and nothing of it retires. -/
def State.breakStall (s : State) (c : Nat) : State :=
  let k := s.core c
  let s := { s with truss := { s.truss with asking := s.truss.asking.filter (· != c) } }.withdraw fun e =>
    match e.src with | .core k => k.val == c | _ => false
  s.setCore c { k with sleep := .no, held := [], heldLen := 0 }

/-! ## Interrupts (R140) -/

/-- The sources pending, enabled and takeable at the present level. -/
def Core.takeable (k : Core) : List Nat :=
  (List.range 5).filter fun i =>
    let l := if k.intDeleg.getLsbD i then 1 else 2
    k.intPend.getLsbD i && k.intEn.getLsbD i &&
      (decide (l > k.level) || (l == k.level && (if l = 2 then k.ieK else k.ieS)))

/-- ABANDON can be taken: it stays pending at K with ie clear (R135). -/
def Core.abandonNow (k : Core) : Bool := k.abandonPending.isSome && (k.level != 2 || k.ieK)

def abandonDetail : AbandonCause → Nat
  | .grace => 1
  | .cancel => 2
  | .drain => 3

def Core.pend (k : Core) (i : Nat) : Core := { k with intPend := k.intPend ||| BitVec.ofNat 5 (2 ^ i) }

/-- One of the takeable sources is taken; where several are, which comes first is a free value. [log 58] -/
def State.takeInterrupt (s : State) (c : Nat) (epc : Nat) : State :=
  let k := s.core c
  let (f, s) := if k.takeable.length > 1 then s.fresh else (0, s)
  match k.takeable[f % max 1 k.takeable.length]? with
  | none => s
  | some i => s.enterLevel c (if k.intDeleg.getLsbD i then 1 else 2) (0x20 + i) true none none none epc

/-! ## Control registers (R141, R165) -/

/-- Causes whose bit RFT_EXC_DELEG holds: 0x01 to 0x0B, 0x0D and 0x10. -/
abbrev delegMask : Nat := 0x12FFE

/-- Bits of RFT_ECAUSE that hold fields. -/
abbrev ecauseMask : Nat := 0x8303FFFF

/-- Lowest level that may read a CSR; `none` where the number is undefined. -/
def csrReadLevel (n : Nat) : Option Nat :=
  if n ≤ 5 ∨ n = 9 ∨ (0x20 ≤ n ∧ n ≤ 0x25) ∨ n = 0x31 ∨ (0x40 ≤ n ∧ n ≤ 0x4F) ∨ (0x80 ≤ n ∧ n ≤ 0x85) then some 0
  else if (6 ≤ n ∧ n ≤ 8) ∨ (0x10 ≤ n ∧ n ≤ 0x13) ∨ n = 0x1C ∨ n = 0x1D ∨ n = 0x30 ∨ n = 0xF0 then some 1
  else if (0x18 ≤ n ∧ n ≤ 0x1B) ∨ n = 0xF1 then some 2
  else none

/-- Lowest level that may write a CSR; 3 where none may. -/
def csrWriteLevel (n : Nat) : Nat :=
  if n ≤ 2 ∨ (0x20 ≤ n ∧ n ≤ 0x25) ∨ (0x40 ≤ n ∧ n ≤ 0x4F) ∨ n = 0x82 then 0
  else if (6 ≤ n ∧ n ≤ 9) ∨ (0x10 ≤ n ∧ n ≤ 0x13) ∨ n = 0x30 ∨ n = 0x81 ∨ n = 0x83 ∨ n = 0x84 ∨ n = 0xF0 then 1
  else if (0x18 ≤ n ∧ n ≤ 0x1D) ∨ n = 0x31 ∨ n = 0xF1 then 2
  else 3

/-- RFT_TASK. -/
def Core.taskWord (k : Core) : Nat :=
  bitNat k.taskValid * 2 ^ 63 + bitNat k.taskAbandoned * 2 ^ 62 + k.taskAttempt.toNat * 2 ^ 24 + k.taskIndex.toNat

/-- RFT_STATUS. -/
def Core.status (k : Core) : Nat := k.level * 256 + bitNat k.ieK * 32 + bitNat k.ieS * 16 + bitNat k.ov

/-- RFT_DWL_BUSY: slots 2 (DIV) and 6 (HIV). -/
def Core.dwlBusy (k : Core) : Nat :=
  bitNat (!k.divUnit.isEmpty) * 4 + bitNat (!k.hivUnit.isEmpty) * 64 + bitNat (decide (k.divUnit.length > 1)) * 2 ^ 18 +
    bitNat (decide (k.hivUnit.length > 1)) * 2 ^ 22

/-- A CSR as read. -/
def Core.csr (k : Core) (n : Nat) : Nat :=
  match n with
  | 0x00 => k.status
  | 0x01 => k.circ.toNat
  | 0x02 => bitNat (decide (k.holdLeft > 0)) * 2 ^ 31 + bitNat k.holdDeferred.isSome * 2 ^ 30 + k.holdLeft % 512
  | 0x03 => k.taskWord
  | 0x04 => k.cycle.toNat
  | 0x05 => k.instret.toNat
  | 0x06 => k.timer.toNat
  | 0x07 => k.intPend.toNat
  | 0x08 => k.intEn.toNat
  | 0x09 => k.storeErr.toNat
  | 0x10 => k.evecS.toNat
  | 0x11 => k.epcS.toNat
  | 0x12 => k.ecauseS.toNat
  | 0x13 => k.evalS.toNat
  | 0x18 => k.evecK.toNat
  | 0x19 => k.epcK.toNat
  | 0x1A => k.ecauseK.toNat
  | 0x1B => k.evalK.toNat
  | 0x1C => k.excDeleg.toNat
  | 0x1D => k.intDeleg.toNat
  | 0x20 => (k.lc.getD 0 0).toNat
  | 0x21 => (k.lc.getD 1 0).toNat
  | 0x22 => (k.ls.getD 0 0).toNat
  | 0x23 => (k.ls.getD 1 0).toNat
  | 0x24 => (k.le.getD 0 0).toNat
  | 0x25 => (k.le.getD 1 0).toNat
  | 0x30 => k.ovl.toNat
  | 0x31 => k.progTag.toNat
  | 0x80 => 1024
  | 0x81 => k.vctl.toNat
  | 0x82 => k.vfault.toNat
  | 0x83 => k.dwlEn.toNat
  | 0x84 => k.dwlSquash.toNat
  | 0x85 => k.dwlBusy
  | 0xF0 => k.scratchS.toNat
  | 0xF1 => k.scratchK.toNat
  | n => if n < 0x48 then (k.cb.getD (n - 0x40) 0).toNat else (k.cl.getD (n - 0x48) 0).toNat

/-- RFT_MEM_HOLD written (R122): a window starts, or is deferred while one runs or within 32 cycles of its end. -/
def Core.holdWrite (k : Core) (n : Nat) : Core :=
  if n = 0 ∨ n > 256 then k
  else if decide (k.holdLeft > 0) || (match k.holdEnded with | some e => decide (k.cycle.toNat < e + 32) | none => false) then
    { k with holdDeferred := some n }
  else { k with holdLeft := n }

/-- A CSR as written at the core's level. [log 55] -/
def Core.csrWrite (k : Core) (n v : Nat) : Core :=
  let w := BitVec.ofNat 64 v
  match n with
  | 0x00 =>
    let k := { k with ov := bitOf v 0 }
    let k := if k.level ≥ 1 then { k with ieS := bitOf v 4 } else k
    if k.level = 2 then { k with ieK := bitOf v 5 } else k
  | 0x01 => { k with circ := BitVec.ofNat 8 v }
  | 0x02 => k.holdWrite (bitsOf v 8 0)
  | 0x06 =>
    let k := { k with timer := w }
    if w ≤ k.cycle then k.pend 1 else k
  | 0x07 =>
    let p := k.intPend.toNat
    let bit (i : Nat) : Nat := bitNat (bitOf p i && !bitOf v i) * 2 ^ i
    let b4 := if k.level = 2 then bit 4 else bitNat (bitOf p 4) * 16
    { k with intPend := BitVec.ofNat 5 (p % 2 + bit 1 + bit 2 + bitNat (bitOf v 3) * 8 + b4) }
  | 0x08 => { k with intEn := BitVec.ofNat 5 v }
  | 0x09 => if bitOf v 63 then k else { k with storeErr := BitVec.ofNat 64 (k.storeErr.toNat % 2 ^ 48) }
  | 0x10 => { k with evecS := BitVec.ofNat 64 (v % 0x20000 / 2048 * 2048) }
  | 0x11 => { k with epcS := w }
  | 0x12 => { k with ecauseS := BitVec.ofNat 64 (Nat.land v ecauseMask) }
  | 0x13 => { k with evalS := w }
  | 0x18 => { k with evecK := BitVec.ofNat 64 (v % 0x20000 / 2048 * 2048) }
  | 0x19 => { k with epcK := w }
  | 0x1A => { k with ecauseK := BitVec.ofNat 64 (Nat.land v ecauseMask) }
  | 0x1B => { k with evalK := w }
  | 0x1C => { k with excDeleg := BitVec.ofNat 64 (Nat.land v delegMask) }
  | 0x1D => { k with intDeleg := BitVec.ofNat 5 v }
  | 0x20 => { k with lc := k.lc.setIfInBounds 0 (BitVec.ofNat 16 v) }
  | 0x21 => { k with lc := k.lc.setIfInBounds 1 (BitVec.ofNat 16 v) }
  | 0x22 => { k with ls := k.ls.setIfInBounds 0 (BitVec.ofNat 17 v) }
  | 0x23 => { k with ls := k.ls.setIfInBounds 1 (BitVec.ofNat 17 v) }
  | 0x24 => { k with le := k.le.setIfInBounds 0 (BitVec.ofNat 17 v) }
  | 0x25 => { k with le := k.le.setIfInBounds 1 (BitVec.ofNat 17 v) }
  | 0x30 => { k with ovl := BitVec.ofNat 64 (Nat.land v 0x1F1F) }
  | 0x31 => { k with progTag := w }
  | 0x81 => { k with vctl := if k.level = 2 then BitVec.ofNat 3 v else BitVec.ofNat 3 (Nat.land v 6 + k.vctl.toNat % 2) }
  | 0x82 => if bitOf v 63 then k else { k with vfault := 0 }
  | 0x83 =>
    let e := k.dwlEn.toNat
    let kk := if k.level = 2 then Nat.land (bitsOf v 47 32) 0x7FF else bitsOf e 47 32
    let ss := if k.level = 2 then Nat.land (bitsOf v 31 16) 0x7FF else bitsOf e 31 16
    { k with dwlEn := BitVec.ofNat 64 (kk * 2 ^ 32 + ss * 2 ^ 16 + Nat.land (bitsOf v 15 0) ss) }
  | 0x84 => if v / 2 ^ 32 = 0 then { k with dwlSquash := 0 } else k
  | 0xF0 => { k with scratchS := w }
  | 0xF1 => { k with scratchK := w }
  | n =>
    if 0x40 ≤ n ∧ n < 0x48 then { k with cb := k.cb.setIfInBounds (n - 0x40) (BitVec.ofNat 48 v) }
    else if 0x48 ≤ n ∧ n < 0x50 then { k with cl := k.cl.setIfInBounds (n - 0x48) (BitVec.ofNat 20 v) }
    else k

/-! ## Cycles and the hold window (R122) -/

/-- Core cycles pass: RFT_CYCLE counts, a hold window runs down, and the timer's comparison may become true. [log 51] -/
def Core.cycles (k : Core) (n : Nat) : Core :=
  let c := k.cycle + BitVec.ofNat 64 n
  let k := if k.holdLeft = 0 then k
    else if k.holdLeft ≤ n then { k with holdLeft := 0, holdEnded := some (k.cycle.toNat + k.holdLeft) }
    else { k with holdLeft := k.holdLeft - n }
  let k := if k.cycle < k.timer ∧ k.timer ≤ c then k.pend 1 else k
  { k with cycle := c }

/-- The hold window expires (R122). -/
def Core.holdEnds (k : Core) : Core := k.cycles k.holdLeft

/-- A deferred window starts 32 cycles after the previous one ended. -/
def Core.holdStarts (k : Core) : Core :=
  match k.holdDeferred, k.holdEnded with
  | some n, some e =>
    if k.holdLeft > 0 then k
    else { k.cycles (e + 32 - k.cycle.toNat) with holdLeft := n, holdDeferred := none }
  | some n, none => if k.holdLeft > 0 then k else { k with holdLeft := n, holdDeferred := none }
  | none, _ => k

/-- RFT_CYCLE reaches RFT_TIMER. -/
def Core.timerReached (k : Core) : Core :=
  if k.cycle < k.timer then k.cycles (k.timer.toNat - k.cycle.toNat) else k

/-! ## Store errors (R136) -/

/-- A permitted store was answered with an error. -/
def State.storeFailed (s : State) (c addr : Nat) : State :=
  let k := s.core c
  let e := k.storeErr.toNat
  let w := if bitOf e 63 then Nat.lor e (2 ^ 62) else 2 ^ 63 + Nat.land e (2 ^ 62 + 2 ^ 61) + addr % 2 ^ 48
  let w := if k.taskValid then Nat.lor w (2 ^ 61) else w
  let s := s.setCore c ({ k with storeErr := BitVec.ofNat 64 w }.pend 2)
  ((s.bump (RFT_STORE_ERR_CNT c)).capture (rftPage c) (s.coreBay c) 0x0003 addr).raise (rftPage c) 2

/-! ## Non-pipelined Dowels (R162) -/

def Core.writeLater (k : Core) (w : Bool × Nat × BitVec 1024) : Core :=
  if w.1 then k.setV w.2.1 w.2.2.toNat else k.setG w.2.1 w.2.2.toNat

/-- The unit's oldest operation ends: time passes to its end, and its result is written. -/
def Core.dowelEnds (k : Core) (hiv : Bool) : Core :=
  match if hiv then k.hivUnit else k.divUnit with
  | [] => k
  | j :: r =>
    let k := k.cycles (j.due - k.cycle.toNat)
    let k := if hiv then { k with hivUnit := r } else { k with divUnit := r }
    if j.squashed then k else j.writes.foldl Core.writeLater k

/-- Registers whose result is still on its way. -/
def Core.pendingRegs (k : Core) : List Nat :=
  (k.divUnit ++ k.hivUnit).flatMap fun j => if j.squashed then [] else j.writes.map fun w => if w.1 then regV w.2.1 else regG w.2.1

/-- A packet that reads or writes a pending register waits until the results are written. -/
def Core.drainFor (k : Core) (regs : List Nat) : Core :=
  let hit (l : List DowelJob) : Bool :=
    l.any fun j => !j.squashed && j.writes.any fun w => regs.contains (if w.1 then regV w.2.1 else regG w.2.1)
  let go (hiv : Bool) (k : Core) : Core :=
    let once (k : Core) : Core := if hit (if hiv then k.hivUnit else k.divUnit) then k.dowelEnds hiv else k
    once (once k)
  go true (go false k)

/-- The unit has no place for an operation: its wait slot is taken, or it runs a squashed one (R162, R163). -/
def Core.dowelFull (k : Core) (hiv : Bool) : Bool :=
  let l := if hiv then k.hivUnit else k.divUnit
  decide (l.length ≥ 2) || l.any DowelJob.squashed

/-- An operation enters a unit: at once, or in the wait slot, or once the unit has a place. -/
def Core.dowelStarts (k : Core) (hiv : Bool) (lat : Nat) (squashed : Bool) (ws : List (Bool × Nat × BitVec 1024)) : Core :=
  let k := if k.dowelFull hiv then k.dowelEnds hiv else k
  let k := if k.dowelFull hiv then k.dowelEnds hiv else k
  let l := if hiv then k.hivUnit else k.divUnit
  let start := match l.getLast? with | some j => max j.due k.cycle.toNat | none => k.cycle.toNat
  let l := l ++ [⟨start + lat, squashed, ws⟩]
  if hiv then { k with hivUnit := l } else { k with divUnit := l }

/-- RFT_DWL_SQUASH counts squashed operations and the cycles spent on them (R163). -/
def Core.squash (k : Core) (n cyc : Nat) : Core :=
  let w := k.dwlSquash.toNat
  { k with dwlSquash := BitVec.ofNat 64 (min 0xFFFFFFFF (w / 2 ^ 32 + cyc) * 2 ^ 32 + min 0xFFFFFFFF (w % 2 ^ 32 + n)) }

/-! ## Tasks (R131, R132) -/

/-- Window of RFT_OVL in program memory: base and size in bytes. -/
def Core.overlay (k : Core) : Nat × Nat :=
  let size := bitsOf k.ovl.toNat 12 8
  let base := bitsOf k.ovl.toNat 4 0
  if base + size > 30 then (base * 4096, 0) else (base * 4096, size * 4096)

/-- Bytes written to a core's program memory by a loader. -/
def State.loadProgram (s : State) (c off : Nat) (bs : List Byte) : State :=
  let key := progBase + 0x20000 * c + off
  { s.store key bs with progErr := s.progErr.filter fun e => !decide (key ≤ e.1 ∧ e.1 < key + bs.length) }

/-- The program image of a task (R132): the fault detail where the task ends without running, and the state. Words 0 and 1 alone
of its job descriptor are read. -/
def State.loadImage (s : State) (c bay job : Nat) : Option Nat × State :=
  match s.memRead (trussFor bay) job 16 with
  | (.error _, s) => (some 2, s)
  | (.ok bs, s) =>
    let tag := bitsOf (wordAt bs 0) 63 48
    let addr := bitsOf (wordAt bs 0) 47 0
    let len := bitsOf (wordAt bs 1) 17 0
    let k := s.core c
    if tag = 0 then (none, s)
    else if len < 16 ∨ len > 122880 ∨ len % 16 ≠ 0 ∨ k.overlay.2 < len then (some 3, s)
    else if tag = k.progTag.toNat then (none, s)
    else match s.memRead (trussFor bay) addr len with
      | (.error _, s) => (some 2, s.setCore c { s.core c with progTag := 0 })
      | (.ok img, s) =>
        let s := s.loadProgram c k.overlay.1 img
        (none, (s.setCore c { s.core c with progTag := BitVec.ofNat 64 tag }).bump (RFT_IMAGE_CNT c))

/-- The four registers of R131. -/
def taskRegs (f : Frame) (t : Task) : List Nat :=
  [t.idx % 2 ^ 24 + t.attempt % 16 * 2 ^ 24 + t.aff * 2 ^ 32 + f.carrier * 2 ^ 48, t.job, t.buf,
   t.dlSlot + t.dlSym * 2 ^ 32 + t.nIn * 2 ^ 36 + t.nOut * 2 ^ 40]

/-- A task is handed to an asking core, image first (R89, R131, R132): the values of its registers where a hand-off
took place. A task whose image fails ends without running, and the core goes on asking. -/
def State.handToCore (s : State) (c : Nat) : Option (List Nat) × State :=
  match s.handOff c with
  | (none, s) => (none, s)
  | (some (f, i, t), s) =>
    match s.loadImage c f.bay t.job with
    | (some d, s) =>
      let s := { s with truss := { s.truss with holding := tdel s.truss.holding c, asking := addOnce s.truss.asking c } }
      match s.frame? f.id with
      | some g => (none, s.settle { g with tasks := g.tasks.set i { t with st := .done, status := 2, detail := d } })
      | none => (none, s)
    | (none, s) =>
      let k := s.core c
      let s := s.setCore c { k with
        taskValid := true, taskAbandoned := false, taskAttempt := BitVec.ofNat 4 t.attempt
        taskIndex := BitVec.ofNat 24 t.idx, abandonPending := none
        storeErr := BitVec.ofNat 64 (k.storeErr.toNat % 2 ^ 61 + k.storeErr.toNat / 2 ^ 62 * 2 ^ 62) }
      (some (taskRegs f t), s.bump (BNT_TAKE_CNT (c / 9)))

/-! ## Running, halting and starting (R142, R143) -/

/-- The core carries out instructions: BOOT or RUN, awake. -/
def State.executes (s : State) (c : Nat) : Bool :=
  (s.coreSt c == 1 || s.coreSt c == 2) && (s.core c).sleep == .no && s.islandUp (8 + c / 9)

/-- The core stops at a packet boundary (R142). A TAKE or ENQ asleep is broken as an interrupt would break it; an ENQ whose Frame
the Truss has taken is not. [log 57] -/
def State.haltNow (s : State) (c : Nat) : State :=
  let st := s.coreSt c
  if st = 1 ∨ st = 2 ∨ st = 3 then
    let k := s.core c
    let stays : Bool := match k.sleep with
      | .tend _ _ => true
      | .enq _ => s.truss.onChip.any fun e => e.src == .core (Fin.ofNat 72 c) && e.taken
      | _ => false
    if !k.pkt.isEmpty || stays then s
    else
      let s := match k.sleep with | .take _ => s.breakStall c | .enq _ => s.breakStall c | _ => s
      let k := s.core c
      let s := s.setCore c ({ k with haltedFrom := if st = 3 then 2 else st }.pend 4)
      ((s.setCoreSt c 4).setFlag (RFT_RUN c) 31 true).raise (rftPage c) 0
  else s

/-- The kernel loads the S image from RFT_BOOT and enters it at S (R143). RFT_EVEC_S is set to a value the rule does not
give. An image that cannot be read leaves the core waiting at K. [log 58] -/
def State.enterImage (s : State) (c : Nat) : State :=
  let len := s.fld (RFT_BOOT_LEN c) 16 0
  let addr := s.wide (RFT_BOOT_LO c) / 16 * 16
  match s.memRead (s.coreAgent c) addr (min len 122880) with
  | (.error _, s) => s
  | (.ok bs, s) =>
    let s := s.loadProgram c 0 bs
    let (f, s) := s.fresh
    let k := s.core c
    let s := s.setCore c { k with
      evecS := BitVec.ofNat 64 (f % 0x20000 / 2048 * 2048), priv := 1, pkt := [], sleep := .no, held := [], heldLen := 0
      pc := BitVec.ofNat 48 (s.fld (RFT_BOOT_ENT c) 16 2 * 4) }
    s.setCoreSt c 2

/-- A write of RFT_RUN, once stored (R142, R143). A kernel that waits for run starts its load at once, or where the core is halted
when it resumes. [log 57] -/
def State.runWrite (s : State) (c : Nat) : State :=
  if s.flag (RFT_RUN c) 1 then s.haltNow c
  else
    let s := if s.coreSt c = 4 then (s.setCoreSt c (s.core c).haltedFrom).setFlag (RFT_RUN c) 31 false else s
    if s.flag (RFT_RUN c) 0 ∧ s.coreSt c = 1 ∧ (s.core c).sleep = .wait ∧ (s.core c).level = 2 then s.enterImage c else s

/-- A packet boundary: a halt that has been written is taken (R142). -/
def State.boundary (s : State) (c : Nat) : State := if s.flag (RFT_RUN c) 1 then s.haltNow c else s

/-- A core is restarted by a reset: its memories are wiped, its registers take their Cold values, and it is OFF
(R141, R143). What the Truss holds of it is the caller's. -/
def State.coreOff (s : State) (c : Nat) : State :=
  let s := (s.wipeRange (dataBase + 0x80000 * c) 0x80000).wipeRange (progBase + 0x20000 * c) 0x20000
  let s := { s with truss := { s.truss with asking := s.truss.asking.filter (· != c) } }.dropSubmission c
  (s.setCore c Core.cold).setCoreSt c 0

/-- The Larvia kernel, which the spec does not give. -/
abbrev uKernel : Nat := 85
def kernelBytes : List Byte := (List.range 0x2000).map fun i => BitVec.ofNat 8 (Config.unit uKernel [i])

/-- The Plate loads the kernel into its region, and a core that is OFF starts: at K with state BOOT, then in the S image where run
is set, else waiting (R143). The kernel's bytes and its entry address are free values. [log 49] -/
def State.coreStart (s : State) (c : Nat) : State :=
  if s.coreSt c ≠ 0 ∨ !s.islandUp (8 + c / 9) then s
  else
    let s := (s.coreOff c).loadProgram c 0x1E000 kernelBytes
    let (f, s) := s.fresh
    let s := s.setCore c { Core.cold with pc := BitVec.ofNat 48 (0x1E000 + f % 2048 * 4), sleep := .wait }
    let s := s.setCoreSt c 1
    if s.flag (RFT_RUN c) 0 then s.enterImage c else s

end Sys2Proof.Machine
end

