-- ==== Sys2Proof/Machine/Flags.lean ====
section
/-! DEFINITION. Lanes, saturation and the ov flag (R128, R129), complex samples, and the entry an instruction makes in its
packet. -/

namespace Sys2Proof.Machine

/-! ## Lanes -/

/-- Lane `i` of `w` bits. -/
def lane (w v i : Nat) : Nat := v / 2 ^ (w * i) % 2 ^ w

/-- Lane `i` as a signed number. -/
def slane (w v i : Nat) : Int := sgn w (lane w v i)

/-- Lanes joined, lane 0 lowest. -/
def joinLanes (w : Nat) : List Nat → Nat
  | [] => 0
  | x :: r => x % 2 ^ w + 2 ^ w * joinLanes w r

/-- A result in a `w`-bit lane (R129): with s clamped to the signed range, else its low bits; and whether ov sets. -/
def satLane (w : Nat) (s : Bool) (x : Int) : Nat × Bool :=
  if s then (wrap w (satS w x), false) else (wrap w x, sgn w (wrap w x) != x)

/-- Results of several lanes, joined, and whether any sets ov. -/
def satLanes (w : Nat) (s : Bool) (xs : List Int) : Nat × Bool :=
  let r := xs.map (satLane w s)
  (joinLanes w (r.map Prod.fst), r.any Prod.snd)

/-- I and Q of a complex value whose parts have `w` bits. -/
def cre (w v : Nat) : Int := sgn w v
def cim (w v : Nat) : Int := sgn w (v / 2 ^ w)

/-- Product of complex numbers. -/
def cmulI (a b : Int × Int) : Int × Int := (a.1 * b.1 - a.2 * b.2, a.1 * b.2 + a.2 * b.1)

def conjI (c : Bool) (a : Int × Int) : Int × Int := if c then (a.1, -a.2) else a

/-! ## Entries of a packet -/

/-- Cause classes in the order of R139; the slot is added at issue. -/
def illegal : Cause := ⟨300, 0x01, none, none, none⟩
def privCause : Cause := ⟨310, 0x03, none, none, none⟩
def vecOff : Cause := ⟨320, 0x10, none, none, none⟩
def dowelOff : Cause := ⟨330, 0x08, none, none, none⟩
/-- [log 41] -/
def noTask : Cause := ⟨340, 0x0A, none, none, none⟩
def alignCause (a : Nat) : Cause := ⟨400, 0x04, none, none, some a⟩
def circCause (d : Nat) : Cause := ⟨401, 0x09, some d, none, none⟩
def accessCause (a : Nat) : Cause := ⟨402, 0x05, none, none, some a⟩
def busCause (a : Nat) : Cause := ⟨403, 0x06, none, none, some a⟩
def eccCause (a : Nat) : Cause := ⟨404, 0x07, none, none, some a⟩

/-- Uses of a register (R118): an operand, store data, an address, a branch condition, an accumulator. -/
abbrev useOp : Nat := 0
abbrev useData : Nat := 1
abbrev useAddr : Nat := 2
abbrev useCond : Nat := 3
abbrev useAcc : Nat := 4

/-- Producer classes (R118, R149): simple ALU, multiply, load, post-modify, MTC to circular registers, multiply into an
accumulator; a Dowel of latency L is 10 + L. -/
abbrev clsAlu : Nat := 0
abbrev clsMul : Nat := 1
abbrev clsLoad : Nat := 2
abbrev clsPost : Nat := 3
abbrev clsMtc : Nat := 4
abbrev clsAccu : Nat := 5

def onBad (bad : Bool) (c : Cause) : List Cause := if bad then [c] else []

def ovEff (b : Bool) : List Eff := if b then [.setOv] else []

/-- An S-class entry. -/
def sEntry (causes : List Cause) (effs : List Eff) (writes : List Nat) (uses : List (Nat × Nat)) (cls : Nat) : PktEntry :=
  ⟨.s, causes, effs, writes, uses, cls, none, 0⟩

/-- One g register written by an S-class instruction. -/
def gEntry (rd : Nat) (causes : List Cause) (r : Nat × Bool) (uses : List Nat) (cls : Nat) : PktEntry :=
  sEntry causes (.setG rd (BitVec.ofNat 64 r.1) :: ovEff r.2) [regG rd] (uses.map fun u => (regG u, useOp)) cls

/-- A g pair written by an S-class instruction: the low half in the even register (R113). -/
def pairEntry (rd : Nat) (causes : List Cause) (v : Nat) (ov : Bool) (uses : List (Nat × Nat)) (cls : Nat) : PktEntry :=
  sEntry (onBad (rd % 2 = 1) illegal ++ causes)
    ([.setG rd (BitVec.ofNat 64 v), .setG (rd + 1) (BitVec.ofNat 64 (v / 2 ^ 64))] ++ ovEff ov)
    [regG rd, regG (rd + 1)] uses cls

/-- The value of a g pair. -/
def Core.pair (k : Core) (r : Nat) : Nat := k.G r + 2 ^ 64 * k.G (r + 1)

end Sys2Proof.Machine
end

