-- ==== Sys2Proof/Machine/Modulation.lean ====
section
/-! DEFINITION. The constellations of R243, the exact metric of R247, and the test for a positive definite matrix,
shared by the Dowels, the engines and AIR. -/

namespace Sys2Proof.Machine

/-- Level of an axis from its bits (R243). -/
def axisLevel : List Nat → Int
  | [] => 0
  | [x] => 1 - 2 * (x : Int)
  | x :: xs => (1 - 2 * (x : Int)) * ((2 ^ xs.length : Nat) - axisLevel xs)

/-- Bits of a symbol of the code. -/
def codeQm (code : Nat) : Nat := if code ≤ 12 then code else if code = 13 then 1 else 0

/-- Levels of both axes from a symbol's bits, b_0 first. -/
def codeLevels (code : Nat) (bits : List Nat) : Int × Int :=
  if code = 1 ∨ code = 13 then let l := axisLevel (bits.take 1); (l, l)
  else
    let at_ (odd : Nat) : List Nat := (List.range bits.length).filterMap fun i => if i % 2 = odd then bits[i]? else none
    (axisLevel (at_ 0), axisLevel (at_ 1))

/-- Low `n` bits of a number, most significant first. -/
def bitsMsb (n v : Nat) : List Nat := (List.range n).map fun i => v / 2 ^ (n - 1 - i) % 2

/-- Least of a list, where it has one. -/
def least : List Int → Int
  | [] => 0
  | x :: xs => xs.foldl min x

/-- 256 × (D1 − D0) for one axis of `n` bits, its bit `i`: a point's part is lev × step / 16. -/
def axisDelta (n i step : Nat) (y : Int) : Int :=
  let dist (b : Nat) : Int := least (((List.range (2 ^ n)).filterMap fun v =>
    let bs := bitsMsb n v
    if bs.getD i 0 = b then some (axisLevel bs) else none).map fun l =>
      (16 * y - l * (step : Int)) * (16 * y - l * (step : Int)))
  dist 1 - dist 0

/-- 256 × (D1 − D0) of R247 for bit `n` of a received value. -/
def codeDelta (code n step : Nat) (y : Int × Int) : Int :=
  if code = 1 ∨ code = 13 then axisDelta 1 0 step y.1 + axisDelta 1 0 step y.2
  else if n % 2 = 0 then axisDelta ((code + 1) / 2) (n / 2) step y.1
  else axisDelta (code / 2) (n / 2) step y.2

/-- An LLR saturated to ±127, and whether it was (R203). -/
def llr127 (x : Int) : Int × Bool := if x > 127 then (127, true) else if x < -127 then (-127, true) else (x, false)

/-- The LLR of R247 before its saturation: scale s in units of 1/16, gain g in Q8.8. -/
def rawLlr (code n step : Nat) (y : Int × Int) (scale gain : Nat) : Int :=
  rnd (codeDelta code n step y * ((scale * gain : Nat) : Int)) 44

/-- One step of fraction-free elimination on the rows below a pivot: `p` and the previous pivot are leading minors, so
the division is exact. -/
def eliminate (prev p : Int) (row r : List (Int × Int)) : List (Int × Int) :=
  let h := r.getD 0 (0, 0)
  (List.range (r.length - 1)).map fun j =>
    let a := r.getD (j + 1) (0, 0)
    let m := cmulI h (row.getD (j + 1) (0, 0))
    ((p * a.1 - m.1) / prev, (p * a.2 - m.2) / prev)

/-- Every leading minor of a Hermitian matrix is positive. -/
def positiveFrom : Nat → Int → List (List (Int × Int)) → Bool
  | 0, _, _ => true
  | _, _, [] => true
  | n + 1, prev, row :: rest =>
    let p := (row.getD 0 (0, 0)).1
    decide (p > 0) && positiveFrom n p (rest.map (eliminate prev p row))

def positive (m : List (List (Int × Int))) : Bool := positiveFrom m.length 1 m

/-- AIR_STEP at cold reset (R243). -/
def coldStep (code : Nat) : Nat :=
  [0, 46341, 46341, 26755, 20724, 12853, 10112, 6365, 5026, 3175, 2510, 1587, 1254, 46341].getD code 0

end Sys2Proof.Machine
end

