-- ==== Sys2Proof/Machine/Operands.lean ====
section
/-! DEFINITION. Addresses of M-format instructions (R117), circular mode (R124, R125), alignment (R126, R152) and the
ranges each level may use (R127). -/

namespace Sys2Proof.Machine

/-- An address as an M-format mode gives it: the address used, aN afterwards, a failed circular check, and the buffer
whose end the access wraps at. -/
structure Addr where
  at_ : Nat
  post : Option Nat
  circ : Option Nat
  wrapIn : Option (Nat × Nat)
  deriving DecidableEq, Repr

/-- aN is in circular mode. -/
def Core.circular (k : Core) (an : Nat) : Bool := decide (an < 8) && k.circ.getLsbD an

/-- aN + inc, wrapped in circular mode (R124): the failed check's detail, and the new value. -/
def Core.postMod (k : Core) (an : Nat) (inc : Int) : Option Nat × Nat :=
  let a := k.A an
  let plain := wrap 48 (a + inc)
  if !k.circular an then (none, plain)
  else
    let cb := (k.cb.getD an 0).toNat
    let cl := (k.cl.getD an 0).toNat
    if cl < 16 ∨ cl > 524288 then (some 1, plain)
    else if a < cb ∨ a ≥ cb + cl then (some 2, plain)
    else if inc > cl ∨ inc < -(cl : Int) then (some 3, plain)
    else
      let n : Int := a + inc
      (none, wrap 48 (if n ≥ (cb + cl : Nat) then n - cl else if n < cb then n + cl else n))

/-- The address of an M-format mode: `uimm` and `simm` are the scaled immediate, unsigned and signed, `idx` the g
index. -/
def Core.address (k : Core) (an mode : Nat) (uimm : Nat) (simm : Int) (idx : Nat) : Addr :=
  let a := k.A an
  let buf := if k.circular an then some ((k.cb.getD an 0).toNat, (k.cl.getD an 0).toNat) else none
  match mode with
  | 0 => ⟨wrap 48 (a + uimm), none, none, none⟩
  | 1 => ⟨wrap 48 (a + (k.G idx : Int)), none, none, none⟩
  | 2 => let p := k.postMod an simm; ⟨a, some p.2, p.1, buf⟩
  | 3 => let p := k.postMod an (sgn 64 (k.G idx)); ⟨a, some p.2, p.1, buf⟩
  | _ => let p := k.postMod an simm; ⟨p.2, some p.2, p.1, buf⟩

/-- The (address, length) chunks of `n` bytes that lie `off` bytes after an access's start: bytes past the end of a
circular buffer come from its beginning (R125). -/
def Addr.chunks (x : Addr) (off n : Nat) : List (Nat × Nat) :=
  match x.wrapIn with
  | none => [((x.at_ + off) % 2 ^ 48, n)]
  | some (cb, cl) =>
    if x.at_ < cb ∨ x.at_ + off + n ≤ cb + cl ∨ cl < 16 then [((x.at_ + off) % 2 ^ 48, n)]
    else
      let s := (x.at_ - cb + off) % cl
      if s + n ≤ cl then [(cb + s, n)] else [(cb + s, cl - s), (cb, n - (cl - s))]

/-- The access runs past the end of its circular buffer. -/
def Addr.straddles (x : Addr) (n : Nat) : Bool :=
  match x.wrapIn with
  | none => false
  | some (cb, cl) => decide (x.at_ + n > cb + cl)

/-- Half-slots of a scalar access: one more where it wraps (R125). -/
def Addr.halfSlots (x : Addr) (n : Nat) : Nat := 1 + bitNat (x.straddles n)

/-- The level may use the range, and the device address map holds it (R127). -/
def mayUse (level a n : Nat) : Bool :=
  let inR (lo len : Nat) : Bool := decide (lo ≤ a ∧ a + n ≤ lo + len)
  inR 0 0x80000 || (level ≥ 1 && inR 0x100000 0x1E000) || (level ≥ 2 && inR 0x100000 0x20000) ||
    inR loftBase 0x3000000 || inR bufBase 0xC00000 || inR dataBase (72 * 0x80000) ||
    inR (winBase + 0x1000000) 0x400000 || (level ≥ 1 && inR winBase 0x4000000) ||
    inR dramBase 0x1000000000 || inR hostBase 0x400000000000

/-- The AG causes of an access made of chunks: alignment of the address used, the circular checks, and the ranges. -/
def Core.agCauses (k : Core) (x : Addr) (align : Nat) (chunks : List (Nat × Nat)) : List Cause :=
  onBad (x.at_ % align ≠ 0) (alignCause x.at_) ++
  (match x.circ with | some d => [circCause d] | none => []) ++
  (match chunks.find? fun c => !mayUse k.level c.1 c.2 with | some c => [accessCause c.1] | none => [])

/-- Registers an M-format address uses. -/
def Core.addrUses (k : Core) (an mode idx : Nat) : List (Nat × Nat) :=
  (regA an, useAddr) :: (if mode = 1 ∨ mode = 3 then [(regG idx, useAddr)] else []) ++
    (if k.circular an then [(regCirc, useAddr), (regCb an, useAddr), (regCl an, useAddr)] else [])

end Sys2Proof.Machine
end

