-- ==== Sys2Proof/Machine/Scalar.lean ====
section
/-! DEFINITION. What scalar instructions do to registers, by shape (R130): lane arithmetic, pairs, shifts, compares,
complex products, branches, loops, tasks, control registers, loads and stores. -/

namespace Sys2Proof.Machine

/-! ## Arithmetic -/

/-- `n` lanes of `w` bits of ga and gb through an operation, under R129. -/
def laneOp (w n : Nat) (op : Int → Int → Int) (f : RForm) (cls : Nat) (k : Core) : PktEntry :=
  let a := k.G f.ra.toNat
  let b := k.G f.rb.toNat
  gEntry f.rd.toNat [] (satLanes w f.s ((List.range n).map fun i => op (slane w a i) (slane w b i)))
    [f.ra.toNat, f.rb.toNat] cls

/-- A g register computed from ga and gb, no flag touched. -/
def bitOp (op : Nat → Nat → Nat) (f : RForm) (cls : Nat) (k : Core) : PktEntry :=
  gEntry f.rd.toNat [] (op (k.G f.ra.toNat) (k.G f.rb.toNat), false) [f.ra.toNat, f.rb.toNat] cls

/-- 128-bit arithmetic on pairs. -/
def pairOp (op : Int → Int → Int) (f : RForm) (k : Core) : PktEntry :=
  let a := f.ra.toNat
  let b := f.rb.toNat
  let r := satLane 128 f.s (op (sgn 128 (k.pair a)) (sgn 128 (k.pair b)))
  pairEntry f.rd.toNat (onBad (a % 2 = 1 ∨ b % 2 = 1) illegal) r.1 r.2
    ([a, a + 1, b, b + 1].map fun u => (regG u, useOp)) clsAlu

/-- Shift left under R129: an exact product, saturated or kept in its low bits. -/
def shlValue (s : Bool) (a n : Nat) : Nat × Bool := satLane 64 s (sgn 64 a * (2 ^ n : Nat))

def sarValue (a n : Nat) : Nat := wrap 64 (sgn 64 a / (2 ^ n : Nat))

/-- CMAC and CMUL: the products of two CI16 values added to an accumulator pair, or to 0 (R130). -/
def cmacOp (clear : Bool) (f : RForm) (k : Core) : PktEntry :=
  let d := f.rd.toNat
  let a := k.G f.ra.toNat
  let b := k.G f.rb.toNat
  let p := cmulI (cre 16 a, cim 16 a) (conjI f.cj (cre 16 b, cim 16 b))
  let acc := if clear then (0, 0) else (sgn 64 (k.G d), sgn 64 (k.G (d + 1)))
  let re := satLane 64 f.s (acc.1 + p.1)
  let im := satLane 64 f.s (acc.2 + p.2)
  pairEntry d [] (re.1 + 2 ^ 64 * im.1) (re.2 || im.2)
    ([(regG f.ra.toNat, useOp), (regG f.rb.toNat, useOp)] ++
      if clear then [] else [(regG d, useAcc), (regG (d + 1), useAcc)]) clsAccu

/-- NARROW: a complex pair rounded and saturated to CI16; the shift is the rb field. [log 46] -/
def narrowOp (f : RForm) (k : Core) : PktEntry :=
  let a := f.ra.toNat
  let n := f.rb.toNat
  let r := satLanes 16 f.s [rnd (sgn 64 (k.G a)) n, rnd (sgn 64 (k.G (a + 1))) n]
  gEntry f.rd.toNat (onBad (a % 2 = 1) illegal) r [a, a + 1] clsAlu

/-- Conditions of CMP.cc. -/
def compare (cc a b : Nat) : Bool :=
  match cc with
  | 0 => a == b
  | 1 => a != b
  | 2 => decide (sgn 64 a < sgn 64 b)
  | 3 => decide (sgn 64 a ≤ sgn 64 b)
  | 4 => decide (a < b)
  | _ => decide (a ≤ b)

/-- An I-format result from ga and the immediate. -/
def immOp (r : Nat → Int → Nat × Bool) (f : IForm) (k : Core) : PktEntry :=
  gEntry f.rd.toNat [] (r (k.G f.ra.toNat) (sgn 12 f.imm.toNat)) [f.ra.toNat] clsAlu

/-! ## Branches and loops -/

/-- Conditions of B.cc against zero; cc 0 is always. -/
def branchTaken (cc a : Nat) : Bool :=
  match cc with
  | 0 => true
  | 1 => a == 0
  | 2 => a != 0
  | 3 => decide (sgn 64 a < 0)
  | 4 => decide (sgn 64 a ≥ 0)
  | 5 => decide (sgn 64 a > 0)
  | _ => decide (sgn 64 a ≤ 0)

/-- A target counted in words from the packet. -/
def Core.relative (k : Core) (bits off : Nat) : Nat := wrap 48 (k.pc.toNat + 4 * sgn bits off)

def branchOp (f : BForm) (k : Core) : PktEntry :=
  let cc := f.cond.toNat
  sEntry (onBad (cc = 7) illegal)
    [.branch (if cc = 0 then 1 else 0) (branchTaken cc (k.G f.ra.toNat)) (k.relative 15 f.off.toNat)] []
    (if cc = 0 then [] else [(regG f.ra.toNat, useCond)]) clsAlu

def branchLink (f : BForm) (k : Core) : PktEntry :=
  sEntry [] [.branch 1 true (k.relative 15 f.off.toNat), .link] [regA 15] [] clsPost

def jumpOp (link : Bool) (f : RForm) (k : Core) : PktEntry :=
  let r := f.ra.toNat % 16
  sEntry [] (.branch (if r = 15 ∧ !link then 2 else 3) true (k.A r) :: if link then [.link] else [])
    (if link then [regA 15] else []) [(regA r, useAddr)] clsPost

/-- Level-0 and level-1 bodies nest, and do not end together (R120). -/
def nests (s0 e0 s1 e1 : Nat) : Bool := decide (s1 ≤ s0 ∧ e0 ≤ e1 ∧ e0 ≠ e1)

/-- [log 46] -/
def loopOp (f : LForm) (k : Core) : PktEntry :=
  let lv := bitNat f.level
  let st := wrap 17 (k.pc.toNat + 4 * f.start.toNat)
  let en := wrap 17 (k.pc.toNat + 4 * f.stop.toNat)
  let r := f.cnt.toNat % 32
  let n := if f.creg then k.G r % 65536 else f.cnt.toNat + 1
  let other := 1 - lv
  let armed := (k.lc.getD other 0).toNat ≠ 0
  let os := (k.ls.getD other 0).toNat
  let oe := (k.le.getD other 0).toNat
  let bad := armed && !(if lv = 0 then nests st en os oe else nests os oe st en)
  sEntry (onBad bad illegal) [.loop lv n st en] [] (if f.creg then [(regG r, useOp)] else []) clsAlu

/-! ## Tasks and the system -/

def takeOp (f : RForm) (k : Core) : PktEntry :=
  let d := f.rd.toNat
  sEntry (onBad (d % 4 ≠ 0 ∨ k.taskValid) illegal ++ onBad (k.level = 0) privCause) [.take d]
    [regG d, regG (d + 1), regG (d + 2), regG (d + 3)] [] clsAlu

/-- TEND gd, #st: the immediate is read in the rb field, as NARROW's is. [log 46] -/
def tendOp (f : RForm) (k : Core) : PktEntry :=
  sEntry (onBad (f.rb.toNat > 3) illegal ++ onBad (!k.taskValid && !k.taskAbandoned) noTask)
    [.tend f.rd.toNat f.rb.toNat] [regG f.rd.toNat] [] clsAlu

def enqOp (f : RForm) (k : Core) : PktEntry :=
  sEntry [] [.enq f.rd.toNat (k.G f.ra.toNat % 2 ^ 48) (k.G f.rb.toNat % 1024)] [regG f.rd.toNat]
    [(regG f.ra.toNat, useOp), (regG f.rb.toNat, useOp)] clsAlu

/-- VEC_OFF for a CSR access: the vector unit is disabled at the level (R153). -/
def Core.vecEnabled (k : Core) : Bool :=
  match k.level with
  | 0 => k.vctl.getLsbD 1
  | 1 => k.vctl.getLsbD 0
  | _ => true

def Core.csrCauses (k : Core) (n : Nat) (write : Bool) : List Cause :=
  match csrReadLevel n with
  | none => [illegal]
  | some r =>
    onBad (decide (k.level < (if write then csrWriteLevel n else r))) privCause ++
      onBad (decide (0x81 ≤ n ∧ n ≤ 0xBF) && !k.vecEnabled) vecOff

/-- The scoreboard's register of a CSR: the loop-free circular registers alone are tracked. -/
def csrRegs (n : Nat) : List Nat :=
  if n = 1 then [regCirc] else if 0x40 ≤ n ∧ n < 0x48 then [regCb (n - 0x40)] else if 0x48 ≤ n ∧ n < 0x50 then [regCl (n - 0x48)] else []

def mfcOp (f : IForm) (k : Core) : PktEntry :=
  let n := f.imm.toNat
  gEntry f.rd.toNat (k.csrCauses n false) (k.csr n, false) [] clsAlu

def mtcOp (f : IForm) (k : Core) : PktEntry :=
  let n := f.imm.toNat
  sEntry (k.csrCauses n true) [.csr n (BitVec.ofNat 64 (k.G f.ra.toNat))] (csrRegs n) [(regG f.ra.toNat, useOp)] clsMtc

/-! ## Loads and stores (R117, R130) -/

/-- Undefined mode or size of an M-format instruction, or a pair at an odd register. -/
def mBad (f : MForm) : Bool :=
  decide (f.mode.toNat > 4) || decide (f.size.toNat > 4)

def mBytes (f : MForm) : Nat := 2 ^ f.size.toNat

def mIdx (f : MForm) : Nat := f.imm8.toNat / 8

/-- The address an M-format instruction uses. -/
def Core.mAddr (k : Core) (f : MForm) : Addr :=
  k.address f.an.toNat f.mode.toNat (f.imm8.toNat * (mBytes f)) (sgn 8 f.imm8.toNat * (mBytes f : Int)) (mIdx f)

def mEntry (causes : List Cause) (effs : List Eff) (writes : List Nat) (uses : List (Nat × Nat)) (cls : Nat) (slots : Nat) : PktEntry :=
  ⟨.m, causes, effs, writes, uses, cls, none, slots⟩

/-- The post-modified address register, where the mode has one. -/
def postEff (f : MForm) (x : Addr) : List Eff × List Nat :=
  match x.post with
  | some p => ([.setA f.an.toNat (BitVec.ofNat 48 p)], [regA f.an.toNat])
  | none => ([], [])

/-- A load into registers: `dst` with the registers it writes. -/
def loadOp (bad : Bool) (dst : LdDst) (writes : List Nat) (f : MForm) (k : Core) : PktEntry :=
  let x := k.mAddr f
  let ch := x.chunks 0 (mBytes f)
  let p := postEff f x
  if mBad f ∨ bad then mEntry [illegal] [] [] [] clsLoad 0
  else mEntry (k.agCauses x (mBytes f) ch) (.load ch dst :: p.1) (writes ++ p.2) (k.addrUses f.an.toNat f.mode.toNat (mIdx f))
    clsLoad (x.halfSlots (mBytes f))

/-- LD and LDU: a g register, or a pair for size 100. -/
def gLoad (signed : Bool) (f : MForm) (k : Core) : PktEntry :=
  let r := f.rt.toNat
  if f.size.toNat = 4 then loadOp (r % 2 = 1) (.pair r) [regG r, regG (r + 1)] f k
  else loadOp false (.g r signed) [regG r] f k

/-- Bytes stored over chunks. -/
def overChunks : List (Nat × Nat) → List Byte → List (Nat × List Byte)
  | [], _ => []
  | (a, n) :: r, bs => (a, bs.take n) :: overChunks r (bs.drop n)

def storeOp (bad : Bool) (bytes : List Byte) (uses : List (Nat × Nat)) (f : MForm) (k : Core) : PktEntry :=
  let x := k.mAddr f
  let ch := x.chunks 0 (mBytes f)
  let p := postEff f x
  if mBad f ∨ bad then mEntry [illegal] [] [] [] clsPost 0
  else mEntry (k.agCauses x (mBytes f) ch) (.store (overChunks ch bytes) :: p.1) p.2
    (uses ++ k.addrUses f.an.toNat f.mode.toNat (mIdx f)) clsPost (x.halfSlots (mBytes f))

/-- ST: the low bytes of rt, or the pair. -/
def gStore (f : MForm) (k : Core) : PktEntry :=
  let r := f.rt.toNat
  if f.size.toNat = 4 then storeOp (r % 2 = 1) (toBytes 16 (k.pair r)) [(regG r, useData), (regG (r + 1), useData)] f k
  else storeOp false (toBytes (mBytes f) (k.G r)) [(regG r, useData)] f k

/-- Unit of `Config.unit`: what aN holds after an LDA into aN that also post-modifies it, which no rule says. [log 44] -/
abbrev uTwice : Nat := 28

/-- LDA and STA move a 64-bit word that holds a 48-bit address; their size must be 011. [log 44, 45] -/
def aLoad (f : MForm) (k : Core) : PktEntry :=
  let r := f.rt.toNat % 16
  let e := loadOp (f.size.toNat ≠ 3) (.a r) [regA r] f k
  match (k.mAddr f).post with
  | some p => if r = f.an.toNat then { e with effs := e.effs ++ [.setA r (BitVec.ofNat 48 (Config.unit uTwice [(k.mAddr f).at_, p]))] } else e
  | none => e

/-- [log 45] -/
def aStore (f : MForm) (k : Core) : PktEntry :=
  storeOp (f.size.toNat ≠ 3) (toBytes 8 (k.A (f.rt.toNat % 16))) [(regA (f.rt.toNat % 16), useData)] f k

/-- ADDA: a scaled immediate added to aN, wrapped in circular mode (R124). -/
def addaOp (f : MForm) (k : Core) : PktEntry :=
  let an := f.an.toNat
  let p := k.postMod an (sgn 8 f.imm8.toNat * (mBytes f : Int))
  mEntry (onBad (mBad f) illegal ++ (match p.1 with | some d => [circCause d] | none => []))
    [.setA an (BitVec.ofNat 48 p.2)] [regA an] (k.addrUses an 0 0) clsPost 0

def movaOp (f : MForm) (k : Core) : PktEntry :=
  mEntry (onBad (mBad f) illegal) [.setA f.an.toNat (BitVec.ofNat 48 (k.G f.rt.toNat))] [regA f.an.toNat]
    [(regG f.rt.toNat, useOp)] clsPost 0

def movgOp (f : MForm) (k : Core) : PktEntry :=
  mEntry (onBad (mBad f) illegal) [.setG f.rt.toNat (BitVec.ofNat 64 (k.A f.an.toNat))] [regG f.rt.toNat]
    [(regA f.an.toNat, useOp)] clsAlu 0

end Sys2Proof.Machine
end

