-- ==== Sys2Proof/Machine/Vector.lean ====
section
/-! DEFINITION. What vector instructions do (R144 to R159): elements and masks, vector arithmetic, accumulators, mask
and run-count instructions, contiguous, structure, gather and scatter accesses. -/

namespace Sys2Proof.Machine

/-! ## Elements (R145) -/

/-- Element width of an esz field. -/
def ewidth (esz : Nat) : Nat := 8 * 2 ^ esz

/-- Elements of VL / w. -/
def ecount (w : Nat) : Nat := 1024 / w

/-- Element `j` is active. -/
def Core.active (k : Core) (ng j : Nat) : Bool := k.N ng / 2 ^ j % 2 == 1

/-- Bits j < n for which a condition holds. -/
def maskOf (n : Nat) (b : Nat → Bool) : Nat := joinLanes 1 ((List.range n).map fun j => bitNat (b j))

def vW (f : VForm) : Nat := ewidth f.esz.toNat

/-- Fields of the layout of R147 that an instruction uses; the others must be 0. -/
structure VUse where
  ra : Bool
  rb : Bool
  ng : Bool
  s : Bool
  c : Bool
  zm : Bool
  /-- Accepted esz values; none where the field is not used. -/
  esz : List Nat
  deriving DecidableEq, Repr

def anyEsz : List Nat := [0, 1, 2, 3]

/-- A field not used holds a bit, or esz is not accepted (R147). [log 46] -/
def vBad (u : VUse) (f : VForm) : Bool :=
  (!u.ra && f.ra != 0) || (!u.rb && f.rb != 0) || (!u.ng && f.ng != 0) || (!u.s && f.s) || (!u.c && f.cj) ||
    (!u.zm && f.zm) || (if u.esz.isEmpty then f.esz != 0 else !u.esz.contains f.esz.toNat)

/-- ILLEGAL_INSTR and VEC_OFF of a vector instruction (R147, R153). -/
def Core.vCauses (k : Core) (bad : Bool) : List Cause := onBad bad illegal ++ onBad (!k.vecEnabled) vecOff

def vEntry (causes : List Cause) (effs : List Eff) (writes : List Nat) (uses : List (Nat × Nat)) (cls : Nat) : PktEntry :=
  ⟨.v, causes, effs, writes, uses, cls, none, 0⟩

def opUses (rs : List Nat) : List (Nat × Nat) := rs.map fun r => (r, useOp)

/-- vd with its active elements computed, its inactive ones kept or set to 0 (R145). -/
def Core.merge (k : Core) (f : VForm) (w : Nat) (r : Nat → Nat × Bool) : Nat × Bool :=
  let old := k.V f.rd.toNat
  let es := (List.range (ecount w)).map fun j =>
    if k.active f.ng.toNat j then r j else (if f.zm then 0 else lane w old j, false)
  (joinLanes w (es.map Prod.fst), es.any Prod.snd)

/-- An instruction that writes the active elements of vd. -/
def vElem (u : VUse) (bad : Bool) (cls : Nat) (uses : List Nat) (r : Core → Nat → Nat → Nat × Bool) (f : VForm) (k : Core) :
    PktEntry :=
  let w := vW f
  let x := k.merge f w (r k w)
  vEntry (k.vCauses (vBad u f || bad)) (.setV f.rd.toNat (BitVec.ofNat 1024 x.1) :: ovEff x.2) [regV f.rd.toNat]
    (opUses (regN f.ng.toNat :: uses)) cls

/-- Elements of va and vb through an operation under R129. -/
def vBin (u : VUse) (cls : Nat) (op : Nat → Int → Int → Int) (f : VForm) (k : Core) : PktEntry :=
  let a := f.ra.toNat
  let b := f.rb.toNat
  vElem u false cls [regV a, regV b]
    (fun k w j => satLane w f.s (op w (slane w (k.V a) j) (slane w (k.V b) j))) f k

/-- Elements of va through an operation under R129. -/
def vUn (op : Int → Int) (f : VForm) (k : Core) : PktEntry :=
  vElem ⟨true, false, true, true, false, true, anyEsz⟩ false clsAlu [regV f.ra.toNat]
    (fun k w j => satLane w f.s (op (slane w (k.V f.ra.toNat) j))) f k

/-- Elements of va and vb, as bits. -/
def vBits (op : Nat → Nat → Nat → Nat) (f : VForm) (k : Core) : PktEntry :=
  let a := f.ra.toNat
  let b := f.rb.toNat
  vElem ⟨true, true, true, false, false, true, anyEsz⟩ false clsAlu [regV a, regV b]
    (fun k w j => (op w (lane w (k.V a) j) (lane w (k.V b) j), false)) f k

def vArith : VUse := ⟨true, true, true, true, false, true, anyEsz⟩
def vPlain : VUse := ⟨true, true, true, false, false, true, anyEsz⟩

/-- VSHL: an exact product, saturated or kept in its low bits. -/
def vShl (f : VForm) (k : Core) : PktEntry :=
  let a := f.ra.toNat
  let b := f.rb.toNat
  vElem vArith false clsAlu [regV a, regV b]
    (fun k w j => satLane w f.s (slane w (k.V a) j * (2 ^ (lane w (k.V b) j % w) : Nat))) f k

/-- VCMUL: complex products, each part rounded and narrowed. -/
def vCmul (f : VForm) (k : Core) : PktEntry :=
  let a := f.ra.toNat
  let b := f.rb.toNat
  vElem ⟨true, true, true, true, true, true, [2, 3]⟩ false clsMul [regV a, regV b]
    (fun k w j =>
      let h := w / 2
      let x := lane w (k.V a) j
      let y := lane w (k.V b) j
      let p := cmulI (cre h x, cim h x) (conjI f.cj (cre h y, cim h y))
      satLanes h f.s [rnd p.1 (h - 1), rnd p.2 (h - 1)]) f k

/-! ## Accumulators: 64 lanes of 48 bits -/

/-- Lane values of an accumulator, joined under sat_48, and ov. -/
def accJoin (s : Bool) (xs : List (Option Int × Nat)) : Nat × Bool :=
  let r := xs.map fun x => match x.1 with | some v => satLane 48 s v | none => (x.2, false)
  (joinLanes 48 (r.map Prod.fst), r.any Prod.snd)

def accUse : VUse := ⟨true, true, true, true, false, true, [1]⟩

/-- VMAC of va and one vb into md. -/
def Core.macLanes (k : Core) (f : VForm) (md vb : Nat) : Nat × Bool :=
  accJoin f.s ((List.range 64).map fun j =>
    let old := lane 48 (k.M md) j
    (if k.active f.ng.toNat j then some (sgn 48 old + slane 16 (k.V f.ra.toNat) j * slane 16 (k.V vb) j) else none, old))

def vMac (f : VForm) (k : Core) : PktEntry :=
  let d := f.rd.toNat
  let x := k.macLanes f d f.rb.toNat
  vEntry (k.vCauses (vBad accUse f || decide (d > 7))) (.setM d (BitVec.ofNat 3072 x.1) :: ovEff x.2) [regM d]
    ((regM d, useAcc) :: opUses [regV f.ra.toNat, regV f.rb.toNat, regN f.ng.toNat]) clsAccu

/-- VMAC2: md with vb and md+1 with vb+1, both even. -/
def vMac2 (f : VForm) (k : Core) : PktEntry :=
  let d := f.rd.toNat
  let b := f.rb.toNat
  let x := k.macLanes f d b
  let y := k.macLanes f (d + 1) (b + 1)
  vEntry (k.vCauses (vBad accUse f || decide (d > 7 ∨ d % 2 = 1 ∨ b % 2 = 1)))
    (.setM d (BitVec.ofNat 3072 x.1) :: .setM (d + 1) (BitVec.ofNat 3072 y.1) :: ovEff (x.2 || y.2)) [regM d, regM (d + 1)]
    ([(regM d, useAcc), (regM (d + 1), useAcc)] ++ opUses [regV f.ra.toNat, regV b, regV (b + 1), regN f.ng.toNat]) clsAccu

/-- VCMAC: c conjugates vb, zm conjugates va. -/
def vCmac (f : VForm) (k : Core) : PktEntry :=
  let d := f.rd.toNat
  let x := accJoin f.s ((List.range 64).map fun l =>
    let j := l / 2
    let a := lane 32 (k.V f.ra.toNat) j
    let b := lane 32 (k.V f.rb.toNat) j
    let p := cmulI (conjI f.zm (cre 16 a, cim 16 a)) (conjI f.cj (cre 16 b, cim 16 b))
    let old := lane 48 (k.M d) l
    (if k.active f.ng.toNat j then some (sgn 48 old + if l % 2 = 0 then p.1 else p.2) else none, old))
  vEntry (k.vCauses (vBad ⟨true, true, true, true, true, true, [2]⟩ f || decide (d > 7)))
    (.setM d (BitVec.ofNat 3072 x.1) :: ovEff x.2) [regM d]
    ((regM d, useAcc) :: opUses [regV f.ra.toNat, regV f.rb.toNat, regN f.ng.toNat]) clsAccu

def noUse : VUse := ⟨false, false, false, false, false, false, []⟩

def vMclr (f : VForm) (k : Core) : PktEntry :=
  let d := f.rd.toNat
  vEntry (k.vCauses (vBad noUse f || decide (d > 7))) [.setM d 0] [regM d] [] clsMul

/-- VNARROW: lanes of ms rounded by imm5, which is the rb field. -/
def vNarrow (f : VForm) (k : Core) : PktEntry :=
  let ms := f.ra.toNat
  vElem ⟨true, true, true, true, false, true, [1]⟩ (decide (ms > 7)) clsAlu [regM ms]
    (fun k _ j => satLane 16 f.s (rnd (slane 48 (k.M ms) j) f.rb.toNat)) f k

/-- VNARW: elements of twice the width, from a register pair. -/
def vNarw (f : VForm) (k : Core) : PktEntry :=
  let a := f.ra.toNat
  vElem ⟨true, true, true, true, false, true, [0, 1, 2]⟩ (a % 2 = 1) clsAlu [regV a, regV (a + 1)]
    (fun k w j => satLane w f.s (rnd (slane (2 * w) (k.V a + 2 ^ 1024 * k.V (a + 1)) j) f.rb.toNat)) f k

def thirdUse : VUse := ⟨true, true, false, false, false, false, []⟩

def vMfm (f : VForm) (k : Core) : PktEntry :=
  let ms := f.ra.toNat
  let i := f.rb.toNat
  vEntry (k.vCauses (vBad thirdUse f || decide (ms > 7 ∨ i > 2)))
    [.setV f.rd.toNat (BitVec.ofNat 1024 (lane 1024 (k.M ms) i))] [regV f.rd.toNat] (opUses [regM ms]) clsAlu

def vMtm (f : VForm) (k : Core) : PktEntry :=
  let d := f.rd.toNat
  let i := f.rb.toNat
  let thirds := (List.range 3).map fun t => if t = i then k.V f.ra.toNat else lane 1024 (k.M d) t
  vEntry (k.vCauses (vBad thirdUse f || decide (d > 7 ∨ i > 2)))
    [.setM d (BitVec.ofNat 3072 (joinLanes 1024 thirds))] [regM d] (opUses [regV f.ra.toNat]) clsAlu

/-! ## Masks and the run count -/

/-- An instruction that writes a mask: nd is [21:18], and bit 22 must be 0. -/
def vMask (u : VUse) (bad : Bool) (uses : List Nat) (v : Nat) (f : VForm) (k : Core) : PktEntry :=
  let d := f.rd.toNat
  vEntry (k.vCauses (vBad u f || bad || decide (d > 15))) [.setN (d % 16) (BitVec.ofNat 128 v)] [regN (d % 16)] (opUses uses) clsAlu

/-- VCMP: the comparison of active elements, 0 for the others. -/
def vCmp (cc : Nat → Nat → Nat → Bool) (f : VForm) (k : Core) : PktEntry :=
  let w := vW f
  let a := f.ra.toNat
  let b := f.rb.toNat
  vMask ⟨true, true, true, false, false, false, anyEsz⟩ false [regV a, regV b, regN f.ng.toNat]
    (maskOf (ecount w) fun j => k.active f.ng.toNat j && cc w (lane w (k.V a) j) (lane w (k.V b) j)) f k

def vSel (f : VForm) (k : Core) : PktEntry :=
  let w := vW f
  let a := f.ra.toNat
  let b := f.rb.toNat
  let v := joinLanes w ((List.range (ecount w)).map fun j => lane w (if k.active f.ng.toNat j then k.V a else k.V b) j)
  vEntry (k.vCauses (vBad ⟨true, true, true, false, false, false, anyEsz⟩ f)) [.setV f.rd.toNat (BitVec.ofNat 1024 v)]
    [regV f.rd.toNat] (opUses [regV a, regV b, regN f.ng.toNat]) clsAlu

def vDup (f : VForm) (k : Core) : PktEntry :=
  vElem ⟨true, false, true, false, false, true, anyEsz⟩ false clsAlu [regG f.ra.toNat]
    (fun k w _ => (lane w (k.G f.ra.toNat) 0, false)) f k

/-- A g register written by a vector instruction. -/
def vToG (u : VUse) (bad : Bool) (uses : List Nat) (cls : Nat) (r : Nat × Bool) (f : VForm) (k : Core) : PktEntry :=
  vEntry (k.vCauses (vBad u f || bad)) (.setG f.rd.toNat (BitVec.ofNat 64 r.1) :: ovEff r.2) [regG f.rd.toNat] (opUses uses) cls

def vRadd (f : VForm) (k : Core) : PktEntry :=
  let w := vW f
  let a := f.ra.toNat
  let sum := (List.range (ecount w)).foldl (fun n j => if k.active f.ng.toNat j then n + slane w (k.V a) j else n) (0 : Int)
  vToG ⟨true, false, true, true, false, false, anyEsz⟩ false [regV a, regN f.ng.toNat] clsMul (satLane 64 f.s sum) f k

def vPerm (f : VForm) (k : Core) : PktEntry :=
  let a := f.ra.toNat
  let b := f.rb.toNat
  vElem vPlain false clsAlu [regV a, regV b] (fun k w j => (lane w (k.V a) (lane w (k.V b) j % ecount w), false)) f k

def vSpan (f : VForm) (k : Core) : PktEntry :=
  let a := sgn 64 (k.G f.ra.toNat)
  let b := sgn 64 (k.G f.rb.toNat)
  vMask ⟨true, true, false, false, false, false, anyEsz⟩ false [regG f.ra.toNat, regG f.rb.toNat]
    (maskOf (ecount (vW f)) fun j => decide (a + (j : Int) < b)) f k

/-- VLANES: imm5 is the [17:13] field. -/
def vLanes (f : VForm) (k : Core) : PktEntry :=
  vToG ⟨true, false, false, false, false, false, anyEsz⟩ false [] clsAlu
    (wrap 64 (sgn 5 f.ra.toNat * (ecount (vW f) : Int)), false) f k

def mkAll (f : VForm) (k : Core) : PktEntry :=
  vMask ⟨false, false, false, false, false, false, anyEsz⟩ false [] (maskOf (ecount (vW f)) fun _ => true) f k

def mkBin (op : Nat → Nat → Nat) (f : VForm) (k : Core) : PktEntry :=
  let a := f.ra.toNat
  let b := f.rb.toNat
  vMask ⟨true, true, false, false, false, false, []⟩ (decide (a > 15 ∨ b > 15)) [regN a, regN b] (op (k.N a) (k.N b)) f k

def mkCnt (f : VForm) (k : Core) : PktEntry :=
  let a := f.ra.toNat
  vToG ⟨true, false, false, false, false, false, anyEsz⟩ (decide (a > 15)) [regN a] clsAlu
    ((List.range (ecount (vW f))).countP fun j => k.active a j, false) f k

def mkToV (f : VForm) (k : Core) : PktEntry :=
  let a := f.ra.toNat
  vEntry (k.vCauses (vBad ⟨true, false, false, false, false, false, []⟩ f || decide (a > 15)))
    [.setV f.rd.toNat (BitVec.ofNat 1024 (k.N a))] [regV f.rd.toNat] (opUses [regN a]) clsAlu

def vToMk (f : VForm) (k : Core) : PktEntry :=
  vMask ⟨true, false, false, false, false, false, []⟩ false [regV f.ra.toNat] (k.V f.ra.toNat % 2 ^ 128) f k

def runWriteOp (u : VUse) (v : Nat) (uses : List Nat) (f : VForm) (k : Core) : PktEntry :=
  vEntry (k.vCauses (vBad u f || f.rd != 0)) [.setRun v] [regRun] (opUses uses) clsAlu

def runMk (f : VForm) (k : Core) : PktEntry :=
  vMask ⟨false, false, true, false, false, false, anyEsz⟩ false [regN f.ng.toNat, regRun]
    (maskOf (ecount (vW f)) fun j => k.active f.ng.toNat j && decide (j < k.vrun.toNat)) f k

def runGet (f : VForm) (k : Core) : PktEntry :=
  vToG noUse false [regRun] clsAlu (k.vrun.toNat, false) f k

/-! ## Vector memory forms (R148, R151, R152, R155 to R159) -/

/-- Active elements at a width. -/
def Core.actives (k : Core) (ng w : Nat) : List Nat := (List.range (ecount w)).filter fun j => k.active ng j

/-- Base and post-modification of a contiguous form of `n` fields. [log 47] -/
def Core.vmAddr (k : Core) (n : Nat) (f : VMForm) : Addr :=
  let inc : Int := sgn 5 f.low.toNat * ((n * 128 : Nat) : Int)
  k.address f.an.toNat f.mode.toNat (wrap 48 inc) inc 0

/-- Chunks of the active elements, field after field of each. -/
def vmChunks (x : Addr) (n eb : Nat) (js : List Nat) : List (Nat × Nat) :=
  js.flatMap fun j => (List.range n).flatMap fun g => x.chunks ((j * n + g) * eb) eb

/-- Half-slots of a contiguous form: one per 128 bytes, and one more off a 128-byte boundary or over the end of a
circular buffer (R125, R151). -/
def vmSlots (x : Addr) (n : Nat) : Nat := n + bitNat (decide (x.at_ % 128 ≠ 0)) + bitNat (x.straddles (n * 128))

/-- A contiguous form that is not encoded: its mode, or a register past v31. -/
def vmBad (n : Nat) (f : VMForm) : Bool :=
  !(f.mode == 0 || f.mode == 2 || f.mode == 4) || decide (f.rt.toNat + n > 32)

def Core.vmPost (f : VMForm) (x : Addr) : List Eff × List Nat :=
  match x.post with
  | some p => ([.setA f.an.toNat (BitVec.ofNat 48 p)], [regA f.an.toNat])
  | none => ([], [])

def vmRegs (f : VMForm) (n : Nat) : List Nat := (List.range n).map fun i => f.rt.toNat + i

/-- VLD and VSPLITn: inactive elements keep their values, or with zm are set to 0 (R145, R155). [log 47] -/
def vmLoad (n : Nat) (f : VMForm) (k : Core) : PktEntry :=
  let w := ewidth f.esz.toNat
  let x := k.vmAddr n f
  let js := k.actives f.ng.toNat w
  let ch := vmChunks x n (w / 8) js
  let p := Core.vmPost f x
  if vmBad n f ∨ !k.vecEnabled then mEntry (k.vCauses (vmBad n f)) [] [] [] clsLoad 0
  else mEntry (k.agCauses x (w / 8) ch) (.load ch (.v f.rt.toNat n f.esz.toNat js f.zm) :: p.1)
    ((vmRegs f n).map (fun r => regV r) ++ p.2)
    ((regN f.ng.toNat, useOp) :: k.addrUses f.an.toNat f.mode.toNat 0) clsLoad (vmSlots x n)

/-- VST and VWEAVEn. -/
def vmStore (n : Nat) (f : VMForm) (k : Core) : PktEntry :=
  let w := ewidth f.esz.toNat
  let x := k.vmAddr n f
  let js := k.actives f.ng.toNat w
  let ch := vmChunks x n (w / 8) js
  let bytes := js.flatMap fun j => (List.range n).flatMap fun g => toBytes (w / 8) (lane w (k.V (f.rt.toNat + g)) j)
  let p := Core.vmPost f x
  if vmBad n f ∨ !k.vecEnabled then mEntry (k.vCauses (vmBad n f)) [] [] [] clsPost 0
  else mEntry (k.agCauses x (w / 8) ch) (.store (overChunks ch bytes) :: p.1) p.2
    ((regN f.ng.toNat, useOp) :: (vmRegs f n).map (fun r => (regV r, useData)) ++ k.addrUses f.an.toNat f.mode.toNat 0)
    clsPost (vmSlots x n)

/-- Active elements of a gather or scatter with their addresses: aN + (vb element << scale). [log 47] -/
def Core.gsElems (k : Core) (f : VMForm) : List (Nat × Nat) :=
  let w := ewidth f.esz.toNat
  (k.actives f.ng.toNat w).map fun j =>
    (j, (k.A f.an.toNat + lane w (k.V f.low.toNat) j * 2 ^ f.mode.toNat) % 2 ^ 48)

def gsBad (f : VMForm) : Bool := decide (f.mode.toNat > 3) || decide (f.esz.toNat < 2)

/-- Half-slots of the elements in local memory: one per four. -/
def gsSlots (es : List (Nat × Nat)) : Nat := ((es.filter fun e => decide (e.2 < 0x80000)).length + 3) / 4

def gsUses (f : VMForm) : List (Nat × Nat) :=
  [(regN f.ng.toNat, useOp), (regV f.low.toNat, useAddr), (regA f.an.toNat, useAddr)]

/-- [log 47] -/
def vmGather (f : VMForm) (k : Core) : PktEntry :=
  let es := k.gsElems f
  if gsBad f ∨ !k.vecEnabled then mEntry (k.vCauses (gsBad f)) [] [] [] clsLoad 0
  else mEntry [] [.gather f.rt.toNat f.esz.toNat es] [regV f.rt.toNat, regRun] (gsUses f) clsLoad (gsSlots es)

def vmScatter (f : VMForm) (k : Core) : PktEntry :=
  let w := ewidth f.esz.toNat
  let es := k.gsElems f
  if gsBad f ∨ !k.vecEnabled then mEntry (k.vCauses (gsBad f)) [] [] [] clsPost 0
  else mEntry [] [.scatter (es.map fun e => (e.1, e.2, toBytes (w / 8) (lane w (k.V f.rt.toNat) e.1)))] []
    ((regV f.rt.toNat, useData) :: gsUses f) clsPost (gsSlots es)

end Sys2Proof.Machine
end

