-- ==== Sys2Proof/Machine/Dowel.lean ====
section
/-! DEFINITION. The Dowels (R160, R161). Where R161 gives a result within a number of LSBs, the exact value's floor is
computed and the distance from it is a value of `Config.unit`. -/

namespace Sys2Proof.Machine

/-- A Dowel's slot is enabled at the core's level (R160). -/
def Core.dowelOn (k : Core) (slot : Nat) : Bool := k.dwlEn.getLsbD (16 * k.level + slot)

/-- Causes of a Dowel instruction in the order of R139 and R153. -/
def Core.dCauses (k : Core) (slot : Nat) (bad : Bool) : List Cause := k.vCauses bad ++ onBad (!k.dowelOn slot) dowelOff

def dEntry (slot lat : Nat) (causes : List Cause) (effs : List Eff) (writes : List Nat) (uses : List (Nat × Nat)) : PktEntry :=
  ⟨.v, causes, effs, writes, uses, 10 + lat, some (slot, lat), 0⟩

/-- A Dowel that writes the active 32-bit elements of vd from those of va. -/
def dElem (slot lat : Nat) (u : VUse) (uses : List Nat) (r : Nat → Nat × Bool) (f : VForm) (k : Core) : PktEntry :=
  let x := k.merge f 32 r
  dEntry slot lat (k.dCauses slot (vBad u f)) (.setV f.rd.toNat (BitVec.ofNat 1024 x.1) :: ovEff x.2) [regV f.rd.toNat]
    (opUses (regN f.ng.toNat :: uses))

/-- Numbers of the units in `Config.unit`. -/
abbrev uRsq : Nat := 1
abbrev uAtn : Nat := 2
abbrev uLog : Nat := 3
abbrev uExp : Nat := 4
abbrev uCrc : Nat := 5
abbrev uHiv : Nat := 6
abbrev uLlr : Nat := 7
abbrev uBrv : Nat := 8
abbrev uDiv : Nat := 9

/-! ## Slot 0: CMR -/

/-- Multiplication by j^r. -/
def rotate (r : Nat) (a : Int × Int) : Int × Int :=
  match r % 4 with
  | 0 => a
  | 1 => (-a.2, a.1)
  | 2 => (-a.1, -a.2)
  | _ => (a.2, -a.1)

def cmrOp (op2 : Nat) (f : VForm) (k : Core) : PktEntry :=
  let a := k.V f.ra.toNat
  let b := k.V f.rb.toNat
  dElem 0 2 ⟨true, true, true, true, true, true, [2]⟩ [regV f.ra.toNat, regV f.rb.toNat]
    (fun j =>
      let x := lane 32 a j
      let y := lane 32 b j
      let p := rotate op2 (cmulI (cre 16 x, cim 16 x) (conjI f.cj (cre 16 y, cim 16 y)))
      satLanes 16 f.s [rnd p.1 15, rnd p.2 15]) f k

/-! ## Slots 1, 3 and 9: roots, angles, logarithms -/

/-- Floor of the square root, for n < 4^bits. -/
def isqrt (bits n : Nat) : Nat :=
  (List.range bits).foldl (fun r i => let t := r + 2 ^ (bits - 1 - i); if t * t ≤ n then t else r) 0

def unaryUse : VUse := ⟨true, false, true, false, false, true, [2]⟩

/-- RSQ: within 1 LSB of min(rnd(2^31 / √x), 2^32 − 1). [log 61] -/
def rsqValue (x : Nat) : Nat × Bool :=
  if x = 0 then (0xFFFFFFFF, true)
  else
    let r := (isqrt 33 (2 ^ 64 / x) + 1) / 2
    let e := Config.unit uRsq [x] % 3
    (min (r + e - 1) 0xFFFFFFFF, false)

def rsqOp (f : VForm) (k : Core) : PktEntry :=
  dElem 1 6 unaryUse [regV f.ra.toNat] (fun j => rsqValue (lane 32 (k.V f.ra.toNat) j)) f k

/-- `n` bits of the fraction of angle / π of an upper half-plane number: the angle is doubled by squaring. -/
def angleBits : Nat → Nat → Int × Int → Nat
  | 0, acc, _ => acc
  | n + 1, acc, z =>
    let d := cmulI z z
    if d.2 < 0 ∨ (d.2 = 0 ∧ d.1 < 0) then angleBits n (2 * acc + 1) (-d.1, -d.2) else angleBits n (2 * acc) d

/-- Floor of atan2(q, i) / π in Q15, and whether it is exact. -/
def atnFloor (i q : Int) : Int × Bool :=
  let exact := decide (i = 0) || decide (q = 0) || decide (i = q) || decide (i = -q)
  if q = 0 ∧ i < 0 then (32768, true)
  else if q ≥ 0 then ((angleBits 15 0 (i, q) : Nat), exact)
  else
    let m : Int := (angleBits 15 0 (i, -q) : Nat)
    (if exact then -m else -m - 1, exact)

/-- ATN: within 2 LSB; what becomes of a value of +1.0 is open. [log 61] -/
def atnValue (x : Nat) : Nat :=
  let i := cre 16 x
  let q := cim 16 x
  if i = 0 ∧ q = 0 then 0
  else
    let fl := atnFloor i q
    let e := Config.unit uAtn [x]
    let v := if fl.2 then fl.1 - 2 + ((e / 2 % 5 : Nat) : Int) else fl.1 - 1 + ((e / 2 % 4 : Nat) : Int)
    if v > 32767 ∧ e % 2 = 0 then 32767 else wrap 16 v

def atnOp (f : VForm) (k : Core) : PktEntry :=
  dElem 3 10 unaryUse [regV f.ra.toNat] (fun j => (atnValue (lane 32 (k.V f.ra.toNat) j), false)) f k

/-- LXP op2 0: within 2 LSB of log2 in Q16.16. [log 61] -/
def log2Value (x : Nat) : Nat × Bool :=
  if x = 0 then (0x80000000, true)
  else
    let n := Nat.log2 x
    let e := Config.unit uLog [x]
    let v : Int := if 2 ^ n = x then ((n * 65536 : Nat) : Int) - 2 + ((e % 5 : Nat) : Int)
      else ((Nat.log2 (x ^ 65536) : Nat) : Int) - 1 + ((e % 4 : Nat) : Int)
    (wrap 32 v, false)

/-- 2^(2^-i) as a fixed-point number of 96 fraction bits. -/
def rootOf2 : Nat → Nat
  | 0 => 2 ^ 97
  | i + 1 => isqrt 100 (rootOf2 i * 2 ^ 96)

/-- LXP op2 1: within 2 LSB of 2^v, v in Q16.16, saturated. [log 61] -/
def exp2Value (x : Nat) : Nat :=
  let v := sgn 32 x
  let whole := v / 65536
  let frac := (v % 65536).toNat
  let e := Config.unit uExp [x]
  let m := (List.range 16).foldl (fun (m : Nat) i => if bitOf frac (15 - i) then m * rootOf2 (i + 1) / 2 ^ 96 else m) (2 ^ 96)
  let r : Int :=
    if whole ≥ 32 then 0x100000000
    else if whole ≥ 0 then ((m * 2 ^ whole.toNat / 2 ^ 96 : Nat) : Int)
    else 0
  let d : Int := if frac = 0 ∧ whole ≥ 0 then ((e % 5 : Nat) : Int) - 2 else ((e % 4 : Nat) : Int) - 1
  if whole ≥ 33 then 0xFFFFFFFF else (max 0 (min (r + d) 0xFFFFFFFF)).toNat

def lxpLogOp (f : VForm) (k : Core) : PktEntry :=
  dElem 9 5 unaryUse [regV f.ra.toNat] (fun j => log2Value (lane 32 (k.V f.ra.toNat) j)) f k

def lxpExpOp (f : VForm) (k : Core) : PktEntry :=
  dElem 9 5 unaryUse [regV f.ra.toNat] (fun j => (exp2Value (lane 32 (k.V f.ra.toNat) j), false)) f k

/-! ## Slot 2: DIV -/

/-- A non-pipelined Dowel's entry: its results come later (R162). -/
def dLater (slot lat : Nat) (hiv : Bool) (causes : List Cause) (ws : List (Bool × Nat × BitVec 1024)) (ov : Bool)
    (uses : List (Nat × Nat)) : PktEntry :=
  dEntry slot lat causes [.later hiv lat ws ov] (ws.map fun w => if w.1 then regV w.2.1 else regG w.2.1) uses

def divOp (u : VUse) (r : Nat → Nat → Nat × Bool) (f : VForm) (k : Core) : PktEntry :=
  let x := r (k.G f.ra.toNat) (k.G f.rb.toNat)
  dLater 2 14 false (k.dCauses 2 (vBad u f)) [(false, f.rd.toNat, BitVec.ofNat 1024 x.1)] x.2
    (opUses [regG f.ra.toNat, regG f.rb.toNat])

def divUse : VUse := ⟨true, true, false, true, false, false, []⟩

/-- The saturated value of a dividend's sign. -/
def divZero (w : Nat) (a : Int) : Nat := wrap w (if a < 0 then -(2 ^ (w - 1) : Nat) else (2 ^ (w - 1) : Nat) - 1)

def divSignedValue (s : Bool) (a b : Nat) : Nat × Bool :=
  if b = 0 then (divZero 64 (sgn 64 a), true) else satLane 64 s (Int.tdiv (sgn 64 a) (sgn 64 b))

/-- Unsigned: the saturated value is the greatest. -/
def divUnsignedValue (a b : Nat) : Nat × Bool := if b = 0 then (2 ^ 64 - 1, true) else (a / b, false)

/-- A quotient rounded to nearest, halves to even. -/
def rndDiv (a b : Int) : Int :=
  let q := a.fdiv b
  let r := a - q * b
  let d := 2 * (if b < 0 then -r else r) - (if b < 0 then -b else b)
  if d > 0 then q + 1 else if d = 0 ∧ q % 2 ≠ 0 then q + 1 else q

/-- Q31 quotient; what the upper half of gd takes is open. [log 61] -/
def divQ31Value (s : Bool) (a b : Nat) : Nat × Bool :=
  let x := sgn 32 a
  let y := sgn 32 b
  let r := if y = 0 then (divZero 32 x, true) else satLane 32 s (rndDiv (x * (2 ^ 31 : Nat)) y)
  (r.1 + 2 ^ 32 * (Config.unit uDiv [a, b] % 2 ^ 32), r.2)

/-! ## Slots 4 and 5: GLD and CRC -/

/-- One step of the two registers of the Gold sequence (TS 38.211 clause 5.2.1). [log 114] -/
def goldStep (x : Nat × Nat) : Nat × Nat :=
  let n1 := (x.1 / 8 + x.1) % 2
  let n2 := (x.2 / 8 + x.2 / 4 + x.2 / 2 + x.2) % 2
  (x.1 / 2 + n1 * 2 ^ 30, x.2 / 2 + n2 * 2 ^ 30)

def goldAdvance : Nat → Nat × Nat → Nat × Nat
  | 0, x => x
  | n + 1, x => goldAdvance n (goldStep x)

/-- `n` bits of the sequence, first bit lowest. -/
def goldBits : Nat → Nat × Nat → Nat
  | 0, _ => 0
  | n + 1, x => (x.1 + x.2) % 2 + 2 * goldBits n (goldStep x)

/-- [log 61] -/
def gldOp (init : Bool) (f : VForm) (k : Core) : PktEntry :=
  let r := f.ra.toNat
  let x := if init then goldAdvance 1600 (1, k.G (r + 1) % 2 ^ 31) else (k.G r % 2 ^ 31, k.G (r + 1) % 2 ^ 31)
  let y := goldAdvance 1024 x
  dEntry 4 3 (k.dCauses 4 (vBad ⟨true, false, true, false, false, false, []⟩ f || decide (r % 2 = 1)))
    [.setV f.rd.toNat (BitVec.ofNat 1024 (goldBits 1024 x)), .setG r (BitVec.ofNat 64 y.1), .setG (r + 1) (BitVec.ofNat 64 y.2)]
    [regV f.rd.toNat, regG r, regG (r + 1)] (opUses (if init then [regG (r + 1)] else [regG r, regG (r + 1)]))

/-- Polynomials of the CRC Dowel: value and degree. [log 114] -/
def crcPoly (i : Nat) : Nat × Nat :=
  [(0x864CFB, 24), (0x800063, 24), (0xB2B117, 24), (0x1021, 16), (0x621, 11), (0x21, 6), (0x9B, 8), (0x82F63B78, 32)].getD i (0, 32)

/-- One bit into a remainder. -/
def crcBit (i rem bit : Nat) : Nat :=
  let p := crcPoly i
  if i = 7 then
    let x := rem / 2
    if (rem + bit) % 2 = 1 then Nat.xor x p.1 else x
  else
    let x := rem * 2 % 2 ^ p.2
    if (rem / 2 ^ (p.2 - 1) + bit) % 2 = 1 then Nat.xor x p.1 else x

/-- CRC over the low `n` bits of a value in increasing order. -/
def crcOver (i rem v n : Nat) : Nat := (List.range n).foldl (fun r j => crcBit i r (v / 2 ^ j % 2)) (rem % 2 ^ (crcPoly i).2)

/-- CRC; a count above 1,024 is outside the catalogue, and its result is open. [log 61] -/
def crcOp (op2 : Nat) (f : VForm) (k : Core) : PktEntry :=
  let i := 2 * op2 + bitNat f.cj
  let n := k.G f.rb.toNat % 2048
  let d := f.rd.toNat
  let v := if n ≤ 1024 then crcOver i (k.G d) (k.V f.ra.toNat) n
    else Config.unit uCrc [i, n, k.G d, k.V f.ra.toNat] % 2 ^ (crcPoly i).2
  dEntry 5 3 (k.dCauses 5 (vBad ⟨true, true, true, false, true, false, []⟩ f)) [.setG d (BitVec.ofNat 64 v)] [regG d]
    (opUses [regG d, regV f.ra.toNat, regG f.rb.toNat])

/-! ## Slot 6: HIV -/

/-- A 4 × 4 Hermitian matrix from its 16 words: the diagonal, then the upper entries in row order. -/
def hermitian (w : Nat → Int) : List (List (Int × Int)) :=
  let up (i j : Nat) : Int × Int :=
    let n := [(0, 1), (0, 2), (0, 3), (1, 2), (1, 3), (2, 3)].findIdx (· == (i, j))
    (w (4 + 2 * n), w (5 + 2 * n))
  (List.range 4).map fun i => (List.range 4).map fun j =>
    if i = j then (w i, 0) else if i < j then up i j else conjI true (up j i)

/-- Row and column of a matrix left out. -/
def minor (i j : Nat) (m : List (List (Int × Int))) : List (List (Int × Int)) := (m.eraseIdx i).map fun r => r.eraseIdx j

/-- Determinant of an `n` × `n` matrix, by its first row. -/
def cdet : Nat → List (List (Int × Int)) → Int × Int
  | 0, _ => (1, 0)
  | n + 1, m => (List.range (n + 1)).foldl (fun acc j =>
      let p := cmulI ((m.getD 0 []).getD j (0, 0)) (cdet n (minor 0 j m))
      if j % 2 = 0 then (acc.1 + p.1, acc.2 + p.2) else (acc.1 - p.1, acc.2 - p.2)) (0, 0)

/-- Entry (i, j) of the adjugate of a 4 × 4 matrix. -/
def adjugate (m : List (List (Int × Int))) (i j : Nat) : Int × Int :=
  let d := cdet 3 (minor j i m)
  if (i + j) % 2 = 0 then d else (-d.1, -d.2)

/-- The mantissas of a positive Hermitian matrix's inverse at block exponent `e`, in the layout of R161: inverse = mantissa × 2^e,
both matrices in Q31, rounded as R128 says. [log 61] -/
def hivMantissas (m : List (List (Int × Int))) (e : Int) : List Int :=
  let det := (cdet 4 m).1
  let q (x : Int) : Int := rndDiv (x * 2 ^ (62 + 128 - e).toNat) (det * 2 ^ 128)
  ((List.range 4).map fun i => q (adjugate m i i).1) ++
    [(0, 1), (0, 2), (0, 3), (1, 2), (1, 3), (2, 3)].flatMap fun ij =>
      let a := adjugate m ij.1 ij.2
      [q a.1, q a.2]

/-- Mantissas that the words of a matrix hold. -/
def fitQ31 (xs : List Int) : Bool := xs.all fun x => decide (-(2 ^ 31) ≤ x ∧ x < 2 ^ 31)

/-- The block exponent of an inverse: one at which its mantissas fit, else the least at which they do; which of those that fit is
open. [log 61] -/
def hivExponent (m : List (List (Int × Int))) (src : Nat) : Int :=
  let e : Int := ((Config.unit uHiv [src] % 256 : Nat) : Int) - 128
  if fitQ31 (hivMantissas m e) then e
  else (((List.range 256).map fun (i : Nat) => (i : Int) - 128).find? fun e => fitQ31 (hivMantissas m e)).getD 127

/-- HIV: inverses as mantissas and block exponents; a matrix with none gives 0, its flag, and an open exponent. [log 61] -/
def hivOp (f : VForm) (k : Core) : PktEntry :=
  let a := k.V f.ra.toNat
  let one (i : Nat) : Nat × Nat × Nat :=
    let src := lane 512 a i
    let m := hermitian fun n => slane 32 src n
    if positive m then
      let e := hivExponent m src
      (joinLanes 32 ((hivMantissas m e).map (wrap 32)), wrap 8 e, 0)
    else (0, Config.unit uHiv [src] % 256, 1)
  let p := one 0
  let q := one 1
  dLater 6 24 true (k.dCauses 6 (vBad ⟨true, true, true, false, false, false, [2]⟩ f))
    [(true, f.rd.toNat, BitVec.ofNat 1024 (joinLanes 512 [p.1, q.1])),
     (false, f.rb.toNat, BitVec.ofNat 1024 (p.2.1 + 2 ^ 8 * q.2.1 + 2 ^ 16 * p.2.2 + 2 ^ 17 * q.2.2))] false
    (opUses [regV f.ra.toNat])

/-! ## Slots 7, 8 and 10: LLR, BRV, SRT -/

/-- An LLR of the Dowel, by R247 at one gain of the unit's own, which no operand names. [log 61] -/
def dowelLlr (code n y scale : Nat) : Nat :=
  wrap 8 (llr127 (rawLlr code n (coldStep code) (cre 16 y, cim 16 y) scale (Config.unit uLlr [] % 2 ^ 16))).1

/-- LLR: bytes of vd under the mask at 8-bit width. -/
def llrOp (op2 : Nat) (f : VForm) (k : Core) : PktEntry :=
  let qm := 2 * (op2 + 1)
  let first := 16 * bitNat f.cj
  let x := k.merge f 8 fun j =>
    let y := first + j / qm
    if j < min 32 (128 / qm) * qm ∧ y < 32 then
      (dowelLlr qm (j % qm) (lane 32 (k.V f.ra.toNat) y) (lane 16 (k.V f.rb.toNat) y), false)
    else (0, false)
  dEntry 7 4 (k.dCauses 7 (vBad ⟨true, true, true, false, true, true, []⟩ f))
    [.setV f.rd.toNat (BitVec.ofNat 1024 x.1)] [regV f.rd.toNat]
    (opUses [regV f.ra.toNat, regV f.rb.toNat, regN f.ng.toNat])

/-- Bits of a `w`-bit value in reverse order. -/
def revBits (w v : Nat) : Nat := joinLanes 1 ((List.range w).map fun i => v / 2 ^ (w - 1 - i) % 2)

/-- A Dowel that rearranges va whole. -/
def brvOp (rb : Bool) (uses : List Nat) (r : Nat → Nat → Nat) (f : VForm) (k : Core) : PktEntry :=
  let w := vW f
  let v := joinLanes w ((List.range (ecount w)).map (r w))
  dEntry 8 2 (k.dCauses 8 (vBad ⟨true, rb, true, false, false, false, anyEsz⟩ f)) [.setV f.rd.toNat (BitVec.ofNat 1024 v)]
    [regV f.rd.toNat] (opUses (regV f.ra.toNat :: uses))

def brvBitsOp (f : VForm) (k : Core) : PktEntry :=
  brvOp false [] (fun w j => revBits w (lane w (k.V f.ra.toNat) j)) f k

def brvIndexOp (f : VForm) (k : Core) : PktEntry :=
  brvOp false [] (fun w j => lane w (k.V f.ra.toNat) (revBits (Nat.log2 (ecount w)) j)) f k

/-- gb rows written row by row, read column by column; a count that does not divide VL / w leaves vd open. [log 61] -/
def brvTransposeOp (f : VForm) (k : Core) : PktEntry :=
  let rows := k.G f.rb.toNat
  let a := k.V f.ra.toNat
  brvOp true [regG f.rb.toNat] (fun w j =>
    let n := ecount w
    if rows = 0 ∨ n % rows ≠ 0 then Config.unit uBrv [w, rows, a, j]
    else lane w a (j % rows * (n / rows) + j / rows)) f k

/-- `a` comes before `b` among (key, element) pairs: the larger key, then the lower element. -/
def srtBefore (a b : Int × Nat) : Bool := decide (a.1 > b.1) || (decide (a.1 = b.1) && decide (a.2 ≤ b.2))

def srtInsert (x : Int × Nat) : List (Int × Nat) → List (Int × Nat)
  | [] => [x]
  | y :: r => if srtBefore x y then x :: y :: r else y :: srtInsert x r

/-- SRT: k is the rb field + 1. -/
def srtOp (f : VForm) (k : Core) : PktEntry :=
  let a := k.V f.ra.toNat
  let order := (List.range 32).foldl (fun l j => srtInsert (slane 32 a j, j) l) []
  let v := joinLanes 32 ((order.take (f.rb.toNat + 1)).map fun e => lane 32 a e.2 / 32 * 32 + e.2)
  dEntry 10 8 (k.dCauses 10 (vBad ⟨true, true, true, false, false, false, [2]⟩ f)) [.setV f.rd.toNat (BitVec.ofNat 1024 v)]
    [regV f.rd.toNat] (opUses [regV f.ra.toNat])

end Sys2Proof.Machine
end

