-- ==== Sys2Proof/Machine/EngineCommon.lean ====
section
/-! DEFINITION. What every Mortise engine does (R167 to R173, R200, R202): asking, the checks of its job descriptor,
its buffer references, its report, its faults, and the words its registers show. -/

namespace Sys2Proof.Machine

/-! ## The engine -/

def engPage (e : Nat) : Nat := 0x100 + e

def State.eng (s : State) (e : Nat) : Engine := s.engines.getD e Engine.cold
def State.setEng (s : State) (e : Nat) (x : Engine) : State := { s with engines := s.engines.setIfInBounds e x }

/-- MRT_STAT.state as stored: 3 RUNNING, 4 ABANDONING, 5 FAULTED, else idle. -/
def State.engSt (s : State) (e : Nat) : Nat := s.fld (MRT_STAT e) 3 0
/-- An engine that goes back to state 0 is idle from now on (R424). -/
def State.setEngSt (s : State) (e v : Nat) : State :=
  let s := if v = 0 ∧ s.engSt e ≠ 0 then s.idleFrom (128 + e) else s
  s.setFld (MRT_STAT e) 3 0 v

/-- A designated spare that stands in for none (R171). -/
def State.engHeld (s : State) (e : Nat) : Bool :=
  s.flag (MRT_STAT e) 8 && s.fld (MRT_STAT e) 23 16 == (engineClass e).2

/-- Conditions of R167. -/
def State.engMayAsk (s : State) (e : Nat) : Bool :=
  s.enabled (engPage e) && s.islandUp (16 + e) && !s.truss.drained.contains (128 + e) && (s.eng e).task.isNone &&
    s.engSt e == 0 && !s.engHeld e && !(s.eng e).fenced

/-- MRT_STAT.state as read. -/
def State.engShow (s : State) (e : Nat) : Nat :=
  if s.engSt e ≠ 0 then s.engSt e
  else if (s.islands.getD (16 + e) Island.cold).power = 3 then 0
  else if s.engHeld e then 6
  else if s.truss.drained.contains (128 + e) then 7
  else if s.truss.asking.contains (128 + e) then 2
  else 1

/-- MRT_TASK as read. -/
def State.engTaskWord (s : State) (e : Nat) : Nat :=
  match (s.eng e).task with
  | none => 0
  | some r => match s.taskAt r with
    | some (_, _, t) => 2 ^ 31 + t.attempt % 16 * 2 ^ 24 + r
    | none => 2 ^ 31 + r

/-- An engine asks and may receive a task (R87, R89, R167). -/
def State.engAsk (s : State) (e : Nat) : State :=
  if !s.engMayAsk e then s
  else match s.handOff (128 + e) with
    | (none, s) => s
    | (some (_, _, t), s) => (s.setEng e { s.eng e with task := some t.idx, report := none, changed := [] }).setEngSt e 3

/-- The engine is free again. -/
def State.engFree (s : State) (e : Nat) : State := (s.setEng e { s.eng e with task := none, report := none }).setEngSt e 0

/-- The first byte of a range that the agent cannot read (R168). -/
def State.firstBad (s : State) (ag : Agent) (a n : Nat) : Nat :=
  ((List.range n).find? fun i => match (s.memRead ag (a + i) 1).1 with
    | .error _ => true
    | .ok _ => false).elim a (a + ·)

/-- The first byte of the outputs that the agent cannot write. -/
def State.firstUnwritable (s : State) (ag : Agent) (bs : List (Nat × List Byte)) (a : Nat) : Nat :=
  ((bs.flatMap fun o => (List.range o.2.length).map (o.1 + ·)).find? fun x => (s.writable ag x).isNone).getD a

/-- The counter, the captured code, and the event of a report that is not finished (R168, R200). -/
def State.engError (s : State) (e bay : Nat) (rep : Report) (code addr : Nat) : State :=
  let cnt := match rep with
    | .descriptor => MRT_DESC_ERR_CNT e
    | .inputError => MRT_IN_ERR_CNT e
    | _ => MRT_OUT_ERR_CNT e
  let bit := match rep with
    | .descriptor => 0
    | .inputError => 1
    | _ => 2
  let s := ((s.bump cnt).capture (engPage e) bay code addr).raise (engPage e) bit
  s.setEng e { s.eng e with report := some rep }

/-! ## Jobs -/

/-- A job as an engine has read it: its descriptor's address and words, its Bay, and the task's buffers. -/
structure Job where
  e : Nat
  bay : Nat
  addr : Nat
  words : List Nat
  ins : List (Nat × Nat)
  outs : List (Nat × Nat)
  deriving DecidableEq, Repr

def Job.w (j : Job) (i : Nat) : Nat := j.words.getD i 0
def Job.f (j : Job) (i hi lo : Nat) : Nat := bitsOf (j.w i) hi lo
def Job.agent (j : Job) : Agent := ⟨.engine (Fin.ofNat 67 j.e), j.bay, false⟩

/-- A use of a buffer reference: the descriptor word, and its streams and bytes per stream. -/
structure RefUse where
  word : Nat
  streams : Nat
  bytes : Nat
  deriving DecidableEq, Repr

/-- What an op asks of its descriptor: the ranges and reserved bits of R170 code 0x0011, its references, and the
coding rules of code 0x0015. -/
structure Plan where
  fields : Bool
  refs : List RefUse
  rules : Bool
  deriving DecidableEq, Repr

/-- Bits of a reference that are reserved (R173). -/
def brefClean (w : Nat) : Bool := decide (w / 2 ^ 48 = 0) && !bitOf w 5

/-- Bits set in a word outside a list of (high, low) fields. -/
def clearOutside (w : Nat) (fields : List (Nat × Nat)) : Bool :=
  (List.range 64).all fun i => !bitOf w i || fields.any fun f => decide (f.2 ≤ i ∧ i ≤ f.1)

/-- The buffer a reference names. -/
def Job.buffer (j : Job) (w : Nat) : Option (Nat × Nat) :=
  (if bitOf w 4 then j.outs else j.ins)[w % 16]?

def brefOffset (w : Nat) : Nat := w % 2 ^ 32 / 64 * 64
def brefStride (w : Nat) : Nat := bitsOf w 47 32 * 64

/-- Address of stream `i` of a reference. -/
def Job.stream (j : Job) (word i : Nat) : Nat :=
  match j.buffer (j.w word) with
  | some b => b.1 + brefOffset (j.w word) + i * brefStride (j.w word)
  | none => 0

/-- A range in Loft, the Mortise buffers, the data memories or DRAM (code 0x0014). -/
def inEngineSpace (a n : Nat) : Bool :=
  let inR (lo len : Nat) : Bool := decide (lo ≤ a ∧ a + n ≤ lo + len)
  inR loftBase 0x3000000 || inR bufBase 0xC00000 || inR dataBase (72 * 0x80000) || inR dramBase 0x1000000000

/-- The checks of R170 on one reference. -/
def Job.refCode (j : Job) (u : RefUse) : Nat :=
  let w := j.w u.word
  match j.buffer w with
  | none => 0x12
  | some b =>
    let extent := if u.streams > 1 then (u.streams - 1) * brefStride w + u.bytes else u.bytes
    if brefOffset w + extent > b.2 then 0x12
    else if (b.1 + brefOffset w) % 64 ≠ 0 ∨ (u.streams > 1 ∧ brefStride w < u.bytes) then 0x13
    else if !inEngineSpace b.1 b.2 then 0x14
    else 0

/-- The first failing check of R170 and R202; 0 where none fails. [log 62] -/
def Job.check (j : Job) (kind nops : Nat) (p : Plan) : Nat :=
  let w0 := j.w 0
  let w7 := j.w 7
  if bitsOf w0 39 32 ≠ kind ∨ bitsOf w0 47 40 ≠ 1 ∨ bitsOf w0 31 24 ≥ nops then 0x10
  else if w0 / 2 ^ 48 ≠ 0 ∨ !brefClean w7 ∨ !p.fields then 0x11
  else
    let st := if w7 % 2 ^ 48 = 0 then [] else if !bitOf w7 4 then [0x12] else [j.refCode ⟨7, 1, 32⟩]
    let codes := (p.refs.map j.refCode ++ st).filter (· ≠ 0)
    match codes with
    | [] => if p.rules then 0 else 0x15
    | c :: r => r.foldl min c

/-- How an op's work ends: with a report that is not finished, its code and address; or with the parts saturated, the
cycles and the class's count of the status block, the outputs in order, and further register updates. -/
inductive JobEnd where
  | bad (rep : Report) (code addr : Nat)
  | done (sat cycles word1 : Nat) (outs : List (Nat × List Byte)) (counts : List (Nat × Nat))
  deriving DecidableEq, Repr

/-- The status block (R172). -/
def statusBlock (sat cycles word1 : Nat) : List Byte :=
  ([cycles % 2 ^ 32 * 2 ^ 32 + sat % 2 ^ 32, word1, 0, 0].map (toBytes 8)).flatten

/-! ## HARQ cache (R230): 256-byte lines of a Bay, most recently used first -/

/-- Lines a Bay's cache can hold: it is enabled and lies inside one of the Bay's Loft windows. -/
def State.harqSize (s : State) (b : Nat) : Nat :=
  let w := s.fld (BAY_HQ_CACHE b) 21 16
  let mib := min 16 (s.fld (BAY_HQ_CACHE b) 4 0)
  let v := s.reg (LFT_WIN w)
  if s.flag (BAY_HQ_CACHE b) 31 && bitOf v 31 && !bitOf v 30 && bitsOf v 26 24 == b &&
      decide (s.fld (BAY_HQ_CACHE b) 15 8 + 16 * mib ≤ s.fld (LFT_WIN_SIZE w) 9 0) then mib * 4096 else 0

/-- Lines that a look-up finds. -/
def State.harqLines (s : State) (b : Nat) : List (Nat × Nat) := (tget s.loft.harq b []).take (s.harqSize b)
def State.setHarq (s : State) (b : Nat) (l : List (Nat × Nat)) : State :=
  { s with loft := { s.loft with harq := if l.isEmpty then tdel s.loft.harq b else tput s.loft.harq b l } }

/-- A write of BAY_HQ_CACHE over `old`: a cache that stays where it was keeps the lines it can still hold; another is empty. [log 69] -/
def State.harqPlaced (s : State) (b old : Nat) : State :=
  let v := s.reg (BAY_HQ_CACHE b)
  s.setHarq b (if bitsOf v 31 8 = bitsOf old 31 8 then s.harqLines b else [])

/-- Addresses of the lines a range touches. -/
def harqTouched (a n : Nat) : List Nat := (List.range ((a + n - 1) / 256 - a / 256 + 1)).map fun i => (a / 256 + i) * 256

/-- The cache after MRT_HQ has written a range to memory: lines it holds are renewed, and a new bank's are allocated,
the least recently used ones giving way; a line that can no longer be looked up is dropped. [log 69] -/
def State.harqWritten (s : State) (ag : Agent) (a n : Nat) (alloc : Bool) : State :=
  if n = 0 then s
  else each (harqTouched a n) (fun x s =>
    let held := tget s.loft.harq ag.bay []
    let rest := held.filter fun e => e.1 != x
    if s.harqSize ag.bay = 0 then (if rest.length = held.length then s else s.setHarq ag.bay rest)
    else if alloc || held.any fun e => e.1 == x then
      s.setHarq ag.bay (((x, ofBytes (s.got ag x 256)) :: rest).take (s.harqSize ag.bay))
    else s) s

/-- A read of an old bank: hits come from the cache, the rest from memory; the failing address, or the bytes. [log 69] -/
def State.harqRead (s : State) (e : Nat) (ag : Agent) : Nat → List Nat → Nat → Except Nat (List Byte) × State
  | _, [], _ => (.ok [], s)
  | a, x :: r, stop =>
    let lo := max a x
    let n := min stop (x + 256) - lo
    let l := s.harqLines ag.bay
    match l.find? fun y => y.1 == x with
    | some y =>
      let t := (s.setHarq ag.bay (y :: l.filter fun z => z.1 != x)).bump (MRT_HQ_HIT_CNT e)
      match t.harqRead e ag a r stop with
      | (.ok rest, t) => (.ok (((toBytes 256 y.2).drop (lo - x)).take n ++ rest), t)
      | (.error z, t) => (.error z, t)
    | none =>
      match (s.bump (MRT_HQ_MISS_CNT e)).memRead ag lo n with
      | (.error _, t) => (.error (s.firstBad ag lo n), t)
      | (.ok bs, t) => match t.harqRead e ag a r stop with
        | (.ok rest, t) => (.ok (bs ++ rest), t)
        | (.error z, t) => (.error z, t)

/-- The outputs of a dematching job as the Bay's cache sees them: the first C are the new bank. -/
def State.harqSeen (s : State) (j : Job) (outs : List (Nat × List Byte)) : State :=
  if j.f 0 39 32 = 9 ∧ j.f 0 31 24 ≥ 2 then
    each (List.range outs.length) (fun i s =>
      let o := outs.getD i (0, [])
      s.harqWritten j.agent o.1 o.2.length (bitOf (j.w 0) 22 && decide (i ≤ j.f 0 10 3))) s
  else s

/-- An FFT job with prefixes, whose descriptor's word 0 this is, uses the table word at an offset of its page (R201). [log 64] -/
def usesTable (w0 off : Nat) : Bool :=
  bitsOf w0 39 32 == 3 && decide (bitsOf w0 31 24 < 2) &&
    (off / 16 == 0x40 + bitsOf w0 19 16 || (decide (0 < bitsOf w0 13 10) && off / 128 == 0xC + bitsOf w0 15 14))

/-- A job whose outputs are computed: they are written in order, the status block last (R168, R172). Where a table was
changed while the job ran, they are undefined (R201). [log 64] -/
def State.endJob (s : State) (j : Job) : JobEnd → State
  | .bad rep code addr => s.engError j.e j.bay rep code addr
  | .done sat cycles word1 outs counts =>
    let f := s.free
    let open' := (s.eng j.e).changed.any (usesTable (j.w 0))
    let outs := if open' then outs.map fun o => (o.1, (List.range o.2.length).map fun i => Config.freeByte f (o.1 + i)) else outs
    let s := if open' then { s with free := f + 1 } else s
    let st := if j.w 7 % 2 ^ 48 = 0 then [] else [(j.stream 7 0, statusBlock sat cycles word1)]
    match s.putAll j.agent (outs ++ st) with
    | (some a, t) => t.engError j.e j.bay .failed 0x03 (s.firstUnwritable j.agent (outs ++ st) a)
    | (none, s) =>
      let s := s.harqSeen j outs
      let s := each counts (fun c s => s.bumpBy c.1 c.2) (s.bumpBy (MRT_SAT_CNT j.e) sat)
      let s := s.bumpWide (MRT_BUSY_LO j.e) cycles
      s.setEng j.e { s.eng j.e with
        report := some .finished, cycles, word0 := j.w 0, written := outs.map fun o => (o.1, o.2.length), changed := [] }

/-- An engine runs the task it holds as one op of its class: the descriptor is read and checked whole, then the op's
work runs. A task whose descriptor names another op of the class is not run by this command. [log 62] -/
def State.runJob (s : State) (e kind nops op : Nat) (plan : Job → Plan) (work : Job → State → JobEnd × State) : State :=
  match (s.eng e).task, (s.eng e).report with
  | some idx, none =>
    if s.engSt e ≠ 3 ∨ !s.islandUp (16 + e) then s
    else match s.taskAt idx with
      | none => s
      | some (f, _, t) =>
        let j0 : Job := ⟨e, f.bay, t.job, [], t.ins, t.outs⟩
        if t.job % 64 ≠ 0 then s.engError e f.bay .descriptor 0x13 t.job
        else match s.memRead j0.agent t.job 64 with
          | (.error _, u) => u.engError e f.bay .inputError 0x02 (s.firstBad j0.agent t.job 64)
          | (.ok bs, s) =>
            match s.memRead j0.agent t.buf (16 * (t.nIn + t.nOut)) with
            | (.error _, u) => u.engError e f.bay .inputError 0x02 (s.firstBad j0.agent t.buf (16 * (t.nIn + t.nOut)))
            | (.ok bb, s) =>
              let bufs := (List.range (t.nIn + t.nOut)).map fun k =>
                (bitsOf (wordAt bb (2 * k)) 47 0, bitsOf (wordAt bb (2 * k + 1)) 31 0)
              let j : Job := { j0 with words := (List.range 8).map (wordAt bs), ins := bufs.take t.nIn, outs := bufs.drop t.nIn }
              match j.check kind nops (plan j) with
              | 0 => if j.f 0 31 24 ≠ op then s else let r := work j s; r.2.endJob j r.1
              | c => s.engError e f.bay .descriptor c t.job
  | _, _ => s

/-- Streams of a reference read in order: the failing address, or their bytes. -/
def Job.readStreams (j : Job) (word bytes : Nat) : List Nat → State → Except Nat (List (List Byte)) × State
  | [], s => (.ok [], s)
  | i :: r, s =>
    match s.memRead j.agent (j.stream word i) bytes with
    | (.error _, t) => (.error (s.firstBad j.agent (j.stream word i) bytes), t)
    | (.ok bs, s) => match j.readStreams word bytes r s with
      | (.ok rest, s) => (.ok (bs :: rest), s)
      | (.error a, s) => (.error a, s)

/-- Streams read, or the job's end in an input error (R168). -/
def Job.withInput (j : Job) (word bytes n : Nat) (s : State) (k : List (List Byte) → State → JobEnd × State) : JobEnd × State :=
  match j.readStreams word bytes (List.range n) s with
  | (.ok x, s) => k x s
  | (.error a, s) => (.bad .inputError 0x02 a, s)

/-- A reference lies in DRAM. -/
def Job.inDram (j : Job) (word : Nat) : Bool := decide (j.stream word 0 ≥ dramBase ∧ j.stream word 0 < dramBase + 0x1000000000)

/-- Bytes of a reference that lie in DRAM. -/
def Job.dramBytes (j : Job) (word bytes : Nat) : Nat := if j.inDram word then bytes else 0

/-- Cycles that moving bytes adds where some of them lie in DRAM, whose rate the rules leave open. [log 63, 117] -/
def dramDelay (bytes : Nat) (s : State) : Nat × State :=
  if bytes = 0 then (0, s) else let (f, s) := s.fresh; (f % 2 ^ 24, s)

/-- n / m rounded up. -/
def cdiv (n m : Nat) : Nat := (n + m - 1) / m
def ceilTo (n m : Nat) : Nat := cdiv n m * m

/-- Bytes of a value for `Config.unit`. -/
def keyOf (bss : List (List Byte)) : List Nat := bss.map ofBytes

/-- Bits of bytes, in the order of R204, and bytes of bits. -/
def bitsOfBytes (bs : List Byte) (n : Nat) : List Nat := (List.range n).map fun i => (ofBytes bs) / 2 ^ i % 2
def bytesOfBits (bits : List Nat) : List Byte := toBytes (cdiv bits.length 8) (joinLanes 1 bits)

/-- The low `n` bits of a value as a list, bit 0 first. -/
def bitList (n v : Nat) : List Nat := (List.range n).map fun i => v / 2 ^ i % 2

/-- A CRC over a list of bits in order, from 0; a block with its CRC attached gives 0. -/
def crcBits (poly : Nat) (bits : List Nat) : Nat := bits.foldl (crcBit poly) 0

/-- The bits of a CRC, most significant first. -/
def crcTail (poly : Nat) (bits : List Nat) : List Nat := bitsMsb (crcPoly poly).2 (crcBits poly bits)

/-! ## Requests, reports, faults and abandons -/

/-- ENGINE_REQUEST (R167). -/
def execEngineRequest (e : EngineNo) (s : State) : Host.Outcome State Fault Refusal := .next (s.after (s.engAsk e.val))

/-- The engine's report reaches the Truss: the engine is free, unless the Truss takes the task away first (R91, R168, R169). [log 62] -/
def State.engReports (s : State) (e : Nat) (rep : Report) : State :=
  if s.engSt e ≠ 3 then s
  else
    let t := s.report (128 + e) rep
    if t.engSt e = 4 then t
    else (if rep = .finished then (t.bump (MRT_JOB_CNT e)).setReg (MRT_LAST_CYC e) (min (t.eng e).cycles 0xFFFFFFFF) else t).engFree e

/-- Outputs that a job has written are undefined where a table it used was changed before its report (R201). [log 64] -/
def State.spoilByTable (s : State) (e : Nat) : State :=
  let x := s.eng e
  if x.report = some .finished ∧ x.changed.any (usesTable x.word0) = true then
    let f := s.free
    let outs := x.written.map fun o => (o.1, (List.range o.2).map fun i => Config.freeByte f (o.1 + i))
    (({ s with free := f + 1 }).putAll ⟨.engine (Fin.ofNat 67 e), s.engineBay e, false⟩ outs).2
  else s

/-- ENGINE_JOB_FINISH (R168): the one report of the job, after which the engine is free. -/
def execEngineJobFinish (e : EngineNo) (s : State) : Host.Outcome State Fault Refusal :=
  .next (s.after (match (s.eng e.val).report with
    | none => s
    | some rep => (s.spoilByTable e.val).engReports e.val rep))

/-- ENGINE_FAULT (R168, R200): a datapath check fails; the engine stops at once, its task reruns or ends, and firmware
counts the fault towards R452. -/
def execEngineFault (e : EngineNo) (unit : BitVec 32) (s : State) : Host.Outcome State Fault Refusal :=
  .next (s.after (
    if s.engSt e.val = 5 ∨ !s.islandUp (16 + e.val) then s
    else
      let bay := s.engineBay e.val
      let t := s.setEng e.val { s.eng e.val with task := none, report := none }
      let t := ((t.setEngSt e.val 5).bump (MRT_FAULT_CNT e.val)).capture (engPage e.val) bay 0x04 unit.toNat
      let t := (t.raise (engPage e.val) 3).consumerLost (128 + e.val)
      { t with truss := { t.truss with asking := t.truss.asking.filter (· != 128 + e.val) } }))

/-- ENGINE_ABANDON (R169): the engine whose task was taken away is free again. -/
def execEngineAbandon (e : EngineNo) (s : State) : Host.Outcome State Fault Refusal :=
  .next (s.after (
    if s.engSt e.val ≠ 4 then s
    else ((s.engFree e.val).bump (MRT_ABANDON_CNT e.val)).raise (engPage e.val) 4))


end Sys2Proof.Machine
end

