-- ==== Sys2Proof/Machine/Air.lean ====
section
/-! DEFINITION. AIR (R236 to R251): job channels, mapping, demapping, MEASURE, LOAD, completions, purges and lane
faults. -/

namespace Sys2Proof.Machine

/-! ## Channels -/

/-- AIR_CH_STAT as read: busy and queued. -/
def State.airStat (s : State) (c : Nat) : Nat :=
  let x := s.airCh c
  s.fld (airReg c (AIR_CH_STAT 0)) 30 29 * 2 ^ 29 + bitNat x.result.isSome * 2 ^ 31 + x.jobs.length % 32 * 2 ^ 16

/-- Entries are fetched in order up to P; a failed read disables the channel (R236, R268). -/
def State.airFetchTo (s : State) (c : Nat) : Nat → State
  | 0 => s
  | n + 1 =>
    let f := s.airFetch c
    if f = (s.airCh c).prod.toNat then s
    else match s.memRead (s.airAgent c) (s.airRing c + 64 * (f % 16)) 64 with
      | (.error _, s) => (s.setFlag (airReg c (AIR_CH_STAT 0)) 30 true).setFlag (airReg c (AIR_CH_CTL 0)) 31 false
      | (.ok bs, s) =>
        let x := s.airCh c
        let s := s.setAirCh c { x with jobs := x.jobs ++ [(List.range 8).map (wordAt bs)] }
        (s.setReg (airReg c (AIR_CH_FETCH 0)) (add32 f 1)).airFetchTo c n

/-- A store to the producer word, once it is in memory (R238). -/
def State.airTake (s : State) (c p : Nat) : State :=
  if !s.airOn c then s
  else
    let f := s.airFetch c
    if sub32 p f ≤ sub32 (add32 (s.airDone c) 16) f then
      (s.setAirCh c { s.airCh c with prod := BitVec.ofNat 32 p }).airFetchTo c 16
    else ((s.setFlag (airReg c (AIR_CH_STAT 0)) 29 true).bump AIR_PROD_ERR_CNT).raise airPage 3

/-- Bytes stored at a device address as the Loft banks signal them to AIR: every enabled channel whose producer word
they cover takes its new value. -/
def State.airStored (s : State) (a n : Nat) : State :=
  each (List.range 72) (fun c s =>
    let w := s.airRing c + 1024
    if s.airOn c && decide (a < w + 4 ∧ w < a + n) then
      match s.memRead ⟨.truss, 0, true⟩ w 4 with
      | (.ok bs, _) => s.airTake c (ofBytes bs)
      | (.error _, _) => s
    else s) s

/-- AIR_PRODUCER_STORE (R236, R238): a requester stores a producer value in the channel's ring. -/
def execAirProducerStore (r : Requester) (ch : CoreNo) (p : BitVec 32) (s : State) : Host.Outcome State Fault Refusal :=
  .next (s.after (
    let w := s.airRing ch.val + 1024
    let x := s.memWrite (s.agent r) w (toBytes 4 p.toNat)
    if x.1 then x.2.airStored w 4 else x.2))

/-! ## Jobs -/

/-- Fields of R249. -/
structure AirJob where
  ch : Nat
  w : List Nat
  deriving DecidableEq, Repr

def AirJob.f (j : AirJob) (i hi lo : Nat) : Nat := bitsOf (j.w.getD i 0) hi lo
def AirJob.op (j : AirJob) : Nat := j.f 0 31 24
def AirJob.layers (j : AirJob) : Nat := j.f 0 19 16 + 1
def AirJob.symbols (j : AirJob) : Nat := j.f 0 11 8 + 1
def AirJob.dense (j : AirJob) : Bool := j.f 0 13 13 == 1
def AirJob.pi2 (j : AirJob) : Nat := j.f 0 12 12
def AirJob.gain (j : AirJob) : Nat := j.f 1 63 48
def AirJob.n (j : AirJob) : Nat := j.f 1 44 32
def AirJob.start (j : AirJob) : Nat := j.f 1 31 0
def AirJob.addr (j : AirJob) (i : Nat) : Nat := j.f i 47 0
def AirJob.stride (j : AirJob) (i : Nat) : Nat := j.f i 63 48 * 64

/-- The checks made before any data is read: 0x10, 0x11 and 0x13. -/
def AirJob.check (j : AirJob) : Nat :=
  let op := j.op
  if j.f 0 47 40 ≠ 1 ∨ op > 3 then 0x10
  else if !clearOutside (j.w.getD 0 0) [(47, 40), (31, 24), (19, 4)] || !clearOutside (j.w.getD 1 0) [(63, 48), (44, 0)] ||
      !clearOutside (j.w.getD 6 0) [(63, 48), (27, 0)] || decide (j.f 0 19 16 > if op ≥ 2 then 0 else 7) ||
      decide (j.f 0 15 14 > 2) || decide (j.f 0 11 8 > 13) || decide (j.n = 0 ∨ j.n > 4096) ||
      (op == 3 && (decide (j.f 0 7 4 = 0 ∨ j.f 0 7 4 > 12) || decide (j.gain > 480))) then 0x11
  else if j.addr 2 % 64 ≠ 0 ∨ (op ≠ 0 ∧ j.addr 3 % 64 ≠ 0) ∨ j.addr 4 % 64 ≠ 0 ∨ (op = 1 ∧ j.addr 5 % 64 ≠ 0) then 0x13
  else 0

/-- Reads made in order: the bytes, or none where one failed. -/
def State.readAll (s : State) (ag : Agent) : List (Nat × Nat) → Option (List (List Byte)) × State
  | [] => (some [], s)
  | (a, n) :: r =>
    match s.memRead ag a n with
    | (.error _, s) => (none, s)
    | (.ok bs, s) => match s.readAll ag r with
      | (some rest, s) => (some (bs :: rest), s)
      | (none, s) => (none, s)

/-- A RUN map from its address (R245): the codes, or the completion code of its fault. -/
def State.airRuns (s : State) (ag : Agent) (a : Nat) : Nat → Nat → Except Nat (List Nat) × State
  | 0, left => (if left = 0 then .ok [] else .error 0x12, s)
  | fuel + 1, left =>
    if left = 0 then (.ok [], s)
    else match s.memRead ag a 2 with
      | (.error _, s) => (.error 0x20, s)
      | (.ok bs, s) =>
        let v := ofBytes bs
        let n := bitsOf v 11 0 + 1
        if n > left then (.error 0x12, s)
        else match s.airRuns ag (a + 2) fuel (left - n) with
          | (.ok rest, s) => (.ok (List.replicate n (bitsOf v 15 12) ++ rest), s)
          | (.error c, s) => (.error c, s)

/-- A map may hold no code 14, code 13 only with one layer, and of the codes above 12 a MEASURE job, which takes the points of
codes 1 to 12, may hold 15 alone. [log 70] -/
def AirJob.allows (j : AirJob) (codes : List Nat) : Bool :=
  !codes.contains 14 && !(codes.contains 13 && (decide (j.layers > 1) || j.op == 2))

/-- The codes of one symbol's map (R245). -/
def State.airMap (s : State) (j : AirJob) (sym : Nat) : Except Nat (List Nat) × State :=
  let ag := s.airAgent j.ch
  let a := j.addr 2 + sym * j.stride 2
  let r := if j.dense then
      match s.memRead ag a ((j.n + 1) / 2) with
      | (.error _, s) => ((.error 0x20 : Except Nat (List Nat)), s)
      | (.ok bs, s) => (.ok ((List.range j.n).map fun k => ofBytes bs / 16 ^ k % 16), s)
    else s.airRuns ag a j.n j.n
  match r with
  | (.ok codes, s) =>
    if j.allows codes then (.ok codes, s) else (.error 0x12, s)
  | (.error c, s) => (.error c, s)

def State.airMaps (s : State) (j : AirJob) : List Nat → Except Nat (List (List Nat)) × State
  | [] => (.ok [], s)
  | k :: r =>
    match s.airMap j k with
    | (.error c, s) => (.error c, s)
    | (.ok m, s) => match s.airMaps j r with
      | (.ok ms, s) => (.ok (m :: ms), s)
      | (.error c, s) => (.error c, s)

/-- A resource element in the order of R246: symbol, subcarrier, layer, code, stream position, and its number among the
job's symbols of code 13. -/
structure AirRe where
  sym : Nat
  k : Nat
  l : Nat
  code : Nat
  pos : Nat
  i13 : Nat
  deriving DecidableEq, Repr

/-- The resource elements of the job, code 0 and 15 among them. -/
def AirJob.elements (j : AirJob) (maps : List (List Nat)) : List AirRe :=
  let all := (List.range maps.length).flatMap fun sym =>
    (List.range j.n).flatMap fun k => (List.range j.layers).map fun l => (sym, k, l, (maps.getD sym []).getD k 0)
  (all.foldl (fun (a : List AirRe × Nat × Nat) e =>
    (⟨e.1, e.2.1, e.2.2.1, e.2.2.2, a.2.1, a.2.2⟩ :: a.1, a.2.1 + codeQm e.2.2.2, a.2.2 + bitNat (e.2.2.2 == 13)))
    ([], j.start, 0)).1.reverse

/-- Address of a plane's sample (R249). -/
def AirJob.plane (j : AirJob) (word : Nat) (e : AirRe) : Nat :=
  j.addr word + (e.sym * j.layers + e.l) * j.stride word + 4 * e.k

/-- AIR_STEP of a code. -/
def State.airStep (s : State) (c : Nat) : Nat := s.fld (AIR_STEP (c - 1)) 15 0

/-- REs of codes 1 to 8 and 13, and of codes 9 to 12, in one symbol's map. -/
def loHi (m : List Nat) : Nat × Nat :=
  (m.countP fun c => decide (1 ≤ c ∧ c ≤ 8) || c == 13, m.countP fun c => decide (9 ≤ c ∧ c ≤ 12))

/-- Cycles of R251. -/
def AirJob.cycles (j : AirJob) (maps : List (List Nat)) : Nat :=
  match j.op with
  | 0 => j.symbols * (cdiv (j.n * j.layers) 48 + 8) + 48
  | 1 => maps.foldl (fun t m => t + cdiv ((2 * (loHi m).1 + 3 * (loHi m).2) * j.layers) 48 + 12) 64
  | 2 => j.symbols * (cdiv j.n 16 + 12) + 64
  | _ => cdiv j.n 8 + 64

/-- How a job ends: its code, the parts saturated, and its output writes in order. -/
structure AirEnd where
  code : Nat
  sat : Nat
  outs : List (Nat × List Byte)
  deriving DecidableEq, Repr

/-! ### MAP -/

/-- A mapped part (R243). -/
def mapPart (lev : Int) (step gain : Nat) : Nat × Nat :=
  let x := rnd (lev * ((step * gain : Nat) : Int)) 16
  (wrap 16 (satS 16 x), bitNat (satS 16 x != x))

def airMapOut (s : State) (j : AirJob) (bits : Nat) (e : AirRe) : Nat × List Byte × Nat :=
  if e.code = 0 then (j.plane 4 e, List.replicate 4 0, 0)
  else
    let b := bitList (codeQm e.code) (bits / 2 ^ (e.pos - j.start))
    let lv := codeLevels e.code b
    let lv := if e.code = 13 ∧ (e.i13 + j.pi2) % 2 = 1 then (-lv.2, lv.1) else lv
    let step := s.airStep e.code
    let x := mapPart lv.1 step j.gain
    let y := mapPart lv.2 step j.gain
    (j.plane 4 e, toBytes 2 x.1 ++ toBytes 2 y.1, x.2 + y.2)

def airDoMap (j : AirJob) (maps : List (List Nat)) (s : State) : AirEnd × State :=
  let es := (j.elements maps).filter fun e => e.code != 15
  let total := es.foldl (fun n e => n + codeQm e.code) 0
  let first := j.start % 8
  match s.memRead (s.airAgent j.ch) (j.addr 3 + j.start / 8) ((first + total + 7) / 8) with
  | (.error _, s) => (⟨0x20, 0, []⟩, s)
  | (.ok bs, s) =>
    let outs := es.map (airMapOut s j (ofBytes bs / 2 ^ first))
    (⟨0, outs.foldl (fun n o => n + o.2.2) 0, outs.map fun o => (o.1, o.2.1)⟩, s)

/-! ### DEMAP -/

/-- Units of `Config.unit`. -/
abbrev uDemap : Nat := 40
abbrev uNearest : Nat := 41
abbrev uLoad : Nat := 42

/-- An LLR of R247, within ±1 (R248), and whether the formula saturates. [log 6, 72] -/
def airLlr (code n step : Nat) (y : Int × Int) (scale gain : Nat) : Nat × Bool :=
  let x := rawLlr code n step y scale gain
  let e : Int := ((Config.unit uDemap [code, n, step, wrap 16 y.1, wrap 16 y.2, scale, gain] % 3 : Nat) : Int) - 1
  let c := (llr127 x).1
  if scale = 0 then (0, false) else (wrap 8 (llr127 (c + e)).1, (llr127 x).2)

/-- Planes of the job's symbols and layers, as reads. -/
def AirJob.planes (j : AirJob) : List (Nat × Nat) :=
  (List.range j.symbols).flatMap fun sym => (List.range j.layers).map fun l =>
    (j.addr 3 + (sym * j.layers + l) * j.stride 3, 4 * j.n)

/-- Groups of subcarriers, and the reads of their scale streams. -/
def AirJob.groups (j : AirJob) : Nat := cdiv j.n (12 * 2 ^ j.f 0 15 14)
def AirJob.scales (j : AirJob) : List (Nat × Nat) :=
  if j.addr 5 = 0 then [] else (List.range j.groups).map fun g => (j.addr 5 + g * j.stride 5, 2 * j.layers)

def ci16At (bs : List Byte) (k : Nat) : Int × Int :=
  let v := ofBytes ((bs.drop (4 * k)).take 4)
  (cre 16 v, cim 16 v)

def airDoDemap (j : AirJob) (maps : List (List Nat)) (s : State) : AirEnd × State :=
  match s.readAll (s.airAgent j.ch) j.planes with
  | (none, s) => (⟨0x20, 0, []⟩, s)
  | (some xs, s) => match s.readAll (s.airAgent j.ch) j.scales with
    | (none, s) => (⟨0x20, 0, []⟩, s)
    | (some gs, s) =>
      let llrs := (j.elements maps).flatMap fun e =>
        let y := ci16At (xs.getD (e.sym * j.layers + e.l) []) e.k
        let y := if e.code = 13 ∧ (e.i13 + j.pi2) % 2 = 1 then (y.2, -y.1) else y
        let sc := if j.addr 5 = 0 then j.f 6 63 48
          else ofBytes (((gs.getD (e.k / (12 * 2 ^ j.f 0 15 14)) []).drop (2 * e.l)).take 2)
        (List.range (codeQm e.code)).map fun n => (e.pos + n, airLlr e.code n (s.airStep e.code) y sc j.gain)
      (⟨0, llrs.countP fun x => x.2.2, llrs.map fun x => (j.addr 4 + x.1, toBytes 1 x.2.1)⟩, s)

/-! ### MEASURE and LOAD (R250) -/

/-- The levels that lie nearest a part; where two do, which is taken is open. [log 72] -/
def nearestLevel (n step : Nat) (y : Int) : Int :=
  let ls := (List.range (2 ^ n)).map fun v => axisLevel (bitsMsb n v)
  let d (l : Int) : Int := (16 * y - l * (step : Int)) * (16 * y - l * (step : Int))
  let m := least (ls.map d)
  let near := ls.filter fun l => d l == m
  near.getD (Config.unit uNearest [n, step, wrap 16 y] % max 1 near.length) 0

/-- The point of a code that the bits name, or the nearest one. -/
def airPoint (code step : Nat) (bits : Option (List Nat)) (y : Int × Int) : Int × Int :=
  match bits with
  | some b => codeLevels code b
  | none =>
    if code = 1 then
      let d (l : Int) : Int := (16 * y.1 - l * (step : Int)) ^ 2 + (16 * y.2 - l * (step : Int)) ^ 2
      let l : Int := if d 1 < d (-1) then 1 else if d (-1) < d 1 then -1
        else if Config.unit uNearest [step, wrap 16 y.1, wrap 16 y.2] % 2 = 0 then 1 else -1
      (l, l)
    else (nearestLevel ((code + 1) / 2) step y.1, nearestLevel (code / 2) step y.2)

/-- What one RE adds to S and E: 256 times the powers, rounded by 8 + 8 bits. -/
def airPowers (step : Nat) (l y : Int × Int) : Nat × Nat :=
  let p (x : Int) : Int := x * x
  ((rnd (p (l.1 * step) + p (l.2 * step)) 16).toNat,
    (rnd (p (16 * y.1 - l.1 * step) + p (16 * y.2 - l.2 * step)) 16).toNat)

def airDoMeasure (j : AirJob) (maps : List (List Nat)) (s : State) : AirEnd × State :=
  let ag := s.airAgent j.ch
  let es := (j.elements maps).filter fun e => decide (1 ≤ e.code ∧ e.code ≤ 12)
  let total := (j.elements maps).foldl (fun n e => n + codeQm e.code) 0
  let first := j.start % 8
  let bitReads := if j.addr 5 = 0 then [] else [(j.addr 5 + j.start / 8, (first + total + 7) / 8)]
  match s.readAll ag (bitReads ++ [(j.addr 4, 8 * j.n)] ++ j.planes) with
  | (none, s) => (⟨0x20, 0, []⟩, s)
  | (some rs, s) =>
    let bits := if j.addr 5 = 0 then none else some (ofBytes (rs.getD 0 []) / 2 ^ first)
    let rs := rs.drop bitReads.length
    let arr := rs.getD 0 []
    let xs := rs.drop 1
    let one (k : Nat) : Nat × Nat :=
      (es.filter fun e => e.k == k).foldl (fun (a : Nat × Nat) e =>
        let y := ci16At (xs.getD e.sym []) k
        let b := bits.map fun v => bitList (codeQm e.code) (v / 2 ^ (e.pos - j.start))
        let p := airPowers (s.airStep e.code) (airPoint e.code (s.airStep e.code) b y) y
        (min (a.1 + p.1) 0xFFFFFFFF, min (a.2 + p.2) 0xFFFFFFFF))
        (ofBytes ((arr.drop (8 * k)).take 4), ofBytes ((arr.drop (8 * k + 4)).take 4))
    (⟨0, 0, [(j.addr 4, (List.range j.n).flatMap fun k => toBytes 4 (one k).1 ++ toBytes 4 (one k).2)]⟩, s)

/-- The `n`-th power of S times 10^x reaches that of E × (2^b − 1). -/
def loadReachesN (n sv ev b : Nat) (x : Int) : Bool :=
  if x ≥ 0 then decide (sv ^ n * 10 ^ x.toNat ≥ (ev * (2 ^ b - 1)) ^ n)
  else decide (sv ^ n ≥ (ev * (2 ^ b - 1)) ^ n * 10 ^ (-x).toNat)

/-- S / E reaches (2^b − 1) × 10^((margin/16 + d/400) / 10): 4,000th powers make the comparison exact. -/
def loadReaches (sv ev b margin : Nat) (d : Int) : Bool := loadReachesN 4000 sv ev b (-(25 * (margin : Int) + d))

/-- b_k of R250: a ratio within 0.02 dB of a threshold can fall on either side, and 0 / 0 is open. [log 72] -/
def loadBits (bmax margin sv ev : Nat) : Nat :=
  let pick (b : Nat) : Bool := Config.unit uLoad [bmax, margin, sv, ev, b] % 2 == 1
  if sv = 0 ∧ ev = 0 then (if pick 0 then bmax else 0)
  else if ev = 0 then bmax
  else if sv = 0 then 0
  else ((List.range (bmax + 1)).filter fun b =>
    loadReaches sv ev b margin 8 || (loadReaches sv ev b margin (-8) && pick b)).getLastD 0

def airDoLoad (j : AirJob) (maps : List (List Nat)) (s : State) : AirEnd × State :=
  match s.memRead (s.airAgent j.ch) (j.addr 3) (8 * j.n) with
  | (.error _, s) => (⟨0x20, 0, []⟩, s)
  | (.ok arr, s) =>
    let b (k : Nat) : Nat :=
      if (maps.getD 0 []).getD k 0 = 0 then 0
      else loadBits (j.f 0 7 4) j.gain (ofBytes ((arr.drop (8 * k)).take 4)) (ofBytes ((arr.drop (8 * k + 4)).take 4))
    (⟨0, 0, [(j.addr 4, toBytes ((j.n + 1) / 2) (joinLanes 4 ((List.range j.n).map b)))]⟩, s)

/-! ### A job runs -/

/-- Ranges that a job may write; of a demapping job, as many as there can be bits. [log 70] -/
def AirJob.ranges (j : AirJob) : List (Nat × Nat) :=
  match j.op with
  | 0 => (List.range (j.symbols * j.layers)).map fun i => (j.addr 4 + i * j.stride 4, 4 * j.n)
  | 1 => [(j.addr 4 + j.start, 12 * j.n * j.layers * j.symbols)]
  | 2 => [(j.addr 4, 8 * j.n)]
  | _ => [(j.addr 4, (j.n + 1) / 2)]

/-- The oldest fetched entry of a channel runs as one op (R239, R249): its completion waits to be written. An entry that
names another op is not run by this command. A job that stops part-way leaves its outputs undefined. [log 70, 71] -/
def State.airRun (s : State) (ch op : Nat) (work : AirJob → List (List Nat) → State → AirEnd × State) : State :=
  let x := s.airCh ch
  match x.jobs, x.result with
  | w :: _, none =>
    if !s.islandUp 2 then s
    else
      let j : AirJob := ⟨ch, w⟩
      let k := s.core ch
      let stop (s : State) (code : Nat) : State :=
        let (f, s) := s.fresh
        s.setAirCh ch { s.airCh ch with result := some (code, 0, f % 2 ^ 32) }
      let broken (s : State) (code : Nat) : State :=
        stop (each j.ranges (fun r s => s.spoil (s.airAgent ch) r.1 r.2) s) code
      if !k.taskValid || k.taskIndex.toNat != j.f 6 23 0 || k.taskAttempt.toNat != j.f 6 27 24 then stop s 1
      else if j.check ≠ 0 then stop s j.check
      else if j.op ≠ op then s
      else match s.airMaps j (List.range j.symbols) with
        | (.error c, s) => broken s c
        | (.ok maps, s) =>
          let r := work j maps s
          if r.1.code ≠ 0 then broken r.2 r.1.code
          else match r.2.putAll (s.airAgent ch) r.1.outs with
            | (some _, s) => broken s 0x21
            | (none, s) => s.setAirCh ch { s.airCh ch with result := some (0, r.1.sat, j.cycles maps) }
  | _, _ => s

/-- AIR_MAP (R243 to R246, R249). -/
def execAirMap (ch : CoreNo) (s : State) : Host.Outcome State Fault Refusal := .next (s.after (s.airRun ch.val 0 airDoMap))

/-- AIR_DEMAP (R247, R248). -/
def execAirDemap (ch : CoreNo) (s : State) : Host.Outcome State Fault Refusal := .next (s.after (s.airRun ch.val 1 airDoDemap))

/-- AIR_MEASURE (R250). -/
def execAirMeasure (ch : CoreNo) (s : State) : Host.Outcome State Fault Refusal := .next (s.after (s.airRun ch.val 2 airDoMeasure))

/-- AIR_LOAD (R250). -/
def execAirLoad (ch : CoreNo) (s : State) : Host.Outcome State Fault Refusal := .next (s.after (s.airRun ch.val 3 airDoLoad))

/-- AIR_JOB_COMPLETE (R241). -/
def execAirJobComplete (ch : CoreNo) (s : State) : Host.Outcome State Fault Refusal :=
  .next (s.after (match (s.airCh ch.val).result with
    | none => s
    | some (code, sat, cycles) => s.airComplete ch.val code sat cycles))

/-- AIR_PURGE (R240). -/
def execAirPurge (ch : CoreNo) (s : State) : Host.Outcome State Fault Refusal := .next (s.after (s.airPurge ch.val))

/-- AIR_LANE_FAULT (R452, R455): the lane is not ok, its job ends INPUT_ERROR, and the held spare takes its place. Which
running job the lane carried is a free value. [log 72] -/
def execAirLaneFault (demap : Bool) (lane : Fin 3) (s : State) : Host.Outcome State Fault Refusal :=
  .next (s.after (
    let okBit := if demap then 4 else 0
    let spareBit := if demap then 20 else 16
    if !s.flag AIR_STAT (okBit + lane.val) then s
    else
      let spare := s.fld AIR_STAT (spareBit + 2) spareBit
      let swap := s.fld AIR_STAT (okBit + 2) okBit == 7 && spare != lane.val
      let t := (s.setFlag AIR_STAT (okBit + lane.val) false).raise airPage 1
      let mine (c : Nat) : Bool := (t.airCh c).result.isSome && ((AirJob.mk c ((t.airCh c).jobs.getD 0 [])).op == if demap then 1 else 0)
      let running := (List.range 72).filter mine
      let (f, t) := t.fresh
      let t := if spare = lane.val then t else match running[f % (running.length + 1)]? with
        | some c => let (g, t) := t.fresh; t.setAirCh c { t.airCh c with result := some (0x20, 0, g % 2 ^ 32) }
        | none => t
      let unit := lane.val + if demap then 3 else 0
      if swap then
        let (g, t) := t.fresh
        ((t.setFld AIR_STAT (spareBit + 2) spareBit (g % 8)).raise airPage 2).declare 3 unit 1 1
      else t.declare 3 unit 1 2))

end Sys2Proof.Machine
end

