-- ==== Sys2Proof/Machine/Pins.lean ====
section
/-! DEFINITION. The SMBus target and the JTAG port (R414, R471, R472). -/

namespace Sys2Proof.Machine

/-- SMB_ALERT_N is driven low (R471); `hot`: the hottest monitor reads above 105 °C. [log 110] -/
def State.smbAlert (s : State) (hot : Bool) : Bool :=
  (s.life.booted && s.fld LCS_BOOT_STAT 3 0 != 0) || s.fld PLT_FLT_DEGRADED 11 0 != 0 || hot

/-! ## Signal groups (R467) -/

/-- Groups of signals whose state through a reset R467 gives. -/
inductive PinGroup where
  | dramData
  | dramCommand
  | dramResetN
  | scarfTx
  | pegTx
  | laneRx
  | ppsOut
  | todTx
  | qspiSck
  | qspiCsN
  | qspiIo
  | openDrain
  | tdo
  | mgtOut
  | mgtMdio
  deriving DecidableEq, Repr

/-- What a pin shows: a level, or that its block drives it. -/
inductive PinLevel where
  | hiZ
  | low
  /-- CA and CS low, CK and WCK stopped low. -/
  | clocksStopped
  | high
  | commonMode
  | terminationOff
  | released
  | driven
  deriving DecidableEq, Repr

/-- The column "In reset" of R467. -/
def PinGroup.inReset : PinGroup → PinLevel
  | .dramData => .hiZ
  | .dramCommand => .clocksStopped
  | .dramResetN => .low
  | .scarfTx => .commonMode
  | .pegTx => .commonMode
  | .laneRx => .terminationOff
  | .ppsOut => .low
  | .todTx => .high
  | .qspiSck => .low
  | .qspiCsN => .high
  | .qspiIo => .hiZ
  | .openDrain => .released
  | .tdo => .hiZ
  | .mgtOut => .low
  | .mgtMdio => .hiZ

/-- Through a warm reset the lanes, PPS_OUT and TOD_TX run on, and the DRAM is held in self-refresh (R467). -/
def PinGroup.inWarmReset : PinGroup → PinLevel
  | .dramCommand => .clocksStopped
  | .dramResetN => .high
  | .scarfTx => .driven
  | .pegTx => .driven
  | .laneRx => .driven
  | .ppsOut => .driven
  | .todTx => .driven
  | g => g.inReset

/-- The state of a group of pins: R467's through a cold reset, until the device has booted, and through a warm reset, which
ends with the restart of the islands; else the block drives it. [log 110] -/
def State.pinLevel (s : State) (g : PinGroup) : PinLevel :=
  if s.life.inReset || !s.life.booted then g.inReset
  else if s.fld PLT_FW_STAT 7 0 = 2 then g.inWarmReset
  else .driven

/-- SMBUS_READ_WORD (R471): the status word of a Read Word command to address 0x3A, 0x3A itself on the Alert Response
Address, no acknowledgement of a write or of another command. A device held in reset answers nothing. [log 110] -/
def execSmbusReadWord (addr : BitVec 7) (cmd : BitVec 8) (write : Bool) (s : State) :
    Host.Outcome State Fault Refusal :=
  .next (s.after (
    if s.life.inReset then s
    else if addr = 0x0C then (if write then s.emit .smbusNack else s.emit (.smbusAlert 0x3A))
    else if addr != 0x3A then s
    else if write then s.emit .smbusNack
    else match cmd.toNat with
      | 0 => let (t, s) := s.fresh; s.emit (.smbus (BitVec.ofNat 16 t))
      | 1 => s.emit (.smbus (BitVec.ofNat 16 (s.life.state.toNat * 256 + s.fld LCS_BOOT_STAT 3 0)))
      | 2 => s.emit (.smbus (BitVec.ofNat 16 (s.fld PLT_FLT_DEGRADED 11 0)))
      | 3 => s.emit (.smbus (BitVec.ofNat 16 (s.reg PWR_AVS_STAT)))
      | _ => s.emit .smbusNack))

/-- One bit of delay from TDI to TDO, the register captured as 0. [log 111] -/
def bypassOut (scanIn : BitVec 64) : BitVec 64 := scanIn <<< 1

/-- Plate debug is open (R414). [log 111] -/
def State.debugOpen (s : State) : Bool :=
  (s.life.state = 0 || s.life.state = 1 || s.life.state = 3) && s.life.strap = 1

/-- JTAG_TAP_ACCESS (R472): the instructions that take a pin act while RESET_N is low and are BYPASS otherwise. [log 111] -/
def execJtagTapAccess (instr : JtagInstr) (scanIn : BitVec 64) (s : State) : Host.Outcome State Fault Refusal :=
  .next (s.after (
    let scan (s : State) : State :=
      if s.pins.resetN then s.emit (.tdo (bypassOut scanIn))
      else
        let (v, s) := s.fresh
        { s with pins := { s.pins with jtagScan := true, bscan := scanIn } }.emit (.tdo (BitVec.ofNat 64 v))
    match instr with
    | .idcode => s.emit (.tdo (BitVec.ofNat 64 (0x19640A2F + scanIn.toNat % 2 ^ 32 * 2 ^ 32)))
    | .bypass => { s with pins := { s.pins with jtagScan := false } }.emit (.tdo (bypassOut scanIn))
    | .sample =>
      let (v, s) := s.fresh
      { s with pins := { s.pins with bscan := scanIn } }.emit (.tdo (BitVec.ofNat 64 v))
    | .extest | .extestPulse | .extestTrain => scan s
    | .clamp | .highz =>
      if s.pins.resetN then s.emit (.tdo (bypassOut scanIn))
      else { s with pins := { s.pins with jtagScan := true } }.emit (.tdo (bypassOut scanIn))
    | .plateDebug =>
      if s.debugOpen then let (v, s) := s.fresh; s.emit (.tdo (BitVec.ofNat 64 v))
      else s.emit (.tdo (bypassOut scanIn))))

end Sys2Proof.Machine
end

