-- ==== Sys2Proof/Machine/Gauge.lean ====
section
/-! DEFINITION. The Gauge monitor ADC (17). -/

namespace Sys2Proof.Machine

abbrev gauPage : Nat := 0x380
abbrev gauIsland : Nat := 5

/-! ## The scan table -/

def State.gauLen (s : State) : Nat := s.fld GAU_SCAN_LEN 6 0
def State.gauGroup (s : State) (e : Nat) : Nat := s.fld (GAU_SCAN e) 24 24
def State.gauClass (s : State) (e : Nat) : Nat := s.fld (GAU_SCAN e) 21 20
def State.gauOw (s : State) (e : Nat) : Nat := s.fld (GAU_SCAN e) 14 12

/-- Entries in use of a group. -/
def State.gauEntries (s : State) (g : Nat) : List Nat := (List.range s.gauLen).filter fun e => s.gauGroup e == g

/-- Passes between two conversions of an entry: SPARSE decimation (R442). [log 109] -/
def State.gauEvery (s : State) (e : Nat) : Nat := if s.gauClass e = 2 then 2 ^ s.fld (GAU_SCAN e) 19 16 else 1

/-- The next entry of a group, from table position `pos` on, that pass number `n` converts. -/
def State.gauFind (s : State) (g pos n : Nat) : Option Nat :=
  (s.gauEntries g).find? fun e => decide (pos ≤ e) && n % s.gauEvery e == 0

/-- The first pass after pass `n` of a group that converts an entry. [log 109] -/
def State.gauNextPass (s : State) (g n : Nat) : Nat :=
  ((s.gauEntries g).map fun e => (n / s.gauEvery e + 1) * s.gauEvery e).foldl (fun a b => if a = 0 then b else min a b) 0

/-- A conversion's length in nanoseconds (R442, R447): start-up after a power-down, the class time, and for an open-wire
test the settle time and the class time again. -/
def State.gauTime (s : State) (e : Nat) : Nat :=
  let one := if s.gauClass e = 1 then 8000 else 500
  (if s.flag GAU_STAT 29 then 0 else 3200) + one +
    (if s.gauOw e = 0 then 0 else 1000 * s.fld GAU_OW_CFG 7 0 + one)

/-! ## Passes -/

/-- A conversion of entry `e` starts, with the limits and open-wire settings of this time (R446). -/
def State.gauStart (s : State) (e : Nat) : State :=
  let s := { s with gauge := { s.gauge with
    endsAt := s.ridge.ticks + s.gauTime e, lim := s.reg (GAU_LIM e), thr := s.fld GAU_OW_CFG 31 16 } }
  (((s.setFlag GAU_STAT 31 true).setFlag GAU_STAT 29 true)).setFld GAU_STAT 13 8 e

/-- The continuous group's next conversion, or power-down (R443). -/
def State.gauContinuous (s : State) : State :=
  let g := s.gauge
  if s.flag GAU_CTL 4 then
    match s.gauFind 0 g.pos0 g.pass0 with
    | some e => { s with gauge := { g with pos0 := e + 1 } }.gauStart e
    | none =>
      let n := s.gauNextPass 0 g.pass0
      match s.gauFind 0 0 n with
      | some e => { s with gauge := { g with pos0 := e + 1, pass0 := n } }.gauStart e
      | none => (s.setFlag GAU_STAT 31 false).setFlag GAU_STAT 29 false
  else (s.setFlag GAU_STAT 31 false).setFlag GAU_STAT 29 false

/-- What follows a conversion boundary (R443 to R445): a triggered pass goes on, ends and lets a pending one start, and the
continuous group takes the converter otherwise. `n` bounds the passes that end at one boundary. -/
def State.gauNext (s : State) : Nat → State
  | 0 => s.gauContinuous
  | n + 1 =>
    let g := s.gauge
    if g.inPass then
      match s.gauFind 1 g.pos1 g.pass1 with
      | some e => { s with gauge := { g with pos1 := e + 1 } }.gauStart e
      | none =>
        let pend := s.flag GAU_STAT 30
        let s := { s with gauge := { g with inPass := pend, pos1 := 0, pass1 := g.pass1 + 1 } }
        (((s.bump GAU_PASS_CNT).raise gauPage 0).setFlag GAU_STAT 30 false).gauNext n
    else s.gauContinuous

/-- A conversion starts where one is due and none runs. -/
def State.gauIdle (s : State) : State := if s.flag GAU_STAT 31 || !s.islandUp gauIsland then s else s.gauNext 2

/-- A trigger of group 1 (R445). -/
def State.gauTrigger (s : State) : State :=
  if !s.flag GAU_CTL 3 || (s.gauEntries 1).isEmpty || !s.islandUp gauIsland then s
  else if s.gauge.inPass then
    if s.flag GAU_STAT 30 then (s.bump GAU_TRIG_LOST_CNT).raise gauPage 3 else s.setFlag GAU_STAT 30 true
  else { s with gauge := { s.gauge with inPass := true, pos1 := 0 } }.gauIdle

/-- The Gauge's island left reset: each enabled group restarts from its first entry (R450). [log 109] -/
def State.gauRestart (s : State) : State :=
  let s := { s with gauge := { s.gauge with pos0 := 0, pos1 := 0, inPass := false } }
  (((s.setFlag GAU_STAT 31 false).setFlag GAU_STAT 30 false).setFlag GAU_STAT 29 false).gauIdle

/-- The effect of a write of GAU_CTL, whose word was `old` before (R443, R446). -/
def State.gauCtl (s : State) (old v : Nat) : State :=
  let s := if s.flag GAU_CTL 4 && !bitOf old 4 then { s with gauge := { s.gauge with pos0 := 0 } } else s
  let s := if s.flag GAU_CTL 3 then s
    else { s with gauge := { s.gauge with inPass := false, pos1 := 0 } }.setFlag GAU_STAT 30 false
  (if bitOf v 31 then s.gauTrigger else s).gauIdle

/-- The scan table is fixed while a group is enabled or a conversion runs (R446). -/
def State.gauFixed (s : State) : Bool := s.flag GAU_CTL 4 || s.flag GAU_CTL 3 || s.flag GAU_STAT 31

/-- A write of a scan entry that is ignored: the table is fixed, or `diff` names an odd input (R439, R446). -/
def State.gauScanIgnored (s : State) (v : Nat) : Bool := s.gauFixed || (bitOf v 7 && bitOf v 0)

/-! ## Results -/

/-- The value of a code in the entry's mode (R439, R440). -/
def gauCode (diff : Bool) (code : Nat) : Int := if diff then sgn 16 code else code

/-- The result word (R440). -/
def gauResult (left diff : Bool) (code : Nat) : Nat :=
  if left then code * 0x10000 else if diff then wrap 32 (sgn 16 code) else code

/-- A record of the ring (R449). -/
def State.gauRecord (s : State) (result e : Nat) (alarm ow : Bool) (quarter : Nat) : List Byte :=
  let g := s.gauGroup e
  let pass := if g = 1 then s.gauge.pass1 else s.gauge.pass0
  let w0 := result + e * 2 ^ 32 + g * 2 ^ 40 + bitNat alarm * 2 ^ 41 + bitNat ow * 2 ^ 42 + pass % 2 ^ 16 * 2 ^ 48
  let w1 := quarter * 2 ^ 48 + s.ridge.sec.toNat % 2 ^ 18 * 2 ^ 30 + s.ridge.ns.toNat
  toBytes 8 w0 ++ toBytes 8 w1

/-- The record is written to the ring, dropped on a full ring, or ends the ring on a write error (R449). -/
def State.gauRing (s : State) (record : List Byte) : State :=
  if !s.flag GAU_CTL 2 then s
  else
    let size := 2 ^ s.fld GAU_RING_LO 4 0
    let prod := s.reg GAU_RING_PROD
    if (prod + 0x100000000 - s.reg GAU_RING_CONS) % 0x100000000 ≥ size then
      (s.bump GAU_RING_DROP_CNT).raise gauPage 4
    else
      let addr := s.fld GAU_RING_HI 15 0 * 0x100000000 + s.fld GAU_RING_LO 31 6 * 64 + 16 * (prod % size)
      match s.memWrite ⟨.gauge, 0, false⟩ addr record with
      | (true, t) => t.setReg GAU_RING_PROD ((prod + 1) % 0x100000000)
      | (false, t) => ((t.setFlag GAU_CTL 2 false).capture gauPage 0 0x0001 addr).raise gauPage 5

/-- GAUGE_SW_START (R443, R445) is a write of GAU_CTL with `sw_start`; its meaning stands with the register writes.
GAUGE_TRIGGER: a global event timer fires. -/
def execGaugeTrigger (timer : Fin 32) (s : State) : Host.Outcome State Fault Refusal :=
  .next (s.after (
    if s.flag GAU_TRIG 8 && s.fld GAU_TRIG 4 0 == timer.val then s.gauTrigger else s))

/-- CONVERSION_END (R439, R440, R447 to R449): the running conversion ends with the code of its reading without test
current, that of its reading with it, and the quarter of the nanosecond its capture resolves. [log 109] -/
def execConversionEnd (code owCode : BitVec 16) (quarter : Fin 4) (s : State) : Host.Outcome State Fault Refusal :=
  .next (s.after (
    if !s.flag GAU_STAT 31 || !s.islandUp gauIsland then s
    else
      let s := s.untilTick s.gauge.endsAt
      let e := s.fld GAU_STAT 13 8
      let diff := s.flag (GAU_SCAN e) 7
      let c := gauCode diff code.toNat
      let result := gauResult (s.flag GAU_CTL 1) diff code.toNat
      let alarm := s.flag (GAU_SCAN e) 8 &&
        (decide (c > gauCode diff (bitsOf s.gauge.lim 31 16)) || decide (c < gauCode diff (bitsOf s.gauge.lim 15 0)))
      let ow := s.gauOw e != 0 &&
        decide ((c - gauCode diff owCode.toNat).natAbs > s.gauge.thr)
      let record := s.gauRecord result e alarm ow quarter.val
      let s := s.setReg (GAU_RES e) result
      let s := if alarm then
          (s.setFlag (if e < 32 then GAU_ALARM_LO else GAU_ALARM_HI) (e % 32) true).raise gauPage 1 else s
      let s := if ow then
          (s.setFlag (if e < 32 then GAU_OPEN_LO else GAU_OPEN_HI) (e % 32) true).raise gauPage 2 else s
      let s := s.gauRing record
      let s := if s.gauClass e = 2 then s.setFlag GAU_STAT 29 false else s
      (s.setFlag GAU_STAT 31 false).gauNext 2))

end Sys2Proof.Machine
end

