-- ==== Sys2Proof/Machine/Loft.lean ====
section
/-! DEFINITION. Loft, the Mortise buffers and the core memories beyond plain accesses (10): windows (R271), the Plane
scrubber (R283 to R285), verify reads (R277, R279), retention (R287 to R289) and wipes (R290, R291). -/

namespace Sys2Proof.Machine

/-! ## Windows (R271) -/

/-- Base, size, space or Bay of two windows differ, by their words. -/
def loftWinDiffers (v w n m : Nat) : Bool :=
  bitsOf v 30 30 != bitsOf w 30 30 || bitsOf v 26 24 != bitsOf w 26 24 || bitsOf v 9 0 != bitsOf w 9 0 || n != m

/-- A write to window `i` that R271 refuses, by the window it leaves in `t`. [log 92] -/
def State.loftWinRefused (s t : State) (i : Nat) : Bool :=
  let v := t.reg (LFT_WIN i)
  let n := t.fld (LFT_WIN_SIZE i) 9 0
  let base := bitsOf v 9 0
  let meets (j : Nat) : Bool :=
    let w := s.reg (LFT_WIN j)
    let m := s.fld (LFT_WIN_SIZE j) 9 0
    j != i && bitOf w 31 && bitsOf w 30 30 == bitsOf v 30 30 && decide (base < bitsOf w 9 0 + m ∧ bitsOf w 9 0 < base + n)
  let space := if bitOf v 30 then 192 else 768
  decide (n > 768) || (bitOf v 31 &&
    ((List.range 64).any meets || decide (base + n > space) || n == 0 ||
      (s.flag (LFT_WIN i) 31 && loftWinDiffers v (s.reg (LFT_WIN i)) n (s.fld (LFT_WIN_SIZE i) 9 0))))

/-! ## Laps (R285) -/

/-- Memories of a scrub group (R270). -/
def groupMems (g : Nat) : List Nat :=
  if g = 0 then List.range 48
  else if g = 1 then (List.range 12).map (48 + ·)
  else (List.range 9).map (fun i => 128 + 9 * (g - 2) + i) ++ (List.range 9).map fun i => 256 + 9 * (g - 2) + i

/-- The group's lap starts anew. [log 75] -/
def State.restartLap (s : State) (g : Nat) : State :=
  { s with loft := { s.loft with
      walker := s.loft.walker.filter fun e => memGroup e.1 != g
      lapStart := s.loft.lapStart.setIfInBounds g s.ridge.ticks
      lapDone := s.loft.lapDone.setIfInBounds g [] } }

/-- The group is GATED: its laps' time stops (R285). -/
def State.gateLap (s : State) (g : Nat) : State :=
  { s with loft := { s.loft with gatedAt := tput s.loft.gatedAt g s.ridge.ticks } }

/-- The group runs again. -/
def State.ungateLap (s : State) (g : Nat) : State :=
  match tget? s.loft.gatedAt g with
  | none => s
  | some t => { s with loft := { s.loft with
      gatedAt := tdel s.loft.gatedAt g
      lapStart := s.loft.lapStart.setIfInBounds g (s.loft.lapStart.getD g 0 + (s.ridge.ticks - t)) } }

/-- A memory has been walked once; with the last of its group the lap ends (R285). [log 75] -/
def State.walked (s : State) (m : Nat) : State :=
  let g := memGroup m
  let done := addOnce (s.loft.lapDone.getD g []) m
  if !(groupMems g).all done.contains then { s with loft := { s.loft with lapDone := s.loft.lapDone.setIfInBounds g done } }
  else
    let ticks := s.ridge.ticks - s.loft.lapStart.getD g 0
    let us := min 0xFFFFFFFF (ticks / 1000)
    let s := (s.setReg (PLN_LAST g) us).bump (PLN_LAPS g)
    let s := if us > s.reg (PLN_WORST g) then s.setReg (PLN_WORST g) us else s
    let s := if ticks > 1000 * s.reg (PLN_LAP_LIMIT g) then (s.setFlag PLN_STAT g true).raise 0x188 0 else s
    { s with loft := { s.loft with lapDone := s.loft.lapDone.setIfInBounds g [], lapStart := s.loft.lapStart.setIfInBounds g s.ridge.ticks } }

/-! ## Scrub reads and write-backs (R283, R284) -/

/-- A word of memory `m` awaits its write-back at the head of the group. -/
def State.queueWriteback (s : State) (m word : Nat) : State :=
  let g := memGroup m
  let q := s.loft.writeback.getD g []
  if q.any fun e => e.1 == m && e.2.1 == word then s
  else { s with loft := { s.loft with writeback := s.loft.writeback.setIfInBounds g (q ++ [(m, word, [])]) } }

/-- Uncorrectable bytes found by a scrub read (R284). -/
def State.scrubUncorrectable (s : State) (n : Nat) : State := if n = 0 then s else (s.bumpBy PLN_UE_CNT n).raise 0x188 2

/-- The bytes of one access of a walker over an SRAM. -/
def State.scrubSram (s : State) (m lo n : Nat) : State :=
  let errs := s.sramErr.filter fun e => decide (lo ≤ e.1 ∧ e.1 < lo + n)
  let bad := errs.filter fun e => eccDecode (s.byte e.1) e.2 == .bad
  let s := (s.markSuspect (bad.map (·.1))).scrubUncorrectable bad.length
  each errs (fun e s => match eccDecode (s.byte e.1) e.2 with
    | .corrected _ bit =>
      let w := (e.1 - memFirst m) / 16
      (s.queueWriteback m w).track m w (e.1 % 16) bit
    | _ => s) s

/-- The four words of one access of a walker over program memory. -/
def State.scrubProg (s : State) (m lo : Nat) : State :=
  let errs := s.progErr.filter fun e => decide (lo ≤ e.1 ∧ e.1 < lo + 16)
  let weight (v : BitVec 39) : Nat := (List.range 39).foldl (fun n i => if v.getLsbD i then n + 1 else n) 0
  let s := s.scrubUncorrectable (errs.filter fun e => (s.progRead e.1).isNone).length
  if errs.any fun e => weight e.2 == 1 then s.queueWriteback m ((lo - memFirst m) / 16) else s

/-- The walkers of the memory may read: it is powered and clocked, not being wiped, and no hold window runs (R283, R285);
once RETAIN has been requested, those of retained banks stop (R286). -/
def State.walks (s : State) (m : Nat) : Bool :=
  s.flag PLN_CTL 0 && s.islandUp 2 && !s.wipingAt (memFirst m) (memBytes m) &&
    (if m < 60 then !s.loft.retained.contains m && !s.loft.off.contains m && !((s.power.target == some 3 || s.power.retCheck.isSome) && decide (m < 48) && bitOf (s.wide LFT_RET_EN0) m)
     else
      let c := if m < 256 then m - 128 else m - 256
      s.islandUp (8 + c / 9) && (s.core c).holdLeft == 0)

/-- Bytes of one access of a walker. -/
def scrubLen (m : Nat) : Nat := if m < 60 then 64 else if m < 256 then 128 else 16

/-- One read of a memory's walker. [log 75] -/
def State.scrubStep (s : State) (m : Nat) : State :=
  let pos := tget s.loft.walker m 0
  let n := scrubLen m
  let lo := memFirst m + n * pos
  let s := if m < 256 then s.scrubSram m lo n else s.scrubProg m lo
  if n * (pos + 1) ≥ memBytes m then ({ s with loft := { s.loft with walker := tdel s.loft.walker m } }).walked m
  else { s with loft := { s.loft with walker := tput s.loft.walker m (pos + 1) } }

/-- The corrected bytes of a word are written back, but for those written since (R284). -/
def State.writeBack (s : State) (e : Nat × Nat × List Nat) : State :=
  let lo := memFirst e.1 + 16 * e.2.1
  let s := if e.1 < 256 then each (List.range 16) (fun i s => if e.2.2.contains (lo + i) then s else s.correctByte (lo + i)) s
    else
      let one (v : BitVec 39) : Bool := (List.range 39).foldl (fun n i => if v.getLsbD i then n + 1 else n) 0 == 1
      { s with progErr := s.progErr.filter fun x => !(decide (lo ≤ x.1 ∧ x.1 < lo + 16) && one x.2) }
  s.bump PLN_REPAIR_CNT

/-- The next write-back of a group: of a word its walkers corrected, else of the head of the repair FIFO. -/
def State.writeBackNext (s : State) (g : Nat) : State :=
  match s.loft.writeback.getD g [], s.loft.repair.getD g [] with
  | e :: r, _ => ({ s with loft := { s.loft with writeback := s.loft.writeback.setIfInBounds g r } }).writeBack e
  | [], e :: r => ({ s with loft := { s.loft with repair := s.loft.repair.setIfInBounds g r } }).writeBack e
  | [], [] => s

/-! ## Verify reads (R277, R279) -/

/-- A word of the memory with rewritten suspect bytes is read back, and promoted where one of those is still uncorrectable. [log 75] -/
def State.verifyNext (s : State) (m : Nat) : State :=
  match s.loft.verify.find? fun k => sramNo k == m with
  | none => s
  | some k =>
    let w := k / 16 * 16
    let mine := s.loft.verify.filter fun x => x / 16 * 16 == w
    let still := mine.any fun x => eccDecode (s.byte x) (tget s.sramErr x 0) == .bad
    let s := { s with loft := { s.loft with verify := s.loft.verify.filter fun x => x / 16 * 16 != w } }
    let s := (s.sramRead 0 w 16).2
    if still then s.promote m ((w - sramFirst m) / 16) 3 else s

/-! ## Wipes (R290, R291) -/

/-- A wipe of a range of one memory begins: its contents are gone, and accesses are refused until it ends. [log 77] -/
def State.beginWipe (s : State) (lo n : Nat) : State :=
  if n = 0 then s
  else
    let s := s.wipeRange lo n
    ({ s with loft := { s.loft with wiping := s.loft.wiping ++ [(lo, n)] } }).restartLap (memGroup (memAt lo))

/-- A whole memory. -/
def State.wipeMem (s : State) (m : Nat) : State := s.beginWipe (memFirst m) (memBytes m)

/-- The wipe of a memory ends. -/
def State.endWipe (s : State) (m : Nat) : State :=
  let mine (r : Nat × Nat) : Bool := memAt r.1 == m
  if !s.loft.wiping.any mine then s
  else ({ s with loft := { s.loft with wiping := s.loft.wiping.filter fun r => !mine r } }).restartLap (memGroup m)

/-- Range of a Bay's HARQ cache (R230, R395). -/
def State.harqRange (s : State) (b : Nat) : Nat × Nat :=
  let w := s.fld (BAY_HQ_CACHE b) 21 16
  let lo := (s.fld (LFT_WIN w) 9 0 + s.fld (BAY_HQ_CACHE b) 15 8) * 0x10000
  (loftBase + lo, min 16 (s.fld (BAY_HQ_CACHE b) 4 0) * 0x100000)

/-- HARQ caches that lie in a wiped range are empty (R231). -/
def State.emptyCaches (s : State) (ranges : List (Nat × Nat)) : State :=
  each (List.range 8) (fun b s => if ranges.any (overlaps (s.harqRange b)) then s.setHarq b [] else s) s

/-- Every SRAM and program memory holds zero data (R290): the end of the wipe of a cold or a warm reset. -/
def State.wipeAllSram (s : State) : State :=
  let s := (((s.wipe loftBase 0x3000000).wipe bufBase 0xC00000).wipe dataBase 0x2400000).wipe progBase 0x900000
  let s := { s with loft := { s.loft with
    suspect := [], verify := [], repair := Vector.replicate 10 [], writeback := Vector.replicate 10 [], trackers := []
    wiping := [], harq := [] } }
  each (List.range 10) (fun g s => s.restartLap g) s

/-- The Bay's windows of Loft and the Mortise buffers, cut at banks. -/
def State.windowRanges (s : State) (b : Nat) : List (Nat × Nat) :=
  (List.range 64).flatMap fun w =>
    let v := s.reg (LFT_WIN w)
    if !bitOf v 31 || bitsOf v 26 24 != b then []
    else
      let lo := (if bitOf v 30 then bufBase else loftBase) + 0x10000 * bitsOf v 9 0
      (List.range (s.fld (LFT_WIN_SIZE w) 9 0)).map fun u => (lo + 0x10000 * u, 0x10000)

/-! ## Retention (R287 to R289) -/

/-- Banks kept in RETAIN. -/
def State.keptBanks (s : State) : List Nat := (List.range 48).filter fun b => bitOf (s.wide LFT_RET_EN0) b

/-- Loft and the Mortise buffers enter RETAIN: kept banks at retention voltage, the others off (R287). The laps of groups 0
and 1 are abandoned (R285). -/
def State.retainLoft (s : State) : State :=
  let kept := s.keptBanks
  let s := { s with loft := { s.loft with retained := kept, off := (List.range 60).filter fun b => !kept.contains b } }
  (s.restartLap 0).restartLap 1

def memRange (m : Nat) : Nat × Nat := (memFirst m, memBytes m)

/-- AIR channels whose rings lie in a range are disabled (R289). -/
def State.disableRings (s : State) (ranges : List (Nat × Nat)) : State :=
  each (List.range 72) (fun c s =>
    let base := s.wide (bank c (AIR_CH_RING_LO 0)) / 2048 * 2048
    if ranges.any (overlaps (base, 2048)) then s.setFlag (bank c (AIR_CH_CTL 0)) 31 false else s) s

/-- Wake (R288, R289): canaries are checked (which of them hold is a free value), LOST and powered-off banks are wiped, which
is over when the Truss gets their list (R431), the laps of groups 0 and 1 start anew (R285), and the tasks whose inputs they held
end. [log 76] -/
def State.wakeLoft (s : State) : State :=
  let (f, s) := s.fresh
  let lost := s.loft.retained.filter fun b => bitOf f b
  let off := s.loft.off
  let mask := lost.foldl (fun n b => n + 2 ^ b) 0
  let s := s.setWide LFT_RET_LOST0 (Nat.lor (s.wide LFT_RET_LOST0) mask)
  let s := if lost.isEmpty then s else s.raise 0x180 1
  let s := { s with loft := { s.loft with retained := [], off := [] } }
  let s := (((each (lost ++ off) (fun m s => (s.wipeMem m).endWipe m) s).restartLap 0).restartLap 1)
  let rl := lost.map memRange
  let ro := off.map memRange ++ [(bufBase, 0xC00000), (dataBase, 0x2400000)]
  let s := (s.emptyCaches (rl ++ ro)).disableRings (rl ++ ro)
  (s.wipedInputs rl 4 0x20).wipedInputs ro 2 5

/-! ## Commands -/

def memNo : MemId → Nat
  | .bank b => b.val
  | .data c => 128 + c.val
  | .prog c => 256 + c.val

/-- VERIFY_READ (R277, R279). Program memory has no suspect bytes. -/
def execVerifyRead (m : MemId) (s : State) : Host.Outcome State Fault Refusal := .next (s.after (s.verifyNext (memNo m)))

/-- SCRUB_READ (R283, R285). -/
def execScrubRead (m : MemId) (s : State) : Host.Outcome State Fault Refusal :=
  .next (s.after (if s.walks (memNo m) then s.scrubStep (memNo m) else s))

/-- WIPE_DONE (R291). [log 77] -/
def execWipeDone (m : MemId) (s : State) : Host.Outcome State Fault Refusal := .next (s.after (s.endWipe (memNo m)))

end Sys2Proof.Machine
end

