-- ==== Sys2Proof/Machine/Dram.lean ====
section
/-! DEFINITION. The DRAM controller beyond plain accesses (11): windows and keep masks (R297, R313), bank queues and batches
(R300 to R303), refresh and training (R308 to R311), self-refresh (R312 to R314) and failed channels (R315). -/

namespace Sys2Proof.Machine

/-! ## Windows and keep masks (R297, R313) -/

/-- Bytes of a self-refresh piece of one half, in offsets o (R296). -/
def State.pieceRange (s : State) (h p : Nat) : Nat × Nat := (h * (s.dramU / 2) + p * (8 * s.pieceBytes), 8 * s.pieceBytes)

/-- Piece `p` of half `h` holds a byte of a window, by its base and size in 16 MiB units. -/
def State.pieceMeets (s : State) (h p base size : Nat) : Bool := overlaps (s.pieceRange h p) (base * 0x1000000, size * 0x1000000)

def State.keepMask (s : State) (h : Nat) : Nat := s.fld (DRC_SR_KEEP h) 15 0

/-- A window lies over a dropped segment. -/
def State.overDropped (s : State) (base size : Nat) : Bool :=
  (List.range 2).any fun h => (List.range (8 * s.dram.ranks)).any fun p => !bitOf (s.keepMask h) p && s.pieceMeets h p base size

/-- A write to DRC_WIN or DRC_WIN_SIZE that R313 refuses: it enables or enlarges a pinned window over a dropped segment. -/
def State.dramWinDropped (s t : State) (i : Nat) : Bool :=
  let v := t.reg (DRC_WIN i)
  let w := s.reg (DRC_WIN i)
  let n := t.fld (DRC_WIN_SIZE i) 12 0
  bitOf v 31 && bitOf v 30 && (!(bitOf w 31 && bitOf w 30) || decide (n > s.fld (DRC_WIN_SIZE i) 12 0)) &&
    t.overDropped (bitsOf v 11 0) n

/-- A write to window `i` that R297 refuses, by the window it leaves in `t`. [log 92] -/
def State.dramWinRefused (s t : State) (who : Requester) (i : Nat) : Bool :=
  let v := t.reg (DRC_WIN i)
  let w := s.reg (DRC_WIN i)
  let n := t.fld (DRC_WIN_SIZE i) 12 0
  let m := s.fld (DRC_WIN_SIZE i) 12 0
  let base := bitsOf v 11 0
  let meets (j : Nat) : Bool :=
    let x := s.reg (DRC_WIN j)
    j != i && bitOf x 31 && decide (base < bitsOf x 11 0 + s.fld (DRC_WIN_SIZE j) 12 0 ∧ bitsOf x 11 0 < base + n)
  (!isPlate who && (bitOf v 29 || bitOf w 29)) || decide (n > 4096) || (bitOf v 31 &&
    ((List.range 32).any meets || decide ((base + n) * 0x1000000 > s.dramU) || n == 0 ||
      (bitOf w 31 && (bitsOf v 30 24 != bitsOf w 30 24 || base != bitsOf w 11 0 || n != m))))

/-- A write of DRC_SR_KEEP that drops a segment of an enabled pinned window. -/
def State.keepDrops (s t : State) (h : Nat) : Bool :=
  (List.range (8 * s.dram.ranks)).any fun p => !bitOf (t.keepMask h) p && (List.range 32).any fun w =>
    bitOf (s.reg (DRC_WIN w)) 31 && bitOf (s.reg (DRC_WIN w)) 30 &&
      s.pieceMeets h p (bitsOf (s.reg (DRC_WIN w)) 11 0) (s.fld (DRC_WIN_SIZE w) 12 0)

/-- What a refusal of R313 counts. -/
def State.countKeepRefusal (s : State) : State := (s.bump DRC_SR_REFUSE_CNT).raise 0x1C0 3

/-! ## Bank queues (R300 to R302) -/

def State.dramCh (s : State) (c : Nat) : DramCh := s.dram.chans.getD c DramCh.cold
def State.setDramCh (s : State) (c : Nat) (x : DramCh) : State := { s with dram := { s.dram with chans := s.dram.chans.setIfInBounds c x } }

/-- Units of `Config.unit`: bank and row within a rank of a place in the channel, which the rules do not lay out. [log 78] -/
abbrev uDramBank : Nat := 60
abbrev uDramRow : Nat := 61

/-- Bank over both ranks, and row, of a DRAM offset. [log 78] -/
def State.bankRow (s : State) (o : Nat) : Nat × Nat :=
  let loc := (s.dramMap o).2.2
  (16 * (s.dramPiece o / 8) + Config.unit uDramBank [loc / 64] % 16, Config.unit uDramRow [loc / 64])

/-- A request enters its bank queue: it is accepted, a write is durable, and a read has its data fixed (R300, R301). [log 80] -/
def State.dramAccept (s : State) (c bay : Nat) (e : DramEntry) : State :=
  let o := e.addr.toNat - dramBase
  let e := { e with since := s.ridge.ticks }
  if e.write then
    let (ok, s) := s.dramWrite bay o e.data
    let s := s.setDramCh c { s.dramCh c with queue := (s.dramCh c).queue ++ [e] }
    if ok then s else s.say .busError
  else
    let e := { e with data := s.bytes e.addr.toNat e.len, errs := s.dramErrs o e.len }
    s.setDramCh c { s.dramCh c with queue := (s.dramCh c).queue ++ [e] }

/-- A request reaches its channel: its bank queue has room, or it waits in Purlin. [log 79] -/
def State.dramOffer (s : State) (c bay : Nat) (e : DramEntry) : State :=
  let x := s.dramCh c
  if s.dram.selfRefresh || (x.queue.filter fun y => y.bank == e.bank).length ≥ 16 || x.waiting.any (fun y => y.bank == e.bank) then
    s.setDramCh c { x with waiting := x.waiting ++ [e] }
  else s.dramAccept c bay e

/-- Waiting requests enter the bank queues that have room, in order. -/
def State.dramAdmit (s : State) (c : Nat) : State :=
  let x := s.dramCh c
  let s := s.setDramCh c { x with waiting := [] }
  each x.waiting (fun e s => s.dramOffer c (s.bayOf e.who) e) s

/-- Entries of a request: one for up to 64 bytes in one granule, else one for each 64-byte burst (R300). -/
def dramParts (o n : Nat) : List (Nat × Nat) := if n ≤ 64 ∧ o / 256 = (o + n - 1) / 256 then [(o, n)] else bursts o n

/-- A DRAM access by a requester (R298, R300): refused, answered with an error, or split and queued; a part whose channel is
FAILED is answered with an error (R315). -/
def State.dramRequest (s : State) (who : Requester) (a n : Nat) (write : Bool) (v : Nat) : State :=
  let ag := s.agent who
  match s.place who a n with
  | .dram o =>
    match s.spanRefused ag a n with
    | some t => t.say .busError
    | none =>
      let bs := if write then toBytes n v else []
      let ok (s : State) (q : Nat × Nat) : State :=
        let br := s.bankRow q.1
        s.dramOffer (s.dramMap q.1).2.1 ag.bay
          ⟨who, BitVec.ofNat 48 (dramBase + q.1), q.2, write, (bs.drop (q.1 - o)).take q.2, [], br.1, br.2, 0⟩
      (dramParts o n).foldl (fun s q => match s.accessRefused ag (.dram q.1) q.2 (dramBase + q.1) with
        | some t => t.say (if s.flag DRC_STAT (s.dramMap q.1).2.1 && !write then .uncorrectable else .busError)
        | none => ok s q) (s.say (if write then .posted else .none))
  | _ => s.say .busError

/-- The entry that a channel picks next among those of a kind, and the channel with the activate it takes (R302). -/
def DramCh.pick (x : DramCh) (write : Bool) : Option (DramEntry × Bool) :=
  let mine := x.queue.filter fun e => e.write == write
  match mine.find? fun e => tget? x.openRow e.bank == some e.row with
  | some e => some (e, false)
  | none =>
    let dist (b : Nat) : Nat := (b + 32 - (x.lastBank + 1) % 32) % 32
    (mine.foldl (fun (best : Option DramEntry) e => match best with
      | none => some e
      | some y => if dist e.bank < dist y.bank then some e else some y) none).map fun e => (e, true)

/-- A batch of the channel ends or begins: a change of the page policy takes effect (R303). -/
def State.batchEdge (s : State) (c : Nat) (writing : Bool) : State :=
  s.setDramCh c { s.dramCh c with writing := writing, closed := s.fld DRC_CFG 9 8 == 1 }

/-- A retraining window of the channel has ended before its traffic goes on (R311). -/
def State.dramResume (s : State) (c : Nat) : State := s.untilTick (s.dramCh c).retrain

/-- A picked entry is served: an activate is counted and may refresh either neighbour (R308: the random bits are free), and
under the closed policy the row closes when nothing else waits for it (R303). [log 82] -/
def State.dramServe (s : State) (c : Nat) (e : DramEntry) (act : Bool) : State :=
  let x := s.dramCh c
  let x := { x with queue := x.queue.erase e }
  let more := x.queue.any fun y => y.bank == e.bank && y.row == e.row
  let x := { x with openRow := if x.closed && !more then tdel x.openRow e.bank else tput x.openRow e.bank e.row
                    lastBank := if act then e.bank else x.lastBank }
  let s := s.setDramCh c x
  if act then
    let (f, s) := s.fresh
    (s.bump (DRC_CH_ACT_CNT c)).bumpBy (DRC_CH_NBR_CNT c) (f % 2 + f / 2 % 2)
  else s

/-- `n` writes leave the channel. -/
def State.dramDrain (s : State) (c : Nat) : Nat → State
  | 0 => s
  | n + 1 => match (s.dramCh c).pick true with
    | none => s
    | some (e, act) => (s.dramServe c e act).dramDrain c n

def DramCh.writes (x : DramCh) : Nat := (x.queue.filter DramEntry.write).length
def DramCh.reads (x : DramCh) : Nat := (x.queue.filter fun e => !e.write).length

/-- A write batch starts (R302). How many of its writes leave before something else happens is a free value. [log 82] -/
def State.batchStart (s : State) (c : Nat) : State :=
  let x := s.dramCh c
  let lo := if x.reads = 0 then 0 else s.fld DRC_BATCH 5 0
  if x.writing || x.writes = 0 || (decide (x.reads ≠ 0) && decide (x.writes < s.fld DRC_BATCH 13 8)) then s
  else
    let (f, s) := s.fresh
    let s := (s.dramResume c).batchEdge c true
    let s := s.dramDrain c (f % (x.writes - lo + 1))
    (if (s.dramCh c).writes > lo then s else s.batchEdge c false).dramAdmit c

/-- A read has waited rd_age: time passes to that moment, and the write batch ends (R302). -/
def State.readAged (s : State) (c : Nat) : State :=
  let x := s.dramCh c
  match x.writing, x.queue.find? fun e => !e.write with
  | true, some e =>
    let s := s.untilTick (e.since + 10 * s.fld DRC_BATCH 23 16)
    let (f, s) := s.fresh
    let s := s.dramDrain c (f % (x.writes - min x.writes (s.fld DRC_BATCH 5 0) + 1))
    (s.batchEdge c false).dramAdmit c
  | _, _ => s

/-- The write-backs of the words that a read has corrected enter its bank queue, with the words as they are now stored: a write
accepted after the read supersedes its write-back (R306). -/
def State.queueCorrected (s : State) (c : Nat) (e : DramEntry) : State :=
  let words := e.errs.filter fun x => s.flag DRC_CFG 31 && weight72 x.2 == 1
  each words (fun x s => s.setDramCh c { s.dramCh c with
    queue := (s.dramCh c).queue ++ [{ e with
      addr := BitVec.ofNat 48 (dramBase + x.1), len := 8, write := true, data := s.bytes (dramBase + x.1) 8, errs := []
      since := s.ridge.ticks }] }) s

/-- The next read of a read batch completes (R301, R306). [log 80] -/
def State.readReturn (s : State) (c : Nat) : State :=
  let x := s.dramCh c
  if x.writing then s
  else match x.pick false with
    | none => s
    | some (e, act) =>
      let s := (s.dramResume c).dramServe c e act
      let s := match s.dramJudge (s.agent e.who).bay (e.addr.toNat - dramBase) e.data e.errs with
        | (.ok bs, s) => s.say (.data bs)
        | (.error _, s) => s.say .uncorrectable
      (s.queueCorrected c e).dramAdmit c

/-! ## Failed channels (R315) -/

/-- A channel is marked FAILED: its mirror is not ok, and firmware declares it (R452). Requests it still holds reach
nothing. -/
def State.channelFail (s : State) (c cause : Nat) : State :=
  if s.flag DRC_STAT c then s
  else
    let s := (s.setFlag DRC_STAT c true).setReg (DRC_CH_STAT c) 5
    let s := s.setDramCh c { s.dramCh c with queue := [], waiting := [], writing := false, retrain := 0 }
    let s := (s.mirrorFail (c / 8)).raise 0x1C0 1
    s.declare 6 c cause 4

/-- The uncorrectable reads of the last second have reached the limit. -/
def State.ueLimit (s : State) (c : Nat) : Bool :=
  decide (((s.dramCh c).ueTicks.filter fun t => decide (s.ridge.ticks < t + 1000000000)).length ≥ max 1 (s.fld DRC_CH_FAIL_LIM 15 0))

/-! ## Self-refresh (R312 to R314) -/

/-- Every accepted write completes, and DRAM enters self-refresh. -/
def State.dramSleep (s : State) : State :=
  let s := each (List.range 16) (fun c s =>
    let s := s.dramDrain c (s.dramCh c).writes
    let s := s.setDramCh c { s.dramCh c with queue := [], writing := false, openRow := [] }
    if s.flag DRC_STAT c then s else s.setFld (DRC_CH_STAT c) 2 0 3) s
  { s with dram := { s.dram with selfRefresh := true } }

/-- DRAM leaves self-refresh; every segment was kept. -/
def State.dramWake (s : State) : State :=
  let s := { s with dram := { s.dram with selfRefresh := false } }
  each (List.range 16) (fun c s => (if s.flag DRC_STAT c then s else s.setFld (DRC_CH_STAT c) 2 0 2).dramAdmit c) s

/-- Exit from RETAIN (R314): dropped segments are wiped, for a time that is a free value, and the tasks with inputs in them
end. [log 77] -/
def State.dramWakeRetain (s : State) : State :=
  let dropped := (List.range 32).filter fun k => decide (k % 16 < 8 * s.dram.ranks) && !bitOf (s.keepMask (k / 16)) (k % 16)
  let (f, s) := s.fresh
  let s := s.dramWake
  let ranges := dropped.map fun k => (dramBase + (s.pieceRange (k / 16) (k % 16)).1, (s.pieceRange (k / 16) (k % 16)).2)
  let s := each ranges (fun r s => s.wipe r.1 r.2) s
  let s := { s with dram := { s.dram with wipedSegs := dropped.map fun k => (k, s.ridge.ticks + f % 2 ^ 32) } }
  if ranges.isEmpty then s else s.wipedInputs ranges 2 5

/-! ## Commands -/

/-- DRAM_REQUEST (R298, R300, R301). [log 79] -/
def execDramRequest (r : Requester) (addr : BitVec 48) (len : BitVec 7) (write : Bool) (data : BitVec 512) (s : State) :
    Host.Outcome State Fault Refusal :=
  .next (s.after (if len = 0 then s else s.dramRequest r addr.toNat len.toNat write data.toNat))

/-- DRAM_READ_RETURN (R301, R302, R306). -/
def execDramReadReturn (ch : ChanNo) (s : State) : Host.Outcome State Fault Refusal := .next (s.after (s.readReturn ch.val))

/-- WRITE_BATCH_START (R302). -/
def execWriteBatchStart (ch : ChanNo) (s : State) : Host.Outcome State Fault Refusal := .next (s.after (s.batchStart ch.val))

/-- READ_AGE_EXPIRY (R302). -/
def execReadAgeExpiry (ch : ChanNo) (s : State) : Host.Outcome State Fault Refusal := .next (s.after (s.readAged ch.val))

/-- A channel is in its retraining window (R311). -/
def State.retraining (s : State) (c : Nat) : Bool := !s.flag DRC_STAT c && decide (s.ridge.ticks < (s.dramCh c).retrain)

/-- A channel that is trained, not FAILED, and not in self-refresh. -/
def State.dramRuns (s : State) (c : Nat) : Bool := !s.flag DRC_STAT c && !s.dram.selfRefresh && s.islandUp 4

/-- DRAM_REFRESH (R303, R309): the bank's open row closes. -/
def execDramRefresh (ch : ChanNo) (bank : Fin 32) (s : State) : Host.Outcome State Fault Refusal :=
  .next (s.after (
    if !s.dramRuns ch.val then s
    else
      let x := s.dramCh ch.val
      (s.setDramCh ch.val { x with openRow := tdel x.openRow bank.val }).bump (DRC_CH_REF_CNT ch.val)))

/-- DRAM_TEMP_READ (R309, R315). The cause that a declaration for temperature carries is not stated: a free value. -/
def execDramTempRead (ch : ChanNo) (code : BitVec 5) (outOfRange : Bool) (s : State) : Host.Outcome State Fault Refusal :=
  .next (s.after (
    if !s.dramRuns ch.val then s
    else
      let t := s.setReg (DRC_CH_TEMP ch.val) code.toNat
      if outOfRange then let (f, t) := t.fresh; t.channelFail ch.val (f % 256) else t))

/-- DRAM_RETRAIN (R311): a window of at most 1 µs after that of any other channel, in which every row closes; a first failure
awaits its retry, a second marks the channel FAILED. [log 82] -/
def execDramRetrain (ch : ChanNo) (ok : Bool) (s : State) : Host.Outcome State Fault Refusal :=
  .next (s.after (
    if !s.dramRuns ch.val then s
    else
      let c := ch.val
      let t := each (List.range 16) (fun k t => t.dramResume k) s
      let (f, t) := t.fresh
      let t := t.setDramCh c { t.dramCh c with openRow := [], retrain := t.ridge.ticks + 1 + f % 1000 }
      if ok then t.setFlag (DRC_CH_STAT c) 8 false
      else if s.flag (DRC_CH_STAT c) 8 then t.channelFail c 6
      else (t.setFlag (DRC_CH_STAT c) 8 true).raise 0x1C0 4))

/-- CHANNEL_FAILED (R315): for the limit of uncorrectable reads, or for another of the rule's cases, whose cause code in the
fault log is then a free value. [log 82] -/
def execChannelFailed (ch : ChanNo) (s : State) : Host.Outcome State Fault Refusal :=
  .next (s.after (
    if s.ueLimit ch.val then s.channelFail ch.val 7
    else let (f, t) := s.fresh; t.channelFail ch.val (f % 256)))

end Sys2Proof.Machine
end

