-- ==== Sys2Proof/Machine/Skid.lean ====
section
/-! DEFINITION. Skid channels (12): descriptors and their checks (R319, R320), beats in copy order (R317, R322), halts (R327
to R329), ends and events (R321, R325), SUBMIT (R326), triggers (R324), and the writes of SKD_CH_CTL (R328, R330, R331,
R490). The register window is reached through the port that is passed in. -/

namespace Sys2Proof.Machine

/-- 64-bit accesses to the register window: a read's value, and whether a write was accepted. -/
structure WinPort where
  read : Requester → Nat → State → Option Nat × State
  write : Requester → Nat → Nat → State → Bool × State

def skidPage (c : Nat) : Nat := 0x201 + c
def State.skidCh (s : State) (c : Nat) : SkidChan := s.skid.getD c ⟨none, none, 0, 0, 0, [], false⟩
def State.setSkid (s : State) (c : Nat) (x : SkidChan) : State := { s with skid := s.skid.setIfInBounds c x }
/-- SKD_CH_STAT.state: 0 IDLE, 1 WAIT_TRIG, 2 RUN, 3 WAIT_ROOM, 4 HALTED, 5 DONE, 6 ABORTED. -/
def State.skidSt (s : State) (c : Nat) : Nat := s.fld (SKD_CH_STAT c) 3 0
def State.setSkidSt (s : State) (c v : Nat) : State := s.setFld (SKD_CH_STAT c) 3 0 v
def skidWho (c : Nat) : Requester := .skid (Fin.ofNat 64 c)
/-- A channel acts as the Bay that owns its page (R318). -/
def State.skidAgent (s : State) (c : Nat) : Agent := ⟨skidWho c, s.owner (skidPage c), false⟩

/-! ## Descriptors (R319) -/

def SkidDesc.f (d : SkidDesc) (i hi lo : Nat) : Nat := bitsOf (d.w.getD i 0).toNat hi lo
def SkidDesc.op (d : SkidDesc) : Nat := d.f 0 63 60
def SkidDesc.src (d : SkidDesc) : Nat := d.f 0 47 0
def SkidDesc.dst (d : SkidDesc) : Nat := d.f 1 47 0
def SkidDesc.queue (d : SkidDesc) : Nat := d.f 1 9 0
def SkidDesc.rows (d : SkidDesc) : Nat := d.f 2 47 32 + 1
def SkidDesc.len (d : SkidDesc) : Nat := d.f 2 31 0
def SkidDesc.next (d : SkidDesc) : Nat := d.f 4 47 0

/-- Reserved bits that are not zero. -/
def SkidDesc.reserved (d : SkidDesc) : Bool :=
  d.f 0 56 48 != 0 || d.f 4 63 48 != 0 || d.f 6 63 0 != 0 || (d.op != 1 && d.f 5 63 0 != 0) ||
    (if d.op = 2 then d.f 1 63 10 != 0 || d.f 2 63 0 != 0
     else d.f 1 63 48 != 0 || d.f 2 63 48 != 0 || (d.op == 1 && d.f 0 47 0 != 0))

def isWindow (a : Nat) : Bool := decide (winBase ≤ a ∧ a < winBase + 0x4000000)
def isHostWin (a : Nat) : Bool := decide (hostBase ≤ a ∧ a < hostBase + 0x400000000000)

/-- Extents of the source and the destination. -/
def SkidDesc.extents (d : SkidDesc) : (Nat × Nat) × (Nat × Nat) :=
  ((d.src, (d.rows - 1) * d.f 3 31 0 + d.len), (d.dst, (d.rows - 1) * d.f 3 63 32 + d.len))

/-- The first failing check of R320; 0 where none fails. -/
def State.skidCheck (s : State) (c : Nat) (d : SkidDesc) : Nat :=
  let inWin (a : Nat) (extent : Nat × Nat) : Bool := isWindow a || overlaps extent (winBase, 0x4000000)
  let win := d.op != 2 && (inWin d.dst d.extents.2 || (d.op == 0 && inWin d.src d.extents.1))
  let okNext := match s.place (skidWho c) d.next 64 with
    | .sram key => decide (d.next % 64 = 0 ∧ key < bufBase)
    | .dram _ => decide (d.next % 64 = 0)
    | _ => false
  if d.op > 2 ∨ d.reserved then 1
  else if (d.next ≠ 0 ∧ !okNext) ∨ (win ∧ (d.op ≠ 0 ∨ d.rows ≠ 1 ∨ d.src % 8 ≠ 0 ∨ d.dst % 8 ≠ 0 ∨ d.len % 8 ≠ 0)) then 2
  else if d.op = 0 ∧ d.rows > 1 ∧ !isHostWin d.src ∧ !isHostWin d.dst ∧ overlaps d.extents.1 d.extents.2 then 3
  else if (d.op ≠ 2 ∧ d.len = 0) ∨ (d.op = 2 ∧ s.qBay d.queue ≠ s.owner (skidPage c)) then 4
  else 0

/-! ## Beats (R317, R322) -/

/-- Beats of one row: destination, source, length, cut where `base` is a multiple of 64. [log 85] -/
def rowBeats (base dst src len : Nat) : List (Nat × Nat × Nat) :=
  (List.range ((base + len - 1) / 64 - base / 64 + 1)).map fun i =>
    let lo := max base ((base / 64 + i) * 64)
    let hi := min (base + len) ((base / 64 + i + 1) * 64)
    (dst + (lo - base), src + (lo - base), hi - lo)

/-- The beats of a descriptor in copy order. -/
def SkidDesc.beats (d : SkidDesc) : List (Nat × Nat × Nat) :=
  if d.op = 2 then []
  else
    let all := (List.range d.rows).flatMap fun r =>
      let src := d.src + r * d.f 3 31 0
      let dst := d.dst + r * d.f 3 63 32
      rowBeats (if d.op = 1 then dst else src) dst src d.len
    if d.op = 0 ∧ d.rows = 1 ∧ !isHostWin d.src ∧ !isHostWin d.dst ∧ d.src < d.dst ∧ d.dst < d.src + d.len then all.reverse
    else all

/-- Bytes of a FILL at a destination. -/
def SkidDesc.fill (d : SkidDesc) (a n : Nat) : List Byte :=
  (List.range n).map fun i => BitVec.ofNat 8 ((d.w.getD 5 0).toNat / 2 ^ (8 * ((a + i) % 8)))

/-- A read of the channel: memory, or 64-bit accesses to the window. -/
def State.skidRead (s : State) (p : WinPort) (c a n : Nat) : Option (List Byte) × State :=
  if isWindow a then
    (List.range (n / 8)).foldl (fun (r : Option (List Byte) × State) i => match r.1 with
      | none => r
      | some bs => match p.read (skidWho c) (a - winBase + 8 * i) r.2 with
        | (some v, s) => (some (bs ++ toBytes 8 v), s)
        | (none, s) => (none, s)) (some [], s)
  else match s.memRead (s.skidAgent c) a n with
    | (.ok bs, s) => (some bs, s)
    | (.error _, s) => (none, s)

/-- A write of the channel. -/
def State.skidWrite (s : State) (p : WinPort) (c a : Nat) (bs : List Byte) : Bool × State :=
  if isWindow a then
    (List.range (bs.length / 8)).foldl (fun (r : Bool × State) i =>
      if r.1 then p.write (skidWho c) (a - winBase + 8 * i) (wordAt bs i) r.2 else r) (true, s)
  else s.memWrite (s.skidAgent c) a bs

/-! ## Halts (R327) -/

/-- Bytes of the current row not yet read, and rows left, once `n` beats' reads have been issued. -/
def SkidDesc.remaining (d : SkidDesc) (n : Nat) : Nat × Nat :=
  let left := (d.beats.drop n).foldl (fun t b => t + b.2.2) 0
  let rows := max 1 ((left + d.len - 1) / max 1 d.len)
  (left - (rows - 1) * d.len, rows)

def State.showRemain (s : State) (c : Nat) (d : SkidDesc) (n : Nat) : State :=
  let r := d.remaining n
  (s.setReg (SKD_CH_REMAIN c) r.1).setReg (SKD_CH_ROWS c) (r.2 % 0x10000)

/-- SKD_CH_ERR latched, and the channel HALTED. -/
def State.skidHalt (s : State) (c addr dir kind code : Nat) (more : Bool) : State :=
  let s := s.setReg (SKD_CH_ERR_LO c) (addr % 2 ^ 32)
  let s := s.setReg (SKD_CH_ERR_HI c)
    (2 ^ 31 + code * 2 ^ 24 + bitNat more * 2 ^ 22 + kind * 2 ^ 19 + dir * 2 ^ 16 + addr / 2 ^ 32 % 2 ^ 16)
  let s := (s.setSkidSt c 4).bump (SKD_CH_ERR_CNT c)
  ((s.capture (skidPage c) (s.owner (skidPage c)) 1 addr).raise (skidPage c) 0).raise 0x200 0

/-- The data of later beats that the engines had in the buffer: how many is a free value, up to the bursts in flight. [log 85] -/
def State.skidAhead (s : State) (p : WinPort) (c : Nat) (d : SkidDesc) (beats : List (Nat × Nat × Nat)) :
    List (Option (List Byte)) × Bool × State :=
  let depth := min 4 (max 1 (s.fld (SKD_CH_CTL c) 2 0))
  let most := min beats.length (depth * 2 ^ min 6 (s.fld (SKD_CH_CTL c) 10 8))
  let (f, s) := s.fresh
  (beats.take (f % (most + 1))).foldl (fun (r : List (Option (List Byte)) × Bool × State) b =>
    if r.2.1 then r
    else if d.op = 1 then (r.1 ++ [some (d.fill b.1 b.2.2)], false, r.2.2)
    else match r.2.2.skidRead p c b.2.1 b.2.2 with
      | (some bs, s) => (r.1 ++ [some bs], false, s.bumpWide SKD_RD_BYTES_LO b.2.2)
      | (none, s) => (r.1, true, s)) (([] : List (Option (List Byte))), false, s)

/-- The channel halts at the beat `b`, with `later` to come and `data` already read. -/
def State.skidHaltAt (s : State) (p : WinPort) (c : Nat) (d : SkidDesc) (b : Nat × Nat × Nat) (later : List (Nat × Nat × Nat))
    (dir : Nat) (data : Option (List Byte)) (more : Bool) : State :=
  let x := s.skidCh c
  let (held, bad, s) := if x.held.length ≤ 1 then s.skidAhead p c d later else (x.held.drop 1, false, s)
  let held := data :: held
  let bytes := held.foldl (fun n h => n + (h.getD []).length) 0
  let s := s.setSkid c { x with held := held }
  let s := (s.showRemain c d (x.pos + held.length)).setReg (SKD_CH_HELD c) bytes
  let s := if later.isEmpty then s.setFlag (SKD_CH_STAT c) 30 true else s
  s.skidHalt c (if dir = 0 then b.2.1 else b.1) dir 0 0 (more || bad)

/-- Beats moved in copy order, at most `n` of them, until one is answered with an error (R327): held beats are written from
the buffer. True where all of them were moved. -/
def State.skidMove (s : State) (p : WinPort) (c : Nat) (d : SkidDesc) : Nat → List (Nat × Nat × Nat) → Bool × State
  | 0, _ => (true, s)
  | _, [] => (true, s)
  | n + 1, b :: r =>
    let x := s.skidCh c
    let had := (x.held.head?).bind id
    let (data, s) := match had with
      | some bs => (some bs, s)
      | none => if d.op = 1 then (some (d.fill b.1 b.2.2), s)
        else match s.skidRead p c b.2.1 b.2.2 with
          | (some bs, s) => (some bs, s.bumpWide SKD_RD_BYTES_LO b.2.2)
          | (none, s) => (none, s)
    match data with
    | none => (false, s.skidHaltAt p c d b r 0 none false)
    | some bs =>
      match s.skidWrite p c b.1 bs with
      | (false, s) => (false, s.skidHaltAt p c d b r 1 (some bs) false)
      | (true, s) =>
        let y := s.skidCh c
        let s := (s.setSkid c { y with pos := y.pos + 1, held := y.held.drop 1 }).bumpWide SKD_WR_BYTES_LO b.2.2
        s.skidMove p c d n r

/-! ## Starting a descriptor (R320, R324, R326) -/

/-- A Frame descriptor is offered with its words; one that cannot be read, without any: R78 refuses it when its turn comes. -/
def State.submitFrame (s : State) (feed : Feed) (q bay addr : Nat) (ag : Agent) : State :=
  let put (e : OnChip) (s : State) : State := { s with truss := { s.truss with onChip := s.truss.onChip ++ [e] } }
  match s.memRead ag addr 64 with
  | (.ok bs, s) => put ⟨feed, q, bay, (List.range 8).map (wordAt bs), false, none⟩ s
  | (.error _, s) => put ⟨feed, q, bay, [], false, none⟩ s

/-- The rows and bytes that a descriptor has still to read, before its first read (R321). -/
def State.showWhole (s : State) (c : Nat) (d : SkidDesc) : State :=
  if d.op = 2 then s else (s.setReg (SKD_CH_REMAIN c) d.len).setReg (SKD_CH_ROWS c) (d.rows % 0x10000)

/-- A descriptor that is current and checked starts: its beats run, or its Frame is offered. -/
def State.skidStart (s : State) (c : Nat) (d : SkidDesc) : State :=
  let s := s.setSkid c { s.skidCh c with phase := 2, pos := 0, skipped := 0, held := [] }
  let s := s.setSkidSt c 2
  if d.op = 2 then
    let b := s.owner (skidPage c)
    s.submitFrame (.skid (Fin.ofNat 64 c)) d.queue b d.src (s.skidAgent c)
  else s.showWhole c d

/-- RETAIN is being entered or held (R434). -/
def State.skidHeldBack (s : State) : Bool := s.power.target == some 3 || s.fld PWR_DEV_STAT 1 0 == 3

/-- A fetched descriptor has become current: it halts the channel, waits, or starts. -/
def State.skidBegin (s : State) (c : Nat) (d : SkidDesc) : State :=
  let s := (s.setReg (SKD_CH_CUR_LO c) (d.addr.toNat % 2 ^ 32)).setReg (SKD_CH_CUR_HI c) (d.addr.toNat / 2 ^ 32)
  let s := s.setSkid c { s.skidCh c with cur := some d, phase := 1 }
  if d.fetchErr then s.skidHalt c d.addr.toNat 0 1 0 false
  else match d.bad with
    | some code => s.skidHalt c d.addr.toNat 0 2 code false
    | none =>
      if d.f 0 57 57 = 0 then s.skidStart c d
      else if s.flag (SKD_CH_STAT c) 29 && !s.skidHeldBack then (s.setFlag (SKD_CH_STAT c) 29 false).skidStart c d
      else (s.showWhole c d).setSkidSt c 1

/-- A descriptor fetched and checked (R320). -/
def State.skidFetch (s : State) (c addr : Nat) : SkidDesc × State :=
  match s.memRead (s.skidAgent c) addr 64 with
  | (.error _, s) => (⟨BitVec.ofNat 48 addr, [], none, true⟩, s)
  | (.ok bs, s) =>
    let d : SkidDesc := ⟨BitVec.ofNat 48 addr, (List.range 8).map fun i => BitVec.ofNat 64 (wordAt bs i), none, false⟩
    ({ d with bad := match s.skidCheck c d with | 0 => none | k => some k }, s)

/-- The descriptor that the chain comes to next becomes current, once it has been fetched. -/
def State.skidNext (s : State) (c addr : Nat) : State :=
  match (s.skidCh c).nxt with
  | some d => (s.setSkid c { s.skidCh c with nxt := none, held := [] }).skidBegin c d
  | none =>
    let s := s.setSkid c { s.skidCh c with cur := none, phase := 0, pos := 0, skipped := 0, held := [] }
    ((s.setReg (SKD_CH_CUR_LO c) (addr % 2 ^ 32)).setReg (SKD_CH_CUR_HI c) (addr / 2 ^ 32)).setSkidSt c 2

/-! ## The end of a descriptor (R321, R325, R331) -/

/-- A completion event: counted, and seen by the Truss. Channels that it triggers see it as SKID_TRIGGER. -/
def State.skidEvent (s : State) (c : Nat) : State := (s.bump (SKD_CH_EVT_CNT c)).eventSeen 3 c 0 0

/-- Everything of the descriptor has been acknowledged. -/
def State.skidEnded (s : State) (c : Nat) (d : SkidDesc) : State :=
  let s := (s.bump (SKD_CH_DESC_CNT c)).setFlag (SKD_CH_STAT c) 30 false
  let s := ((s.setReg (SKD_CH_HELD c) 0).setReg (SKD_CH_REMAIN c) 0).setReg (SKD_CH_ROWS c) 0
  let s := onlyIf (d.f 0 59 59 == 1) (fun s => s.raise (skidPage c) 1) s
  let s := onlyIf (d.f 0 58 58 == 1 || d.next == 0) (fun s => s.skidEvent c) s
  if d.next = 0 then
    ((s.setSkid c { s.skidCh c with cur := none, nxt := none, phase := 0, held := [] }).setSkidSt c 5).raise (skidPage c) 2
  else s.skidNext c d.next

/-- The status write-back, where the channel makes one, and the end. [log 85] -/
def State.skidFinish (s : State) (c : Nat) (d : SkidDesc) : State :=
  let x := s.skidCh c
  if !s.flag (SKD_CH_CTL c) 12 then s.skidEnded c d
  else
    let s := s.setSkid c { x with phase := 3 }
    let v := 2 ^ 63 + bitNat (decide (x.skipped > 0)) * 2 ^ 62 + min x.skipped 0xFFFF * 2 ^ 32 + s.ridge.ns.toNat
    match s.memWrite (s.skidAgent c) (d.addr.toNat + 56) (toBytes 8 v) with
    | (true, s) => s.skidEnded c d
    | (false, s) => s.skidHalt c (d.addr.toNat + 56) 1 3 0 false

/-- The channel ends ABORTED (R330). -/
def State.skidAborted (s : State) (c : Nat) : State :=
  let s := s.setSkid c { s.skidCh c with cur := none, nxt := none, phase := 0, held := [], aborting := false }
  ((s.setReg (SKD_CH_HELD c) 0).setSkidSt c 6).raise (skidPage c) 5

/-- The channel's on-chip submission. -/
def State.skidOffer (s : State) (c : Nat) : Option OnChip := s.truss.onChip.find? fun e => e.src == .skid (Fin.ofNat 64 c)

def State.dropSkidOffer (s : State) (c : Nat) : State :=
  { s with truss := { s.truss with onChip := s.truss.onChip.filter fun e => e.src != .skid (Fin.ofNat 64 c) } }

/-- An abort takes back the channel's submission (R330). -/
def State.withdrawSkid (s : State) (c : Nat) : State := s.withdraw fun e => e.src == .skid (Fin.ofNat 64 c)

/-- The acceptance or refusal word has been issued: it is written to the Frame descriptor (unless that write is answered with
an error, `fail`), copied, and the descriptor ends (R326). -/
def State.skidSubmitted (s : State) (c : Nat) (d : SkidDesc) (w : Nat) (fail : Bool) : State :=
  let s := (s.setReg (SKD_CH_SUBMIT_LO c) (w % 2 ^ 32)).setReg (SKD_CH_SUBMIT_HI c) (w / 2 ^ 32)
  let x := s.skidCh c
  let s := if x.phase = 2 ∧ bitOf w 62 then (s.bump (SKD_CH_REFUSE_CNT c)).raise (skidPage c) 4 else s
  let s := s.setSkid c { s.skidCh c with phase := 4 }
  match if fail then (false, s) else s.memWrite (s.skidAgent c) (d.src + 56) (toBytes 8 w) with
  | (ok, s) =>
    if x.aborting then (s.dropSkidOffer c).skidAborted c
    else if ok then (s.dropSkidOffer c).skidFinish c d
    else s.skidHalt c (d.src + 56) 1 4 0 false

/-- The rest of the current descriptor runs to its end, or to a halt. -/
def State.skidAdvance (s : State) (p : WinPort) (c : Nat) : State :=
  match (s.skidCh c).cur with
  | none => s
  | some d =>
    let x := s.skidCh c
    if s.skidSt c ≠ 2 ∨ x.phase < 2 then s
    else if x.phase = 3 then s.skidFinish c d
    else if d.op = 2 then match (s.skidOffer c).bind OnChip.word with
      | some w => s.skidSubmitted c d w.toNat false
      | none => s
    else
      let left := d.beats.drop x.pos
      let (f, s) := s.fresh
      let s := s.setReg SKD_BUF_PEAK (max (s.reg SKD_BUF_PEAK) (f % 257))
      match s.skidMove p c d left.length left with
      | (true, s) => s.skidFinish c d
      | (false, s) => s

/-! ## Triggers (R323, R324, R434) -/

/-- The trigger that SKD_CH_TRIG names belongs to another Bay, or names no timer. [log 119] -/
def State.badTrig (s : State) (c : Nat) : Bool :=
  let b := s.owner (skidPage c)
  let src := s.fld (SKD_CH_TRIG c) 5 0
  match s.fld (SKD_CH_TRIG c) 17 16 with
  | 1 => decide (src ≥ 32) || src / 4 != b
  | 2 => s.owner (skidPage src) != b
  | _ => false

/-- A trigger reaches the channel. -/
def State.skidTriggered (s : State) (c : Nat) : State :=
  let st := s.skidSt c
  if st = 0 ∨ st = 5 ∨ st = 6 then s
  else if st = 1 ∧ !s.skidHeldBack then match (s.skidCh c).cur with
    | some d => s.skidStart c d
    | none => s
  else if s.flag (SKD_CH_STAT c) 29 then (s.bump (SKD_CH_TRIG_LOST_CNT c)).raise (skidPage c) 3
  else s.setFlag (SKD_CH_STAT c) 29 true

/-- Step 7 of a RETAIN exit: a channel that waits with its trigger pending starts (R434). -/
def State.skidReleased (s : State) : State :=
  each (List.range 64) (fun c s => match s.skidSt c, (s.skidCh c).cur with
    | 1, some d => if s.flag (SKD_CH_STAT c) 29 then (s.setFlag (SKD_CH_STAT c) 29 false).skidStart c d else s
    | _, _ => s) s

/-! ## Writes of SKD_CH_CTL (R328 to R331, R490) -/

/-- go. -/
def State.skidGo (s : State) (c : Nat) : State :=
  let st := s.skidSt c
  if st ≠ 0 ∧ st ≠ 5 ∧ st ≠ 6 then s
  else
    let s := s.setReg (SKD_CH_STAT c) 2
    let s := (s.setReg (SKD_CH_ERR_LO c) 0).setReg (SKD_CH_ERR_HI c) 0
    let s := s.setSkid c ⟨none, none, 0, 0, 0, [], false⟩
    (s.setReg (SKD_CH_CUR_LO c) (s.reg (SKD_CH_HEAD_LO c))).setReg (SKD_CH_CUR_HI c) (s.reg (SKD_CH_HEAD_HI c))

/-- abort. How far the channel had come is a free value. [log 85] -/
def State.skidAbort (s : State) (p : WinPort) (c : Nat) : State :=
  let st := s.skidSt c
  let x := s.skidCh c
  if st = 0 ∨ st = 5 ∨ st = 6 then s
  else match x.cur with
    | none => s.skidAborted c
    | some d =>
      if st = 1 ∨ st = 4 ∨ x.phase < 2 then (s.withdrawSkid c).skidAborted c
      else if d.op = 2 then match s.skidOffer c with
        | some e => if e.taken then s.setSkid c { x with aborting := true } else (s.withdrawSkid c).skidAborted c
        | none => s.skidAborted c
      else
        let left := d.beats.drop x.pos
        let (f, s) := s.fresh
        let n := f % (left.length + 2)
        match s.skidMove p c d n left with
        | (true, s) =>
          if n > left.length ∧ d.next = 0 then
            let s := s.skidFinish c d
            if s.skidSt c = 5 then s.setFlag (SKD_CH_STAT c) 31 true else s.skidAborted c
          else s.skidAborted c
        | (false, s) => s.skidAborted c

/-- resume. -/
def State.skidResume (s : State) (p : WinPort) (c : Nat) : State :=
  if s.skidSt c ≠ 4 then s
  else
    let kind := s.fld (SKD_CH_ERR_HI c) 21 19
    let tail := s.flag (SKD_CH_STAT c) 30
    let s := ((s.setFlag (SKD_CH_ERR_HI c) 31 false).setSkidSt c 2).setFlag (SKD_CH_STAT c) 30 false
    match kind, (s.skidCh c).cur with
    | 0, _ => if tail then s.skidAdvance p c else s
    | 1, some d =>
      let (d', s) := s.skidFetch c d.addr.toNat
      s.skidBegin c d'
    | 2, some d => s.skidBegin c { d with bad := match s.skidCheck c d with | 0 => none | k => some k }
    | _, _ => s.skidAdvance p c

/-- skip. -/
def State.skidSkip (s : State) (c : Nat) : State :=
  if s.skidSt c ≠ 4 then s
  else
    let kind := s.fld (SKD_CH_ERR_HI c) 21 19
    let tail := s.flag (SKD_CH_STAT c) 30
    let s := (s.setFlag (SKD_CH_ERR_HI c) 31 false).setFlag (SKD_CH_STAT c) 30 false
    let x := s.skidCh c
    match kind, x.cur with
    | 0, some d =>
      let s := (s.setSkidSt c 2).setSkid c { x with pos := x.pos + 1, skipped := x.skipped + 1, held := x.held.drop 1 }
      let s := s.setReg (SKD_CH_HELD c) ((x.held.drop 1).foldl (fun n h => n + (h.getD []).length) 0)
      if tail then s.skidFinish c d else s
    | 3, some d => (s.setSkidSt c 2).skidEnded c d
    | 4, some d => ((s.setSkidSt c 2).dropSkidOffer c).skidFinish c d
    | _, _ => s.skidAborted c

/-- A write of SKD_CH_CTL: one of abort, resume, skip and go, then sw_trig (R490). [log 86] -/
def State.skidCtl (s : State) (p : WinPort) (c v : Nat) : State :=
  let s := if bitOf v 30 then s.skidAbort p c
    else if bitOf v 29 then s.skidResume p c
    else if bitOf v 28 then s.skidSkip c
    else if bitOf v 31 then s.skidGo c
    else s
  if bitOf v 27 then s.skidTriggered c else s

/-- A reset returns the channel to IDLE (R332): how many beats had been written is a free value, and the destination of those
in flight holds free bytes. [log 85] -/
def State.skidReset (s : State) (p : WinPort) (c : Nat) : State :=
  let x := s.skidCh c
  let s := match s.skidSt c, x.cur with
    | 2, some d =>
      if d.op = 2 ∨ x.phase < 2 then s
      else
        let left := d.beats.drop x.pos
        let (f, s) := s.fresh
        let (g, s) := s.fresh
        let n := f % (left.length + 1)
        let s := (s.skidMove p c d n left).2
        each (((left.drop n).take 256).take (g % 257)) (fun b s =>
          if isWindow b.1 then s
          else
            let (w, s) := s.fresh
            s.put (s.skidAgent c) b.1 (toBytes b.2.2 (Config.unit 62 [w]))) s
    | _, _ => s
  let s := (s.dropSkidOffer c).setSkid c ⟨none, none, 0, 0, 0, [], false⟩
  s.setReg (SKD_CH_STAT c) 0

/-! ## Events from the engines -/

/-- An access of the channel is answered with an error (R327): beats before the failed one in copy order are written. An
address at which the channel makes no such access leaves it as it is. -/
def State.skidErrorAt (s : State) (p : WinPort) (c addr dir kind : Nat) (more : Bool) : State :=
  let x := s.skidCh c
  if s.skidSt c ≠ 2 then s
  else match kind, x.cur with
    | 1, none =>
      if addr ≠ s.wide (SKD_CH_CUR_LO c) / 64 * 64 then s
      else (s.setSkid c { x with cur := some ⟨BitVec.ofNat 48 addr, [], none, true⟩, phase := 1 }).skidHalt c addr dir 1 0 more
    | 0, some d =>
      let left := d.beats.drop x.pos
      let hit (b : Nat × Nat × Nat) : Bool := (if dir = 0 then b.2.1 else b.1) == addr
      let n := (left.takeWhile fun b => !hit b).length
      if x.phase ≠ 2 ∨ n = left.length ∨ (dir = 0 ∧ d.op ≠ 0) then s
      else match s.skidMove p c d n left with
        | (false, s) => s
        | (true, s) =>
          let b := left.getD n (0, 0, 0)
          if dir = 0 then s.skidHaltAt p c d b (left.drop (n + 1)) 0 none more
          else match if d.op = 1 then (some (d.fill b.1 b.2.2), s) else s.skidRead p c b.2.1 b.2.2 with
            | (some bs, s) => s.skidHaltAt p c d b (left.drop (n + 1)) 1 (some bs) more
            | (none, s) => s.skidHaltAt p c d b (left.drop (n + 1)) 0 none more
    | 3, some d =>
      let left := d.beats.drop x.pos
      if d.op = 2 ∨ x.phase < 2 ∨ !s.flag (SKD_CH_CTL c) 12 ∨ addr ≠ d.addr.toNat + 56 then s
      else match s.skidMove p c d left.length left with
        | (false, s) => s
        | (true, s) => (s.setSkid c { s.skidCh c with phase := 3 }).skidHalt c addr dir 3 0 more
    | 4, some d => match (s.skidOffer c).bind OnChip.word with
      | some w =>
        if d.op ≠ 2 ∨ addr ≠ d.src + 56 then s else s.skidSubmitted c d w.toNat true
      | none => s
    | _, _ => s

/-- SKID_TRIGGER (R323, R324): a firing of timer `src` (kind 1) or a completion event of channel `src` (kind 2). [log 3] -/
def execSkidTrigger (ch : SkidNo) (kind : BitVec 2) (src : BitVec 6) (s : State) : Host.Outcome State Fault Refusal :=
  .next (s.after (
    let c := ch.val
    if (kind = 1 ∨ kind = 2) ∧ s.fld (SKD_CH_TRIG c) 17 16 = kind.toNat ∧ s.fld (SKD_CH_TRIG c) 5 0 = src.toNat ∧ !s.badTrig c then
      s.skidTriggered c
    else s))

/-- SKID_DESC_FETCH (R320): of the descriptor that the channel has come to, or ahead of the current one's end. -/
def execSkidDescFetch (ch : SkidNo) (s : State) : Host.Outcome State Fault Refusal :=
  .next (s.after (
    let c := ch.val
    let x := s.skidCh c
    if s.skidSt c ≠ 2 then s
    else match x.cur with
      | none =>
        let (d, t) := s.skidFetch c (s.wide (SKD_CH_CUR_LO c) / 64 * 64)
        t.skidBegin c d
      | some d =>
        if x.nxt.isSome ∨ d.next = 0 ∨ x.phase < 2 then s
        else
          let (d', t) := s.skidFetch c d.next
          t.setSkid c { t.skidCh c with nxt := some d' }))

/-- SKID_SUBMIT_RESULT (R326, R330). -/
def execSkidSubmitResult (ch : SkidNo) (s : State) : Host.Outcome State Fault Refusal :=
  .next (s.after (
    let c := ch.val
    match (s.skidCh c).cur, (s.skidOffer c).bind OnChip.word with
    | some d, some w => if s.skidSt c = 2 ∧ d.op = 2 then s.skidSubmitted c d w.toNat false else s
    | _, _ => s))

end Sys2Proof.Machine
end

