-- ==== Sys2Proof/Machine/HostLink.lean ====
section
/-! DEFINITION. The host links and functions (14): configuration writes (R385), function resets (R386), and requests to host
windows with their completions (R384). -/

namespace Sys2Proof.Machine

def hstPage (h : Nat) : Nat := 0x340 + h

/-- First lane and number of lanes of a host's link, by HST_BIF (R381). -/
def hostLanes (split h : Nat) : Nat × Nat :=
  match split with
  | 0 => if h = 0 then (0, 16) else (0, 0)
  | 1 => if h < 2 then (8 * h, 8) else (0, 0)
  | 2 => if h = 0 then (0, 8) else if h < 3 then (4 + 4 * h, 4) else (0, 0)
  | _ => (4 * h, 4)

def State.hostLink (s : State) (h : Nat) : Nat × Nat := hostLanes (s.fld (HST_BIF 0) 1 0) h

/-- The PCIe state of a function returns to its reset values: its configuration, MSI-X table and pending bits (R386). -/
def State.fnReset (s : State) (h fn : Nat) : State :=
  let mine (k : Nat) : Bool := k / 256 == fnKey h fn
  { s with fns := tdel s.fns (fnKey h fn), msix := s.msix.filter fun e => !mine e.1, pba := s.pba.filter fun k => !mine k }

def State.fnsReset (s : State) (h : Nat) : State := each (List.range 17) (fun fn s => s.fnReset h fn) s

/-- The link leaves L0 for Detect: its functions are reset (R386). -/
def State.hostDown (s : State) (h : Nat) : State :=
  let s := if s.linkL0 h then ((s.setFld (HST_LINK_STAT h) 19 0 0).bump (HST_LINKDOWN_CNT h)).raise (hstPage h) 1
    else s.setFld (HST_LINK_STAT h) 19 0 0
  s.fnsReset h

/-- Deliveries of every ring that waits are tried again. -/
def State.resumeDeliveries (s : State) : State :=
  each (List.range 1024) (fun q s => if (s.q q).delay ≠ 0 then s.deliver q else s) s

/-- The link reaches L0 at a rate and a width. [log 103] -/
def State.hostUp (s : State) (h rate width : Nat) : State :=
  let s := s.setReg (HST_LINK_STAT h) (s.fld (HST_LINK_STAT h) 31 31 * 2 ^ 31 + 3 * 2 ^ 16 + rate * 256 + width)
  ((s.raise (hstPage h) 0).msixFlush).resumeDeliveries

/-- A configuration write that the device acts on (R385); until the boot ends it gets Configuration Request Retry Status
(R409). Messages and deliveries that waited for it go out. -/
def State.configWrite (s : State) (h fn : Nat) (w : ConfigWrite) : State :=
  if !s.linkL0 h then s
  else if !s.life.booted then s.say .retry
  else
    let f := s.fn h fn
    let f := match w with
      | .busMaster on => { f with bme := on }
      | .msixEnable on => { f with msixEn := on }
      | .functionMask on => { f with masked := on }
    (((s.setFn h fn f).say .posted).msixFlush).resumeDeliveries

/-- A request of a device to a host window (R384): a write is posted, a read waits for its completion. A host itself reaches
none (R383). [log 13] -/
def State.hostRequest (s : State) (who : Requester) (a n : Nat) (write : Bool) (v : Nat) : State :=
  if isHost who then s.say .unsupported
  else
  let ag := s.agent who
  match s.place who a n with
  | .host h x => match s.accessRefused ag (.host h x) n a with
    | some t => t.say .busError
    | none =>
      let fn : FnNo := Fin.ofNat 17 (s.fld (BAY_HWIN_FN ag.bay h) 4 0)
      let at' := BitVec.ofNat 64 (s.hostAddr ag.bay h x)
      if write then (s.emit (.hostWrite (Fin.ofNat 4 h) fn at' (toBytes n v))).say .posted
      else
        let s := s.emit (.hostRead (Fin.ofNat 4 h) fn at' n)
        ({ s with hostReqs := s.hostReqs ++ [((Fin.ofNat 4 h, (⟨who, fn, at', n, s.ridge.ticks⟩ : HostReq)) : HostNo × HostReq)] }).say .held
  | _ => s.say .busError

/-- The oldest waiting request of a link ends: answered, or counted as failed and answered with a bus error. -/
def State.hostAnswer (s : State) (h : HostNo) (ok : Bool) (v : Nat) : State :=
  match s.hostReqs.find? fun r => r.1 == h with
  | none => s
  | some r =>
    let s := { s with hostReqs := s.hostReqs.erase r }
    if ok then s.say (.data (toBytes r.2.len v)) else (s.bump (HST_CPL_ERR_CNT h.val)).say .busError

/-- HOST_CONFIG_WRITE (R385). -/
def execHostConfigWrite (h : HostNo) (fn : FnNo) (w : ConfigWrite) (s : State) : Host.Outcome State Fault Refusal :=
  .next (s.after (s.configWrite h.val fn.val w))

/-- FUNCTION_LEVEL_RESET (R386): FLR, hot reset or link-down. -/
def execFunctionLevelReset (h : HostNo) (kind : FnReset) (s : State) : Host.Outcome State Fault Refusal :=
  .next (s.after (match kind with
    | .flr fn => (s.fnReset h.val fn.val).raise (hstPage h.val) 2
    | .hotReset => s.fnsReset h.val
    | .linkDown => s.hostDown h.val))

/-- HOST_WINDOW_REQUEST (R384). -/
def execHostWindowRequest (r : Requester) (addr : BitVec 48) (len : BitVec 7) (write : Bool) (data : BitVec 512) (s : State) :
    Host.Outcome State Fault Refusal :=
  .next (s.after (if len = 0 then s else s.hostRequest r addr.toNat len.toNat write data.toNat))

/-- HOST_COMPLETION (R384). -/
def execHostCompletion (h : HostNo) (status : CplStatus) (data : BitVec 512) (s : State) : Host.Outcome State Fault Refusal :=
  .next (s.after (s.hostAnswer h (status == .ok) data.toNat))

/-- HOST_COMPLETION_TIMEOUT (R384): 50 ms after the oldest waiting request was issued. -/
def execHostCompletionTimeout (h : HostNo) (s : State) : Host.Outcome State Fault Refusal :=
  .next (s.after (match s.hostReqs.find? fun r => r.1 == h with
    | none => s
    | some r => (s.untilTick (r.2.since + 50000000)).hostAnswer h false 0))

end Sys2Proof.Machine
end

