-- ==== Sys2Proof/Machine/Lanes.lean ====
section
/-! DEFINITION. Scarf and Peg lanes (13): the Link Sequencer (R345 to R351), enable, restart and test (R352, R354, R358), the
lane PLLs (R357, R359), tables (R350) and the test instruments (R355, R356). -/

namespace Sys2Proof.Machine

/-- Page of a lane: 0 to 47 Scarf, 48 to 55 Peg. -/
def lanePage (l : Nat) : Nat := if l < 48 then 0x280 + l else 0x2C0 + (l - 48)
/-- A register of a lane's page; Scarf and Peg pages hold the same ones at the same offsets (R361). -/
def laneReg (l off : Nat) : Nat := 4096 * lanePage l + off
abbrev laneCtl (l : Nat) : Nat := laneReg l 0x100
abbrev laneStat (l : Nat) : Nat := laneReg l 0x104

def State.laneOn (s : State) (l : Nat) : Bool := s.flag (laneCtl l) 31
def State.laneTest (s : State) (l : Nat) : Bool := s.flag (laneCtl l) 29
/-- State of R345 as the lane's own page stores it. -/
def State.laneSt (s : State) (l : Nat) : Nat := s.fld (laneStat l) 31 28
def State.laneProto (s : State) (l : Nat) : Nat := s.fld (laneCtl l) 27 26

/-- Lanes that run one table together, the first in front (R338, R349). -/
def State.laneGroup (s : State) (l : Nat) : List Nat :=
  if l < 16 then
    match (List.range 4).find? fun h => decide ((s.hostLink h).1 ≤ l ∧ l < (s.hostLink h).1 + (s.hostLink h).2) with
    | some h => (List.range (s.hostLink h).2).map ((s.hostLink h).1 + ·)
    | none => [l]
  else if l < 48 then
    let p := l - 16
    if s.fld (GRT_PORT_CFG (p / 4 * 4)) 29 28 = 2 then (List.range 4).map (l / 4 * 4 + ·)
    else if s.fld (GRT_PORT_CFG (p / 2 * 2)) 29 28 = 1 then (List.range 2).map (l / 2 * 2 + ·)
    else [l]
  else [l]

def State.laneFirst (s : State) (l : Nat) : Nat := (s.laneGroup l).headD l

/-- SCF_LANE_CTL.gang. -/
def State.laneGang (s : State) (l : Nat) : Nat :=
  if l < 16 ∨ l ≥ 48 then 0 else match (s.laneGroup l).length with | 4 => 2 | 2 => 1 | _ => 0

/-- Host whose link holds a lane. -/
def State.laneHost (s : State) (l : Nat) : Option Nat :=
  if l ≥ 16 then none
  else (List.range 4).find? fun h => decide ((s.hostLink h).1 ≤ l ∧ l < (s.hostLink h).1 + (s.hostLink h).2)

/-! ## PLLs -/

/-- PLL of a lane: quads 0 to 11, Peg lanes 12 to 19. -/
def pllOf (l : Nat) : Nat := if l < 48 then l / 4 else 12 + (l - 48)
/-- Lanes of a PLL. -/
def pllLanes (q : Nat) : List Nat := if q < 12 then (List.range 4).map (4 * q + ·) else [48 + (q - 12)]

def State.pllLocked (s : State) (q : Nat) : Bool :=
  if q < 12 then s.flag (SCF_QUAD_STAT (4 * q)) 31 else s.flag (laneStat (36 + q)) 16
def State.setPllLock (s : State) (q : Nat) (b : Bool) : State :=
  if q < 12 then s.setFlag (SCF_QUAD_STAT (4 * q)) 31 b else s.setFlag (laneStat (36 + q)) 16 b
def State.pllOn (s : State) (q : Nat) : Bool :=
  if q < 12 then s.flag (SCF_QUAD_CTL (4 * q)) 31 else s.flag (laneCtl (36 + q)) 20
def State.pllFailed (s : State) (q : Nat) : Bool :=
  if q < 12 then s.flag (SCF_QUAD_STAT (4 * q)) 29 else s.lanes.pegFailed.contains q

/-- The lane is held at entry 0: a PLL of its group is not locked, or its host's PERST_N is asserted or the boot has not come
to the step at which host lanes start (R352, R357, R358, R409). [log 87] -/
def State.laneHeld (s : State) (l : Nat) : Bool :=
  (s.laneGroup l).any (fun k => !s.pllLocked (pllOf k)) || match s.laneHost l with
    | some h => s.flag (HST_LINK_STAT h) 31 || !(s.ridge.fwRuns || s.life.awaitHost)
    | none => false

/-! ## The table (R346, R347) -/

def State.seqEntry (s : State) (l e : Nat) : Nat := s.wide (laneReg l (0x800 + 8 * e))

/-- The action is allowed for the lane's protocol. -/
def State.actionOk (s : State) (l a : Nat) : Bool :=
  let p := s.laneProto l
  let eth := decide (16 ≤ l ∧ l < 48) && p == 1
  let pcie := decide (l < 16) && p == 2
  let cpri := decide (48 ≤ l) && p == 1
  let gig := decide (48 ≤ l) && (p == 2 || p == 3)
  let some' := eth || pcie || cpri || gig
  match a with
  | 1 | 2 | 5 | 0x0F => some'
  | 3 | 4 | 6 | 7 | 8 => eth
  | 9 => cpri || gig
  | 0x0A | 0x0B | 0x0C => cpri
  | 0x0D => gig
  | 0x0E => pcie
  | _ => false

/-- A counter of a table entry; it holds at 0xFFFF_FFFF (R393). -/
def bumpAt (t : Table (List Nat)) (k i n : Nat) : Table (List Nat) :=
  let l := tget t k [0, 0, 0, 0]
  tput t k (l.set i (min (l.getD i 0 + n) 0xFFFFFFFF))

/-- Counters of a flow group: not_ready, tx_late, outside, badcomp. -/
def State.fgCount (s : State) (fg i n : Nat) : State :=
  if n = 0 then s else { s with girt := { s.girt with fgCnt := bumpAt s.girt.fgCnt fg i n } }

/-- The sections that a port is sending are lost and counted in tx_late (R364). -/
def State.loseSections (s : State) (p : Nat) : State :=
  each (tget s.girt.txq p []) (fun x s => s.fgCount x.fg 1 1) { s with girt := { s.girt with txq := tdel s.girt.txq p } }

/-- Leaving ACTIVE: counted, page bit 1, and the host link or the port goes down with its lanes (R351, R364). [log 88] -/
def State.laneLeft (s : State) (l : Nat) : State :=
  let s := (s.bump (laneReg l 0x108)).raise (lanePage l) 1
  let s := if l < 16 then s else s.loseSections (l - 16)
  match s.laneHost l with
  | some h => s.hostDown h
  | none => s

/-- The CTLE of each lane of the group is chosen, on the way out of TRAIN or into BITLOCK (R344). [log 89] -/
def State.chooseCtle (s : State) (l : Nat) : State :=
  each (s.laneGroup l) (fun k s => let (f, s) := s.fresh; s.setFld (laneReg k 0x120) 4 0 (f % 32)) s

/-- The lane's state, entry and attempt count; ACTIVE is entered or left. -/
def State.setLane (s : State) (l st e attempt : Nat) : State :=
  let was := s.laneSt l
  let s := onlyIf (decide (st ≠ was) && (was == 2 && decide (3 ≤ st ∧ st ≤ 6) || was != 2 && st == 3)) (fun s => s.chooseCtle l) s
  let s := ((s.setFld (laneStat l) 31 28 st).setFld (laneStat l) 24 20 e).setFld (laneStat l) 15 8 attempt
  if was = 6 ∧ st ≠ 6 then s.laneLeft l
  else if was ≠ 6 ∧ st = 6 then s.raise (lanePage l) 0
  else s

def State.laneCause (s : State) (l c : Nat) : State := s.setFld (laneStat l) 7 4 c

/-- FAILED (R345, R360). -/
def State.laneFails (s : State) (l e : Nat) : State := ((s.setLane l 7 e 0).capture (lanePage l) 0 1 e).raise (lanePage l) 2

/-- The sequencer runs entry `e` of the group's first lane `l` (R347, R348). -/
def State.runEntry (s : State) (l e : Nat) : State :=
  let w := s.seqEntry l e
  let st := bitsOf w 63 60
  if st = 0 ∨ st > 6 ∨ !s.actionOk l (bitsOf w 59 54) then (s.laneCause l 7).laneFails l e
  else s.setLane l st e 0

/-- A lane starts at entry 0: a lane of a group other than its first only follows (R349). A lane that is held waits there. -/
def State.laneStart (s : State) (l : Nat) : State :=
  if !s.laneOn l || s.laneTest l then s
  else if s.laneFirst l ≠ l then s.setLane l 0 0 0
  else if s.laneHeld l then s.setLane l (match bitsOf (s.seqEntry l 0) 63 60 with | 0 => 1 | st => st) 0 0
  else s.runEntry l 0

/-- OFF (R352): nothing is precoded, detected, compared or converged. -/
def State.laneOff (s : State) (l : Nat) : State :=
  (((s.setLane l 0 0 0).setFld (laneStat l) 2 0 0).setFlag (laneReg l 0x204) 31 false).setFlag (laneReg l 0x120) 28 false

/-- The lane whose state, entry and attempts a lane's page shows: the first of its group, but for a lane in OFF or TEST by its
own control register (R349, R354). [log 91] -/
def State.laneShown (s : State) (l : Nat) : Nat := if s.laneSt l = 8 ∨ !s.laneOn l then l else s.laneFirst l

/-- The PCIE entry runs: the state shown follows the LTSSM (R350). -/
def State.ltssmRuns (s : State) (l : Nat) : Bool :=
  s.laneOn l && !s.laneTest l && !s.laneHeld l && decide (1 ≤ s.laneSt l ∧ s.laneSt l ≤ 5) &&
    bitsOf (s.seqEntry l (s.fld (laneStat l) 24 20)) 59 54 == 0x0E

/-- The state of R345 that a lane's page shows; while the LTSSM trains, one of DETECT, TRAIN and EXCHANGE (R349, R350). [log 89] -/
def State.laneState (s : State) (l : Nat) : Nat × State :=
  let k := s.laneShown l
  if s.ltssmRuns k then let (f, s) := s.fresh; ([1, 2, 5].getD (f % 3) 1, s) else (s.laneSt k, s)

/-- The first lane of the group may take a step: enabled, not held, not in TEST, in a state of the sequencer. -/
def State.laneSteps (s : State) (l : Nat) : Bool :=
  s.laneOn l && !s.laneTest l && !s.laneHeld l && decide (1 ≤ s.laneSt l ∧ s.laneSt l ≤ 6)

/-- An action has succeeded (R347, R348). What the far end settled comes with it: for LT, bits 0 and 1 say which directions
precode; for PCIE, bits [2:0] the rate and [5:3] the logarithm of the width, and at 64 GT/s the link's own training has settled
precoding (R340). Deskew leaves at most 160 ns. [log 89] -/
def State.actionDone (s : State) (l info : Nat) : State :=
  let e := s.fld (laneStat l) 24 20
  let w := s.seqEntry l e
  let arg := bitsOf w 15 0
  match bitsOf w 59 54 with
  | 0x0F => s
  | a =>
    let s := match a with
      | 2 => s.setFlag (laneStat l) 0 true
      | 4 =>
        let ask := s.flag (laneCtl l) 20 && bitOf arg 0
        each (s.laneGroup l) (fun k s =>
          (s.setFlag (laneStat k) 2 (bitOf info 0)).setFlag (laneStat k) 1 (bitOf info 1 && ask)) s
      | 5 => each (s.laneGroup l) (fun k s => s.setFlag (laneReg k 0x120) 28 true) s
      | 7 => each (s.laneGroup l).tail (fun k s =>
          let (f, s) := s.fresh
          s.setReg (laneReg k 0x10C) (wrap 16 (Int.ofNat (f % 1281) - 640))) s
      | 0x0B => s.setFld (laneStat l) 19 17 (arg % 8)
      | 0x0E => each (s.laneGroup l) (fun k s =>
          let (f, s) := s.fresh
          let flit := bitsOf info 2 0 ≥ 6 ∧ arg ≥ 6
          (s.setFlag (laneStat k) 2 (decide flit && bitOf f 0)).setFlag (laneStat k) 1 (decide flit && bitOf f 1)) s
      | _ => s
    let s := s.runEntry l (bitsOf w 53 48 % 32)
    match a, s.laneHost l with
    | 0x0E, some h => s.hostUp h (max 1 (min (bitsOf info 2 0) (min 6 arg))) (min (s.hostLink h).2 (2 ^ bitsOf info 5 3))
    | _, _ => s

/-- An action has failed or its timeout has passed (R348). WAIT and CPRI_RATE never fail, and LINK_UP ends by a drop. -/
def State.actionFails (s : State) (l : Nat) : State :=
  let e := s.fld (laneStat l) 24 20
  let w := s.seqEntry l e
  let a := bitsOf w 59 54
  let n := s.fld (laneStat l) 15 8
  if a = 1 ∨ a = 0x0B ∨ a = 0x0F then s
  else if n < bitsOf w 41 34 then s.setFld (laneStat l) 15 8 (n + 1)
  else if bitsOf w 47 42 = 0x3F then s.laneFails l e
  else s.runEntry l (bitsOf w 47 42 % 32)

/-- An ACTIVE lane drops (R351). [log 88] -/
def State.laneDrops (s : State) (l cause : Nat) : State :=
  if s.laneSt l ≠ 6 ∨ !s.laneOn l then s
  else
    let e := s.fld (laneStat l) 24 20
    let w := s.seqEntry l e
    let s := s.laneCause l cause
    if bitsOf w 47 42 = 0x3F then s.laneFails l e
    else
      let t := s.runEntry l (bitsOf w 47 42 % 32)
      if t.laneSt l = 6 then (t.laneLeft l).raise (lanePage l) 0 else t

/-! ## PLL loss and lock (R357, R359) -/

/-- First lanes of the groups that a PLL serves: those of a host link may lie in another quad (R349, R357). -/
def State.pllFirsts (s : State) (q : Nat) : List Nat := ((pllLanes q).map s.laneFirst).eraseDups

/-- The lanes of a PLL that has locked start their tables. [log 87] -/
def State.pllLocks (s : State) (q : Nat) : State :=
  let s := s.setPllLock q true
  let s := { s with lanes := { s.lanes with relocks := tdel s.lanes.relocks q } }
  each (s.pllFirsts q) (fun l s => s.laneStart l) s

/-- Page of a PLL's interrupt: of its first lane. -/
def pllPage (q : Nat) : Nat := lanePage ((pllLanes q).headD 0)

/-- A PLL loses lock. [log 87] -/
def State.pllLost (s : State) (q : Nat) : State :=
  if !s.pllLocked q then s
  else
    let s := s.setPllLock q false
    let s := if q < 12 then (s.setFlag (SCF_QUAD_STAT (4 * q)) 30 true).bump (SCF_QUAD_LOL_CNT (4 * q)) else s
    let s := s.raise (pllPage q) 4
    let s := { s with lanes := { s.lanes with relocks := tdel s.lanes.relocks q } }
    let s := each (pllLanes q) (fun l s => if s.laneOn l then s.laneCause l 5 else s) s
    each (s.pllFirsts q) (fun l s => if s.laneOn l then (s.laneCause l 5).laneStart l else s) s

/-- A PLL is switched off by its control register: its lanes hold at entry 0 until it locks again. [log 87] -/
def State.pllStops (s : State) (q : Nat) : State :=
  each (s.pllFirsts q) (fun l s => s.laneStart l) (s.setPllLock q false)

/-- One of the attempts to relock, 10 ms apart. [log 87] -/
def State.pllRetry (s : State) (q : Nat) (ok : Bool) : State :=
  if s.pllLocked q || s.pllFailed q || !s.pllOn q then s
  else if ok then s.pllLocks q
  else
    let n := tget s.lanes.relocks q 0 + 1
    let most := if q < 12 then max 1 (s.fld (SCF_QUAD_CTL (4 * q)) 3 0) else 8
    let s := { s with lanes := { s.lanes with relocks := tput s.lanes.relocks q n } }
    if n < most then s
    else
      let s := if q < 12 then s.setFlag (SCF_QUAD_STAT (4 * q)) 29 true
        else { s with lanes := { s.lanes with pegFailed := addOnce s.lanes.pegFailed q } }
      if q < 12 then s.declare 8 q 5 2 else s.declare 9 (q - 12) 5 2

/-- The island reset of a quad or a Peg lane (R359), its registers' Warm values apart: the lanes are OFF until the PLL has
locked. -/
def State.pllReset (s : State) (q : Nat) : State :=
  let s := each (pllLanes q) (fun l s => s.laneOff l) s
  let s := s.setPllLock q false
  let s := each ((s.pllFirsts q).filter fun l => pllOf l != q) (fun l s => (s.laneCause l 5).laneStart l) s
  let s := if q < 12 then s.setFlag (SCF_QUAD_STAT (4 * q)) 29 false else s
  { s with lanes := { s.lanes with relocks := tdel s.lanes.relocks q, pegFailed := s.lanes.pegFailed.filter (· != q) } }

/-! ## Larvia's tables (R350) -/

abbrev uLaneTable : Nat := 70

/-- The table of a single-lane port at ETH106, as the worked example of 13 lists it. [log 90] -/
def eth106Table : List Nat :=
  [0x10810001000A0000, 0x20C2000D01F40001, 0x210300010BB80001, 0x3144000D00010000, 0x4185000D00010000,
   0x41C6000D00010000, 0x52070029000A0000, 0x63C0000300000000]

/-- A chain of steps, each state with its action: retries, timeouts and arguments are Larvia's, and open. [log 90] -/
def chainTable (key : List Nat) (steps : List (Nat × Nat)) : List Nat :=
  (List.range steps.length).map fun i =>
    let x := steps.getD i (0, 0)
    let last := i + 1 == steps.length
    x.1 * 2 ^ 60 + x.2 * 2 ^ 54 + (if last then 0 else i + 1) * 2 ^ 48 + Config.unit uLaneTable (i :: key) % 2 ^ 42

/-- A CPRI table: each option from `opt` down to 1 is tried for 10 ms by CPRI_RATE and CDR, one after the other; the rest of the
chain follows the first that recovers its clock. [log 90] -/
def cpriTable (key : List Nat) (opt : Nat) : List Nat :=
  let entry (i st act ok fail low : Nat) : Nat :=
    st * 2 ^ 60 + act * 2 ^ 54 + ok * 2 ^ 48 + fail * 2 ^ 42 + (if low = 0 then Config.unit uLaneTable (i :: key) % 2 ^ 42 else low)
  let comma := 1 + 2 * opt
  let tries := (List.range opt).flatMap fun k =>
    [entry (1 + 2 * k) 2 0x0B (2 + 2 * k) 0 (10 * 2 ^ 16 + 2 ^ 32 + (opt - k)),
     entry (2 + 2 * k) 3 5 comma (if k + 1 = opt then 0 else 3 + 2 * k) (10 * 2 ^ 16 + 2 ^ 32)]
  entry 0 1 2 1 0 0 :: tries ++
    [entry comma 4 9 (comma + 1) 0 0, entry (comma + 1) 4 0x0A (comma + 2) 0 0,
     entry (comma + 2) 5 0x0C (comma + 3) 0 0, entry (comma + 3) 6 0x0F 0 0 0]

/-- Larvia's table for a lane as it is configured. [log 90] -/
def State.larviaTable (s : State) (l : Nat) : List Nat :=
  let p := s.laneProto l
  let rate := s.fld (laneCtl l) 25 24
  let key := [bitNat (decide (l < 48)), p, rate, (s.laneGroup l).length, s.fld (laneCtl l) 25 23]
  if 16 ≤ l ∧ l < 48 ∧ p = 1 then
    if rate = 0 ∧ (s.laneGroup l).length = 1 then eth106Table
    else chainTable key [(1, 2), (2, 3), (2, 4), (3, 5), (4, 6), (4, 7), (5, 8), (6, 0x0F)]
  else if l < 16 ∧ p = 2 then chainTable key [(1, 0x0E), (6, 0x0F)]
  else if l ≥ 48 ∧ p = 1 then cpriTable key (max 1 (s.fld (laneCtl l) 25 23))
  else if l ≥ 48 ∧ p ≥ 2 then
    let t := chainTable key [(1, 2), (3, 5), (4, 9), (5, 0x0D), (6, 0x0F)]
    t.set 3 (t.getD 3 0 / 2 ^ 16 * 2 ^ 16 + (p - 2))
  else []

/-- The table is in the lane's page. -/
def State.loadTable (s : State) (l : Nat) : State :=
  let t := s.larviaTable l
  (each (List.range 32) (fun i s => s.setWide (laneReg l (0x800 + 8 * i)) (t.getD i 0)) s).setFlag (laneStat l) 27 false

/-! ## Writes of the lane's control registers -/

/-- Test may be set: on a lane of a gang or of a host link, when each of the group's lanes is in TEST or OFF (R354). -/
def State.mayTest (s : State) (l : Nat) : Bool :=
  (decide ((s.laneGroup l).length ≤ 1) && (s.laneHost l).isNone) ||
    (s.laneGroup l).all fun k => s.laneSt (s.laneShown k) == 0 || s.laneSt k == 8

/-- A write of SCF_LANE_CTL or PEG_LANE_CTL, in the order of R358. [log 91] -/
def State.laneCtlWrite (s s0 : State) (l v : Nat) : State :=
  let old := s0.reg (laneCtl l)
  -- an encoding the lane has no protocol for is ignored
  let p := bitsOf v 27 26
  let okProto := if l < 16 then p == 0 || p == 2 else if l < 48 then p == 0 || p == 1 else true
  let s := if okProto then s else s.setFld (laneCtl l) 27 26 (bitsOf old 27 26)
  let s := if l ≥ 48 ∧ bitOf old 31 then s.setFlag (laneCtl l) 21 (bitOf old 21) else s
  let s := if bitOf v 29 && !bitOf old 29 && !s0.mayTest l then s.setFlag (laneCtl l) 29 false else s
  let s := if l ≥ 48 ∧ bitOf old 20 ∧ !bitOf v 20 then s.pllStops (pllOf l) else s
  let changed := s.laneProto l != bitsOf old 27 26 || (decide (l ≥ 48) && s.fld (laneCtl l) 25 23 != bitsOf old 25 23)
  let s := if changed then s.setFlag (laneStat l) 27 true else s
  if !s.laneOn l ∧ bitOf old 31 then s.laneOff l
  else if s.laneTest l ∧ !bitOf old 29 then
    let s := if s.laneSt l = 6 then s.laneCause l 6 else s
    s.setLane l 8 (s.fld (laneStat l) 24 20) 0
  else if !s.laneTest l ∧ bitOf old 29 then
    let s := (s.setFld (laneCtl l) 9 8 0).setFlag (laneReg l 0x204) 31 false
    let s := if s.laneOn l ∧ !s.pllLocked (pllOf l) then s.laneCause l 5 else s
    if s.laneOn l then s.laneStart l else s.laneOff l
  else if bitOf v 30 ∧ s.laneOn l ∧ !s.laneTest l then
    let s := if s.pllLocked (pllOf l) then s else s.laneCause l 5
    let s := if s.laneSt l = 6 then s.setLane l 1 0 0 else s
    s.laneStart l
  else if s.laneOn l ∧ !bitOf old 31 then (if s.laneTest l then s.setLane l 8 0 0 else s.laneStart l)
  else s

/-- A write of SCF_QUAD_CTL (R339): the reference is fixed while a lane of the quad is enabled, and quads 0 to 3 keep their
pins. -/
def State.quadCtlWrite (s s0 : State) (q : Nat) : State :=
  let old := s0.reg (SCF_QUAD_CTL (4 * q))
  let s := if (pllLanes q).any s.laneOn || decide (q < 4) then s.setFlag (SCF_QUAD_CTL (4 * q)) 8 (bitOf old 8) else s
  if bitOf old 31 && !s.pllOn q then s.pllStops q else s

/-- Sum of the tap magnitudes of a written FFE word. -/
def tapSum (n v : Nat) : Nat := (List.range n).foldl (fun t i => t + (sgn 6 (v / 2 ^ (6 * i))).natAbs) 0

/-- Equaliser taps of a lane that adapts: each is a free value. -/
def State.sampleTaps (s : State) (l : Nat) : State :=
  each (List.range 29) (fun i s => let (f, s) := s.fresh; s.setReg (laneReg l (0x140 + 4 * i)) (f % 1024)) s

/-- Registers of a lane page whose writes the rules restrict: at offset `off`, with the state before in `s0`. -/
def State.laneWrite (s s0 : State) (l off v : Nat) : State :=
  let a := laneReg l off
  if off = 0x100 then s.laneCtlWrite s0 l v
  else if off = 0x110 then (if tapSum (if l < 48 then 5 else 3) v > 63 then s.setReg a (s0.reg a) else s)
  else if off = 0x120 then (if bitOf v 31 && !s0.flag a 31 && s.laneOn l then s.sampleTaps l else s)
  else if off = 0x200 then
    let s := if bitOf v 31 then (s.setWide (laneReg l 0x208) 0).setWide (laneReg l 0x210) 0 else s
    let keep (hi lo : Nat) (s : State) : State := if l ≥ 48 ∧ bitsOf v hi lo ≥ 6 then s.setFld a hi lo (s0.fld a hi lo) else s
    let s := keep 2 0 (keep 18 16 s)
    if s.flag a 19 then s else s.setFlag (laneReg l 0x204) 31 false
  else if off = 0x240 then
    let s := if l ≥ 48 then s.setFld a 21 20 (s0.fld a 21 20) else s
    if bitOf v 31 then s.setFlag a 30 true else s
  else if off = 0x300 ∧ l < 48 ∧ l % 4 = 0 then s.quadCtlWrite s0 (l / 4)
  else if 0x300 ≤ off ∧ off < 0x30C then s.setReg a (s0.reg a)
  else if 0x800 ≤ off ∧ off < 0x900 then
    if s0.laneOn l || s0.laneFirst l != l then (s.setReg (laneReg l (off / 8 * 8)) (s0.reg (laneReg l (off / 8 * 8)))).setReg
      (laneReg l (off / 8 * 8 + 4)) (s0.reg (laneReg l (off / 8 * 8 + 4)))
    else s
  else s

/-! ## Commands -/

/-- TABLE_LOAD_DONE (R350). -/
def execTableLoadDone (l : LaneNo) (s : State) : Host.Outcome State Fault Refusal :=
  .next (s.after (if s.flag (laneStat l.val) 27 then s.loadTable l.val else s))

/-- SEQ_ACTION_SUCCESS (R347 to R349): of the table that the lane's group runs. -/
def execSeqActionSuccess (l : LaneNo) (info : BitVec 8) (s : State) : Host.Outcome State Fault Refusal :=
  .next (s.after (if s.laneSteps (s.laneFirst l.val) then s.actionDone (s.laneFirst l.val) info.toNat else s))

/-- SEQ_ACTION_FAIL (R348). -/
def execSeqActionFail (l : LaneNo) (s : State) : Host.Outcome State Fault Refusal :=
  .next (s.after (if s.laneSteps (s.laneFirst l.val) then s.actionFails (s.laneFirst l.val) else s))

/-- LINK_DROP (R351). -/
def execLinkDrop (l : LaneNo) (cause : BitVec 4) (s : State) : Host.Outcome State Fault Refusal :=
  .next (s.after (s.laneDrops (s.laneFirst l.val) cause.toNat))

/-- QUAD_PLL_LOSS (R357). -/
def execQuadPllLoss (q : PllNo) (s : State) : Host.Outcome State Fault Refusal := .next (s.after (s.pllLost q.val))

/-- PLL_RELOCK_ATTEMPT (R357). -/
def execPllRelockAttempt (q : PllNo) (ok : Bool) (s : State) : Host.Outcome State Fault Refusal :=
  .next (s.after (s.pllRetry q.val ok))

/-- QUAD_PLL_LOCK (R357, R359). -/
def execQuadPllLock (q : PllNo) (s : State) : Host.Outcome State Fault Refusal :=
  .next (s.after (if s.pllOn q.val && !s.pllLocked q.val && !s.pllFailed q.val then s.pllLocks q.val else s))

/-- The checker runs in TEST alone (R354). -/
def State.prbsRuns (s : State) (l : Nat) : Bool := s.laneSt l == 8 && s.flag (laneReg l 0x200) 19

/-- PRBS_CHECKER_LOCK (R355). -/
def execPrbsCheckerLock (l : LaneNo) (s : State) : Host.Outcome State Fault Refusal :=
  .next (s.after (if s.prbsRuns l.val then s.setFlag (laneReg l.val 0x204) 31 true else s))

/-- PRBS_LOCK_LOSS (R355): what the checker had counted until then is a free value. -/
def execPrbsLockLoss (l : LaneNo) (s : State) : Host.Outcome State Fault Refusal :=
  .next (s.after (
    if !s.prbsRuns l.val || !s.flag (laneReg l.val 0x204) 31 then s
    else
      let a := laneReg l.val 0x204
      let (f, t) := s.fresh
      let (g, t) := t.fresh
      let t := (t.setWide (laneReg l.val 0x208) f).setWide (laneReg l.val 0x210) g
      let t := (t.setFlag a 31 false).setFld a 15 0 (min 0xFFFF (t.fld a 15 0 + 1))
      t.raise (lanePage l.val) 3))

/-- EYE_DONE (R356): the count of mismatches is a free value of at most 2^dwell. [log 89] -/
def execEyeDone (l : LaneNo) (s : State) : Host.Outcome State Fault Refusal :=
  .next (s.after (
    if !s.flag (laneReg l.val 0x240) 30 then s
    else
      let (f, t) := s.fresh
      let t := t.setFlag (laneReg l.val 0x240) 30 false
      (t.setReg (laneReg l.val 0x244) (min 0xFFFFFFFF (f % (2 ^ s.fld (laneReg l.val 0x240) 29 24 + 1)))).raise (lanePage l.val) 5))

/-- PERST_CHANGE (R352, R386): the host's lanes hold entry 0, or start. -/
def execPerstChange (h : HostNo) (asserted : Bool) (s : State) : Host.Outcome State Fault Refusal :=
  .next (s.after (
    if s.flag (HST_LINK_STAT h.val) 31 == asserted then s
    else
      let t := (s.setFlag (HST_LINK_STAT h.val) 31 asserted).raise (hstPage h.val) 3
      let t := if asserted then t.hostDown h.val else t
      let link := s.hostLink h.val
      if link.2 = 0 then t else t.laneStart link.1))

end Sys2Proof.Machine
end

