-- ==== Sys2Proof/Machine/Girt.lean ====
section
/-! DEFINITION. The Girt switch (14): ports and classification (R362 to R368), receive windows (R369 to R373), compression
(R374), gates and transmission (R376, R377), and packet rings (R379, R380). -/

namespace Sys2Proof.Machine

abbrev grtPage : Nat := 0x301
abbrev grtView (b : Nat) : Nat := 0x302 + b

/-! ## Ports -/

def State.portOn (s : State) (p : Nat) : Bool :=
  s.flag GRT_CTL 0 && s.islandUp 3 && s.flag (GRT_PORT_CFG p) 31

/-- First lane of a port (R362). -/
def portLane (p : Nat) : Nat := 16 + p

/-- The port number carries traffic: it is the first of its port's lanes (R363). -/
def State.portFirst (s : State) (p : Nat) : Bool := s.laneFirst (portLane p) == portLane p

/-- The port's lanes are ACTIVE. -/
def State.portActive (s : State) (p : Nat) : Bool := s.portFirst p && s.laneSt (portLane p) == 6

def State.dropped (s : State) (p n : Nat) : State := s.bumpBy (GRT_PORT_DROP_CNT p) n

/-- Mate of a port: none where the register names none (R364). -/
def State.mate (s : State) (p : Nat) : Option Nat :=
  let m := s.fld (GRT_PORT_CFG p) 21 16
  if m < 40 then some m else none

/-! ## Flow groups (R393) -/

def State.fgIs (s : State) (fg bit : Nat) : Bool := bitOf (s.fgWord fg 0) bit
def State.fgBay (s : State) (fg : Nat) : Nat := bitsOf (s.fgWord fg 0) 58 56
def State.fgCar (s : State) (fg : Nat) : Nat := bitsOf (s.fgWord fg 0) 55 48
def State.fgPort (s : State) (fg : Nat) : Nat := bitsOf (s.fgWord fg 0) 45 40
def State.fgFmt (s : State) (fg : Nat) : Nat := bitsOf (s.fgWord fg 0) 39 36
def State.fgClass (s : State) (fg : Nat) : Nat := bitsOf (s.fgWord fg 0) 34 32
def State.fgDepth (s : State) (fg : Nat) : Nat := bitsOf (s.fgWord fg 0) 28 24 + 1
def State.fgPubOff (s : State) (fg : Nat) : Nat := bitsOf (s.fgWord fg 0) 23 16
def State.fgStreams (s : State) (fg : Nat) : Nat := bitsOf (s.fgWord fg 0) 7 0 + 1
def State.fgBase (s : State) (fg : Nat) : Nat := bitsOf (s.fgWord fg 1) 47 0
def State.fgSymStride (s : State) (fg : Nat) : Nat := 64 * bitsOf (s.fgWord fg 2) 47 24
def State.fgStrStride (s : State) (fg : Nat) : Nat := 64 * bitsOf (s.fgWord fg 2) 23 0
def State.fgOff (s : State) (fg : Nat) : Int := sgn 32 (bitsOf (s.fgWord fg 3) 63 32)
def State.fgPrbs (s : State) (fg : Nat) : Nat := bitsOf (s.fgWord fg 3) 24 16
def State.fgFirstPrb (s : State) (fg : Nat) : Nat := bitsOf (s.fgWord fg 3) 8 0
def State.fgPrach (s : State) (fg : Nat) : Bool := s.fgIs fg 60
def State.fgReps (s : State) (fg : Nat) : Nat := max 1 (bitsOf (s.fgWord fg 4) 19 16)
def State.fgFirstSym (s : State) (fg : Nat) : Nat := bitsOf (s.fgWord fg 4) 31 28

/-- A TX flow group that takes part in the port's cycles. -/
def State.fgTx (s : State) (fg : Nat) : Bool := s.fgIs fg 63 && s.fgIs fg 62

/-- Ring slot of a symbol (R370). -/
def State.ringSlot (s : State) (fg slot sym : Nat) : Nat :=
  let c := s.fgCar fg
  (((s.nearSlot c slot) * (s.shape c).perSlot + sym) % (s.fgDepth fg : Int)).toNat

/-- Counters of a classifier entry: missing, late, early, dup. -/
def State.clsCount (s : State) (e i n : Nat) : State :=
  if n = 0 then s else { s with girt := { s.girt with clsCnt := bumpAt s.girt.clsCnt e i n } }

/-! ## Classification (R365, R366) -/

def actType (a : BitVec 64) : Nat := bitsOf a.toNat 63 61
def actBay (a : BitVec 64) : Nat := bitsOf a.toNat 60 58
def actFg (a : BitVec 64) : Nat := bitsOf a.toNat 43 32
def actStream (a : BitVec 64) : Nat := bitsOf a.toNat 31 24
def actRing (a : BitVec 64) : Nat := bitsOf a.toNat 19 16

/-- The parts of a key that are compared: port, VLAN ID, proto, msg, id. -/
def keyParts (k : Nat) : List Nat := [bitsOf k 63 58, bitsOf k 57 46, bitsOf k 45 44, bitsOf k 43 36, bitsOf k 15 0]

/-- An entry matches a frame on port `p`, with its port exact or any, its VLAN ID exact or any. -/
def State.matches' (s : State) (k p : Nat) (f : RxFrame) (anyPort anyVlan : Bool) : Bool :=
  let port := bitsOf k 63 58
  let vlan := if f.tagged then f.vlan.toNat else 0
  (if anyPort then port == 63 else decide (port < 40) && (port == p || s.mate port == some p)) &&
    (if anyVlan then bitsOf k 57 46 == 0xFFF else bitsOf k 57 46 == vlan) &&
    bitsOf k 45 44 == f.proto.toNat && bitsOf k 43 36 == f.msg.toNat && bitsOf k 15 0 == f.id.toNat

/-- The entry that a frame matches, in the order of preference of R365. -/
def State.classify (s : State) (p : Nat) (f : RxFrame) : Option (Nat × BitVec 64) :=
  [(false, false), (false, true), (true, false), (true, true)].findSome? fun w =>
    (s.girt.cls.find? fun e => s.matches' e.2.1.toNat p f w.1 w.2).map fun e => (e.1, e.2.2)

/-! ## Compression (R374) -/

/-- Bits of bytes in network order. -/
def bitsBE (bs : List Byte) : List Bool := bs.flatMap fun b => (List.range 8).map fun i => b.getLsbD (7 - i)
def ofBitsBE (l : List Bool) : Nat := l.foldl (fun n b => 2 * n + bitNat b) 0
def toBitsBE (w v : Nat) : List Bool := (List.range w).map fun i => v.testBit (w - 1 - i)
def bytesBE : List Bool → Nat → List Byte
  | _, 0 => []
  | l, n + 1 => BitVec.ofNat 8 (ofBitsBE (l.take 8)) :: bytesBE (l.drop 8) n

/-- Bytes of a PRB in a format. -/
def prbBytes (method width : Nat) : Nat := if method = 0 then 3 * width else 1 + 3 * width

/-- [log 96] -/
abbrev uMuLaw : Nat := 71

/-- The 24 parts of a PRB, I before Q. The expansion table of µ-law is firmware's, and open. [log 96] -/
def expandPrb (method width : Nat) (bs : List Byte) : List Int :=
  if method = 0 then
    let bits := bitsBE bs
    (List.range 24).map fun i => sgn 16 (sgn width (ofBitsBE ((bits.drop (width * i)).take width)) % 65536).toNat
  else if method = 1 then
    let e := (bs.headD 0).toNat % 16
    let bits := bitsBE (bs.drop 1)
    (List.range 24).map fun i => satS 16 (sgn width (ofBitsBE ((bits.drop (width * i)).take width)) * (2 ^ e : Nat))
  else
    let shift := (bs.headD 0).toNat
    (List.range 24).map fun i => sgn 16 (Config.unit uMuLaw [0, shift, ((bs.getD (i + 1) 0)).toNat])

/-- A PRB compressed, and the parts that were clamped. [log 96] -/
def packPrb (method width : Nat) (xs : List Int) : List Byte × Nat :=
  if method = 0 then (bytesBE (xs.flatMap fun x => toBitsBE width (wrap width x)) (3 * width), 0)
  else if method = 1 then
    let fits (e : Nat) : Bool := xs.all fun x => satS width (rnd x e) == rnd x e
    let e := ((List.range 16).find? fits).getD 15
    let clamps := (xs.filter fun x => satS width (rnd x e) != rnd x e).length
    (BitVec.ofNat 8 e :: bytesBE (xs.flatMap fun x => toBitsBE width (wrap width (satS width (rnd x e)))) (3 * width), clamps)
  else
    let k := xs.map fun x => wrap 16 x
    ((List.range 25).map fun i => BitVec.ofNat 8 (Config.unit uMuLaw (1 :: i :: k)), 0)

/-- CI16 bytes of parts. -/
def ci16Bytes (xs : List Int) : List Byte := xs.flatMap fun x => toBytes 2 (wrap 16 x)
def ofCi16 (bs : List Byte) : List Int :=
  (List.range (bs.length / 2)).map fun i => sgn 16 (ofBytes ((bs.drop (2 * i)).take 2))

/-! ## Receive windows (R369 to R373) -/

/-- The device is in NAP or RETAIN. -/
def State.sleepState (s : State) : Bool := decide (2 ≤ s.fld PWR_DEV_STAT 1 0)
/-- The Girt has stopped writing to Loft and DRAM: RETAIN, or its entry (R430). -/
def State.girtHeld (s : State) : Bool := s.fld PWR_DEV_STAT 1 0 == 3 || s.power.target == some 3
/-- A ring at an address cannot be served: it lies in Loft or DRAM, which the Girt does not write now. -/
def State.ringHeld (s : State) (a : Nat) : Bool := s.girtHeld && !decide (hostBase ≤ a ∧ a < hostBase + 0x400000000000)

def girtAgent (b : Nat) : Agent := ⟨.girt (Fin.ofNat 8 b), b % 8, false⟩

/-- A write of the Girt into Loft or a Mortise buffer (R370); false where it was refused, or the Girt does not write (R430). -/
def State.girtPut (s : State) (b a : Nat) (bs : List Byte) : Bool × State :=
  if s.girtHeld then (false, s)
  else match s.place (.girt (Fin.ofNat 8 b)) a bs.length with
  | .sram _ => s.memWrite (girtAgent b) a bs
  | _ => (false, s)

/-- Samples of a PRACH occasion that the group takes: the longest L that its PRBs hold (R198, R373). [log 95] -/
def State.fgL (s : State) (fg : Nat) : Nat := if 839 ≤ 12 * s.fgPrbs fg then 839 else min 139 (12 * s.fgPrbs fg)

/-- Stream number in the plane of stream `st` at repetition `rep`. -/
def State.planeStream (s : State) (fg st rep : Nat) : Nat := if s.fgPrach fg then st * s.fgReps fg + rep else st

/-- Address of PRB `q` of a plane's stream in the ring slot of the window. -/
def State.prbAddr (s : State) (fg : Nat) (w : Window) (st q : Nat) : Nat :=
  s.fgBase fg + s.ringSlot fg w.slot.toNat w.symbol * s.fgSymStride fg + st * s.fgStrStride fg + 48 * (q - s.fgFirstPrb fg)

/-- One PRB written, PRACH samples from L on left out. -/
def State.putPrb (s : State) (fg : Nat) (w : Window) (st q : Nat) (xs : List Int) : Bool × State :=
  let n := if s.fgPrach fg then min 12 (s.fgL fg - 12 * (q - s.fgFirstPrb fg)) else 12
  s.girtPut (s.fgBay fg) (s.prbAddr fg w st q) (ci16Bytes (xs.take (2 * n)))

def State.inGroup (s : State) (fg q : Nat) : Bool := decide (s.fgFirstPrb fg ≤ q ∧ q < s.fgFirstPrb fg + s.fgPrbs fg)

/-- Streams of the group's plane. -/
def State.planeStreams (s : State) (fg : Nat) : Nat := s.fgStreams fg * (if s.fgPrach fg then s.fgReps fg else 1)

/-- PRBs of a plane's stream that the window still lacks. -/
def State.lacks (s : State) (fg : Nat) (w : Window) (st : Nat) : List Nat :=
  ((List.range (s.fgPrbs fg)).map (s.fgFirstPrb fg + ·)).filter fun q => !w.got.contains (st, q)

/-- The Tysar link whose flow group this is (R259). [log 130] -/
def State.tysFlow (s : State) (fg : Nat) : Option (Fin 4) :=
  ([0, 1, 2, 3] : List (Fin 4)).find? fun l =>
    s.flag TYS_CTL 0 && s.flag (TYS_LINK_CFG l) 31 && !s.flag (TYS_LINK_CFG l) 30 && s.fld (TYS_LINK_CFG l) 11 0 == fg

/-- The status in the record of a symbol's frame that its arrival event waits for is not written yet: of symbol 2 the header
status, of the frame's last symbol the final one (R258, R259). [log 130] -/
def State.statusAwaited (s : State) (l : Fin 4) (slot sym : Nat) : Bool :=
  let f := slot / 4
  (slot % 4 == 0 && sym == 2 && tget? s.tys.hdrDone l != some f) || (slot % 4 == 3 && sym == 13 && tget? s.tys.finDone l != some f)

/-- The arrival event, once for each window (R11, R372); that of a Tysar flow group may wait for TYS (R259). A carrier that
sleeps raises none (R435). [log 130] -/
def State.raiseArrival (s : State) (fg : Nat) : State :=
  match tget? s.girt.windows fg with
  | some w =>
    if w.raised then s
    else
      let t := { s with girt := { s.girt with windows := tput s.girt.windows fg { w with raised := true } } }
      if s.power.asleep.contains (s.fgCar fg) then t
      else match (s.tysFlow fg).map fun l => s.statusAwaited l w.slot.toNat w.symbol with
        | some true =>
          let others := t.girt.awaiting.filter fun e => !(e.1 == fg && e.2.2 == w.symbol)
          { t with girt := { t.girt with awaiting := others ++ [(fg, w.slot.toNat, w.symbol)] } }
        | _ => t.arrival fg w.slot.toNat w.symbol (s.fgCar fg)
  | none => s

/-- TYS has written a status: the arrival events that waited for it are raised (R259). -/
def State.releaseArrivals (s : State) (l : Fin 4) : State :=
  let due := s.girt.awaiting.filter fun e => s.tysFlow e.1 == some l && !s.statusAwaited l e.2.1 e.2.2
  each due (fun e s => s.arrival e.1 e.2.1 e.2.2 (s.fgCar e.1))
    { s with girt := { s.girt with awaiting := s.girt.awaiting.filter fun e => !due.contains e } }

/-- Index of a symbol in its 10 ms frame, and the frame modulo 256 (R371). -/
def State.frameSym (s : State) (fg slot sym : Nat) : Nat × Nat :=
  let c := s.fgCar fg
  let g := s.shape c
  let n := s.nearSlot c slot * g.perSlot + sym
  let per : Int := (20 * g.perHalf : Nat)
  ((n / per % 256).toNat, (n % per).toNat)

/-- Slots of a subframe on a flow group's grid. -/
def State.fgSlots (s : State) (fg : Nat) : Nat :=
  let g := s.shape (s.fgCar fg)
  max 1 (2 * g.perHalf / g.perSlot)

/-- Symbols from the window's symbol to a section's: negative for an earlier one. -/
def State.sectionAhead (s : State) (fg : Nat) (w : Window) (x : Section) : Int :=
  let g := s.shape (s.fgCar fg)
  let (f, i) := s.frameSym fg w.slot.toNat w.symbol
  let j := (x.subframeId.toNat * s.fgSlots fg + x.slotId.toNat) * g.perSlot + x.symbolId.toNat
  sgn 8 (x.frameId.toNat + 256 - f) * (20 * g.perHalf : Nat) + j - i

/-- Method and width that a section names: its own header, or the static one of the group's format (R371). -/
def State.sectionFormat (s : State) (fg : Nat) (x : Section) : Nat × Nat :=
  let fmt := s.reg (GRT_FMT (s.fgFmt fg))
  if bitOf fmt 8 then (bitsOf fmt 15 12, bitsOf fmt 4 0)
  else (x.method.toNat, if x.width = 0 then 16 else x.width.toNat)

/-- A section's fields lie in their ranges and its payload has the size that they name (R367). -/
def State.sectionSound (s : State) (fg : Nat) (x : Section) : Bool :=
  let (method, width) := s.sectionFormat fg x
  decide (x.subframeId.toNat < 10) && decide (x.slotId.toNat < s.fgSlots fg) &&
    decide (x.symbolId.toNat < (s.shape (s.fgCar fg)).perSlot) &&
    decide (x.payload.length = x.numPrb.toNat * prbBytes method width)

/-- The classifier entry of a stream's flow: the lowest UPLANE entry that names it. [log 94] -/
def State.flowEntry (s : State) (fg st : Nat) : Option Nat :=
  (s.girt.cls.find? fun e => actType e.2.2 == 1 && actFg e.2.2 == fg && actStream e.2.2 == st).map (·.1)

/-- The open window closes: what is missing is written as zeros, and the arrival event is raised (R372). -/
def State.closeWindow (s : State) (fg : Nat) : State :=
  match tget? s.girt.windows fg with
  | none => s
  | some w =>
    let reps := if s.fgPrach fg then s.fgReps fg else 1
    let s := each (List.range (s.planeStreams fg)) (fun i s =>
      each (s.lacks fg w i) (fun q s => (s.putPrb fg w i q (List.replicate 24 0)).2) s) s
    let s := each (List.range (s.fgStreams fg)) (fun st s =>
      if (List.range reps).any fun r => !(s.lacks fg w (s.planeStream fg st r)).isEmpty then
        match s.flowEntry fg st with
        | some e => s.clsCount e 0 1
        | none => s
      else s) s
    let s := s.raiseArrival fg
    { s with girt := { s.girt with windows := tdel s.girt.windows fg } }

/-- The symbol boundary at which a window closes: that of the next window's opening (R369), for a PRACH group `reps` symbols on
(R373), and one that a step has passed over is no boundary (R50). -/
def State.closeSym (s : State) (fg : Nat) (w : Window) : Int :=
  let c := s.fgCar fg
  let n := s.symNo c w.slot.toNat w.symbol (1 + if s.fgPrach fg then s.fgReps fg else 1)
  (tget s.ridge.skipped c []).foldr (fun r n => if decide (r.1 < n ∧ n ≤ r.2) then r.2 + 1 else n) n

/-- Time at which a window closes. -/
def State.closeTime (s : State) (fg : Nat) (w : Window) : Int :=
  s.symTime (s.fgCar fg) (s.closeSym fg w) + s.fgOff fg * (nsUnit : Int)

/-- The open window closes where its time has come. -/
def State.windowClock (s : State) (fg : Nat) : State :=
  match tget? s.girt.windows fg with
  | some w => if s.closeTime fg w ≤ s.now then s.closeWindow fg else s
  | none => s

/-- One section past check 1, in the order of R371; `e` is its classifier entry. A group that is not valid, or sends, has no
window open. A PRB whose write is refused (R291) does not count as received: it is missing from its flow when the window
closes. [log 94, 95] -/
def State.section (s : State) (e fg st : Nat) (type3 : Bool) (x : Section) : State :=
  let s := s.windowClock fg
  let fmt := s.reg (GRT_FMT (s.fgFmt fg))
  let (method, width) := s.sectionFormat fg x
  if !s.fgIs fg 63 || s.fgIs fg 62 then s.clsCount e 2 1
  else if s.fgPrach fg && !type3 then s
  else if method != bitsOf fmt 15 12 || width != bitsOf fmt 4 0 || method == 15 then s.fgCount fg 3 1
  else match tget? s.girt.windows fg, s.power.asleep.contains (s.fgCar fg) with
    | none, _ | _, true => s.clsCount e 2 1
    | some w, false =>
      let d := s.sectionAhead fg w x
      let reps : Int := if s.fgPrach fg then s.fgReps fg else 1
      if d < 0 then s.clsCount e 1 1
      else if d ≥ reps then s.clsCount e 2 1
      else
        let ps := s.planeStream fg st d.toNat
        let n := prbBytes method width
        let prbs := (List.range x.numPrb.toNat).map (x.firstPrb.toNat + ·)
        let mine := prbs.filter (s.inGroup fg)
        let s := s.fgCount fg 2 (prbs.length - mine.length)
        let s := s.clsCount e 3 (mine.filter fun q => w.got.contains (ps, q)).length
        let put (r : List Nat × State) (q : Nat) : List Nat × State :=
          let (ok, s) := r.2.putPrb fg w ps q
            (expandPrb method width ((x.payload.drop (n * (q - x.firstPrb.toNat))).take n))
          (if ok then r.1 ++ [q] else r.1, s)
        let (done, s) := mine.foldl put ([], s)
        let w' := { w with got := done.foldl (fun l q => if l.contains (ps, q) then l else l ++ [(ps, q)]) w.got }
        let s := { s with girt := { s.girt with windows := tput s.girt.windows fg w' } }
        if (List.range (s.planeStreams fg)).all fun i => (s.lacks fg w' i).isEmpty then s.raiseArrival fg else s

/-- A receive window opens; the one before it closes (R369, R373). [log 95] -/
def State.openWindow (s : State) (fg slot sym : Nat) : State :=
  let c := s.fgCar fg
  let n := s.symNo c slot sym 0
  let later := match tget? s.girt.lastWindow fg with
    | some l => decide (s.symNo c l.1.toNat l.2 0 < n)
    | none => true
  if !s.fgIs fg 63 || s.fgIs fg 62 || !s.flag GRT_CTL 0 || !s.islandUp 3 || !s.carStarted c || s.power.asleep.contains c ||
      s.steppedOver c (n + 1) || !later || decide ((s.shape c).perSlot ≤ sym) || (s.fgPrach fg && sym != s.fgFirstSym fg) then s
  else
    let s := (s.untilTime (s.symTime c (n + 1) + s.fgOff fg * (nsUnit : Int))).closeWindow fg
    { s with girt := { s.girt with windows := tput s.girt.windows fg ⟨BitVec.ofNat 32 slot, sym, [], false⟩,
                                   lastWindow := tput s.girt.lastWindow fg (BitVec.ofNat 32 slot, sym) } }

/-! ## Packet rings (R379, R380) -/

def State.pktRing (s : State) (b d r : Nat) : Nat × Nat :=
  (s.reg (GRT_RING_LO b d r) / 32 * 32 + 0x100000000 * s.fld (GRT_RING_HI b d r) 15 0, 2 ^ s.fld (GRT_RING_LO b d r) 4 0)

/-- Unit of `Config.unit`: pma_delay of a rate, a constant that firmware loads (R54). [log 29] -/
abbrev uPma : Nat := 84

/-- pma_delay of a port, in quarter nanoseconds, by its kind of lane and its rate. [log 29] -/
def State.pmaDelay (s : State) (p : Nat) : Nat :=
  let l := portLane p
  Config.unit uPma [bitNat (decide (l < 48)), s.laneProto l, if l < 48 then s.fld (laneCtl l) 25 24 else s.fld (laneStat l) 19 17]

/-- fec_delay of a port, in quarter nanoseconds: that of R353 for the rate and the mode in force; a Peg lane has no FEC. -/
def State.fecDelay (s : State) (p : Nat) : Nat :=
  if p ≥ 32 then 0
  else match s.fld (laneCtl (portLane p)) 25 24, s.fld PWR_PROF_STAT 1 0 == 1 with
    | 0, false => 4 * 150
    | 0, true => 4 * 95
    | _, false => 4 * 250
    | _, true => 4 * 160

/-- The instant of a reference point at the PMA, in quarter nanoseconds: in the present tick of the counter. -/
def State.captureNow (s : State) : Int × State := let (f, s) := s.fresh; (s.now / (nsUnit / 4 : Nat) + (f % 4 : Nat), s)

/-- The port's stamps are software stamps, taken at the Plate's interrupt entry (R56). -/
def State.softPort (s : State) (p : Nat) : Bool := s.flag (RDG_PORT_CAL_RX p) 31

/-- A software stamp, accurate to ±1 µs (R56). [log 29] -/
def State.softStamp (s : State) : Int × State :=
  let (f, s) := s.fresh
  (s.now / (nsUnit / 4 : Nat) + (f % 8001 : Nat) - 4000, s)

/-- A receive stamp in quarter nanoseconds (R54, R56): which lane of the port carries the reference point is a free value. [log 29] -/
def State.rxTime (s : State) (p : Nat) : Int × State :=
  if s.softPort p then s.softStamp
  else
    let (t, s) := s.captureNow
    let g := s.laneGroup (portLane p)
    let (f, s) := s.fresh
    let k := f % g.length
    let skew : Int := if k = 0 then 0 else sgn 16 (s.reg (laneReg (g.getD k 0) 0x10C))
    (t - skew - s.fecDelay p - s.pmaDelay p + sgn 16 (s.reg (RDG_PORT_CAL_RX p)), s)

/-- A receive stamp in the form of word 2 of an RX entry (R379). -/
def State.rxStamp (s : State) (p : Nat) : Nat × State :=
  let (q, s) := s.rxTime p
  let ns := q / 4
  ((q % 4).toNat * 2 ^ 48 + wrap 18 (ns / 1000000000) * 2 ^ 30 + (ns % 1000000000).toNat, s)

/-- A whole frame to an RX packet ring: buffer first, then words 1 to 3, and word 0 with done last (R379). -/
def State.pktReceive (s : State) (b r p e : Nat) (stamp : Bool) (bytes : List Byte) : State :=
  let drop (s : State) : State := (s.bump (GRT_RING_DROP_CNT b 0 r)).raise (grtView b) 1
  let (base, size) := s.pktRing b 0 r
  let i := s.reg (GRT_RX_PROD b r)
  if !s.flag (GRT_RING_CTL b 0 r) 31 || decide (sub32 i (s.reg (GRT_RX_CONS b r)) ≥ size) || s.ringHeld base then drop s
  else
    let a := base + 32 * (i % size)
    let ag := girtAgent b
    match s.memRead ag a 32 with
    | (.error _, s) => drop s
    | (.ok bs, s) =>
      let w (k : Nat) : Nat := wordAt bs k
      let cap := bitsOf (w 1) 31 16
      let cut := bytes.take cap
      let (st, s) := if stamp then s.rxStamp p else (0, s)
      let soft := stamp && s.softPort p
      let w1 := p * 2 ^ 48 + cap * 2 ^ 16 + cut.length
      let w2 := bitNat stamp * 2 ^ 63 + bitNat soft * 2 ^ 62 + st
      let w3 := bitNat (cut.length < bytes.length) * 2 ^ 16 + e
      let s := if s.ringHeld (bitsOf (w 0) 47 0) then s else s.put ag (bitsOf (w 0) 47 0) cut
      let s := s.put ag (a + 8) (toBytes 8 w1 ++ toBytes 8 w2 ++ toBytes 8 w3)
      let s := s.put ag a (toBytes 8 (putBits (w 0) 63 63 1))
      (s.setReg (GRT_RX_PROD b r) (add32 i 1)).raise (grtView b) 0

/-! ## Frames received -/

/-- The action of a matched entry (R366). -/
def State.act (s : State) (p : Nat) (f : RxFrame) (e : Nat) (a : BitVec 64) : State :=
  match actType a with
  | 0 => s.dropped p 1
  | 1 =>
    if f.sections.any fun x => !s.sectionSound (actFg a) x then s.bump GRT_BADHDR_CNT
    else each f.sections (fun x s => s.section e (actFg a) (actStream a) f.sectionType3 x) s
  | 2 => s.pktReceive (actBay a) (actRing a) p e (bitOf a.toNat 56 || f.ptpEvent) f.bytes
  | 3 => s.emit (.frame 45 f.bytes)
  | 4 => s.emit (.frame 46 f.bytes)
  | _ => s.dropped p 1

/-- A frame past the port's checks: header, classification, wake, action (R365 to R368). [log 94] -/
def State.handleFrame (s : State) (p : Nat) (f : RxFrame) : State :=
  if !f.headerOk || !f.revOk then s.bump GRT_BADHDR_CNT
  else match s.classify p f with
    | none => s.bump GRT_MISS_CNT
    | some (e, a) =>
      if bitOf a.toNat 57 && s.sleepState then { s with girt := { s.girt with waiting := s.girt.waiting ++ [(p, f)] } }
      else s.act p f e a

/-- Bytes of a port's ingress buffer that frames waiting for a wake hold. -/
def State.ingress (s : State) (p : Nat) : Nat :=
  (s.girt.waiting.filter fun e => e.1 == p).foldl (fun n e => n + e.2.bytes.length) 0

/-- A frame arrives on a port (R363); one whose lanes are not ACTIVE takes none in. [log 94, 115] -/
def State.receive (s : State) (p : Nat) (f : RxFrame) : State :=
  if !s.portOn p || !s.portActive p then s
  else if !f.fcsOk || decide (f.bytes.length > 9216) || decide (s.ingress p + f.bytes.length > 262144) then s.dropped p 1
  else s.handleFrame p f

/-- The device is awake again: the frames that waited are handled by their actions (R368). -/
def State.releaseWaiting (s : State) : State :=
  each s.girt.waiting (fun e s => s.handleFrame e.1 e.2) { s with girt := { s.girt with waiting := [] } }

/-! ## Gates (R376) -/

def State.gclLen (s : State) (p : Nat) : Nat := max 1 (min 1024 (s.fld (GRT_PORT_GCL p) 26 16))
def gclEntry (p list i : Nat) : Nat := bank (p * 2048 + list * 1024 + i) GRT_GCL_DATA
def State.gclOper (s : State) (p : Nat) : Nat := s.fld (GRT_PORT_GCL p) 30 30

/-- Entry whose gates hold: the last one's until the next anchor. -/
def State.gatePos (s : State) (p : Nat) : Nat := min (tget s.girt.gate p 0) (s.gclLen p - 1)
def State.gates (s : State) (p : Nat) : Nat := bitsOf (s.reg (gclEntry p (s.gclOper p) (s.gatePos p))) 31 24
/-- Intervals of the first `n` entries of the list in use, in ns. -/
def State.gclTime (s : State) (p n : Nat) : Nat :=
  (List.range n).foldl (fun t i => t + s.fld (gclEntry p (s.gclOper p) i) 23 0) 0

def State.portAnchor (s : State) (p : Nat) : Nat := s.fld (GRT_PORT_CFG p) 15 8

/-- Time of the anchor event of a symbol. -/
def State.anchorTime (s : State) (p slot sym : Nat) : Int :=
  s.symTime (s.portAnchor p) (s.symNo (s.portAnchor p) slot sym 0) - (s.reg (GRT_PORT_ADV p) : Int) * (nsUnit : Int)

/-- The carrier of a TX flow group has the anchor carrier's mu, ecp and offset (R377). -/
def State.fgFits (s : State) (fg : Nat) : Bool :=
  let c := s.fgCar fg
  let a := s.portAnchor (s.fgPort fg)
  bitsOf (s.carCfg c) 3 0 == bitsOf (s.carCfg a) 3 0 && s.reg (RDG_CAR_OFFS c) == s.reg (RDG_CAR_OFFS a)

/-- TX flow groups of a port. -/
def State.portFgs (s : State) (p : Nat) : List Nat :=
  (s.girt.fgs.map (·.1)).filter fun fg => s.fgTx fg && s.fgPort fg == p

/-- GRT_PORT_CFG.badcar. -/
def State.badPortCar (s : State) (p : Nat) : Bool := (s.portFgs p).any fun fg => !s.fgFits fg

/-- Groups of a port that send in its cycle. -/
def State.liveFgs (s : State) (p : Nat) : List Nat :=
  (s.portFgs p).filter fun fg => s.fgFits fg && !s.power.asleep.contains (s.fgCar fg)

/-- The mark of a flow group for the symbol of its port's cycle. -/
def State.markFor (s : State) (fg : Nat) : Option (Nat × Nat × Nat × Nat) :=
  match tget? s.girt.cycleSym (s.fgPort fg) with
  | none => none
  | some (n, j) => s.girt.marks.find? fun m =>
      m.1 == fg && m.2.1 == s.ringSlot fg n.toNat j && m.2.2.1 == n.toNat && m.2.2.2 == j

/-- The gates of the classes in `mask` have closed, or the cycle in which they were open has ended: unsent groups of those
classes count in not_ready (R377). [log 93] -/
def State.gatesMiss (s : State) (p mask : Nat) : State :=
  each ((s.liveFgs p).filter fun fg => bitOf mask (s.fgClass fg) && !s.girt.sent.contains fg) (fun fg s =>
    let s := { s with girt := { s.girt with sent := addOnce s.girt.sent fg } }
    if (s.markFor fg).isNone then s.fgCount fg 0 (s.fgStreams fg) else s) s

/-- The gates of the classes in `mask` have closed: their queued sections are dropped, and counted unless their carrier sleeps
(R377, R435). -/
def State.gatesDrop (s : State) (p mask : Nat) : State :=
  each (s.girt.txq.map (·.1)) (fun port s =>
    let gone (x : TxItem) : Bool := s.fgPort x.fg == p && bitOf mask x.cls
    let q := tget s.girt.txq port []
    let s := each ((q.filter gone).filter fun x => !s.power.asleep.contains (s.fgCar x.fg)) (fun x s => s.fgCount x.fg 1 1) s
    { s with girt := { s.girt with txq := tput s.girt.txq port (q.filter fun x => !gone x) } }) s

/-- Classes whose gate is open now open for the first time in the cycle: their groups choose port or mate (R364). [log 93] -/
def State.gatesOpen (s : State) (p : Nat) : State :=
  let new := Nat.xor (Nat.lor (s.gates p) (tget s.girt.opened p 0)) (tget s.girt.opened p 0)
  let s := { s with girt := { s.girt with opened := tput s.girt.opened p (Nat.lor (s.gates p) (tget s.girt.opened p 0)) } }
  each ((s.liveFgs p).filter fun fg => bitOf new (s.fgClass fg)) (fun fg s =>
    let via := !s.portActive p && (s.mate p).isSome
    { s with girt := { s.girt with viaMate := if via then addOnce s.girt.viaMate fg else s.girt.viaMate.filter (· != fg) } }) s

/-- An anchor event: the cycle before it ends, the lists change where a swap was asked for, and the list starts again. [log 93] -/
def State.anchorEvent (s : State) (p slot sym : Nat) : State :=
  let c := s.portAnchor p
  let t := s.anchorTime p slot sym
  let prev := tget? s.girt.cycleSym p
  let later := match prev with
    | some l => decide (s.symNo c l.1.toNat l.2 0 < s.symNo c slot sym 0)
    | none => true
  if !s.portOn p || !s.carStarted c || s.steppedOver c (s.symNo c slot sym 0) || !later ||
      decide ((s.shape c).perSlot ≤ sym) then s
  else
    let s := s.untilTime t
    let s := match prev with
      | some l =>
        if s.anchorTime p l.1.toNat l.2 + (s.gclTime p (s.gclLen p) : Int) * (nsUnit : Int) > t then s.dropped p 1 else s
      | none => s
    let was := tget s.girt.opened p 0
    let s := s.gatesMiss p was
    let mine := s.portFgs p
    let old (m : Nat × Nat × Nat × Nat) : Bool := match prev with
      | some l => mine.contains m.1 && m.2.2.1 == l.1.toNat && m.2.2.2 == l.2
      | none => false
    let s := if s.girt.swapReq.contains p then s.setFlag (GRT_PORT_GCL p) 30 (s.gclOper p == 0) else s
    let s := { s with girt := { s.girt with
      gate := tput s.girt.gate p 0, cycleSym := tput s.girt.cycleSym p (BitVec.ofNat 32 slot, sym),
      swapReq := s.girt.swapReq.filter (· != p), opened := tput s.girt.opened p 0,
      sent := s.girt.sent.filter fun fg => !mine.contains fg, marks := s.girt.marks.filter fun m => !old m } }
    (s.gatesDrop p (Nat.land was (0xFF - s.gates p))).gatesOpen p

/-- An interval of the list ends before the next anchor: the next entry's gates apply, or the last one's hold (R376). [log 93] -/
def State.intervalEnd (s : State) (p : Nat) : State :=
  match tget? s.girt.cycleSym p with
  | none => s
  | some l =>
    let i := tget s.girt.gate p 0
    let c := s.portAnchor p
    let t := s.anchorTime p l.1.toNat l.2 + (s.gclTime p (i + 1) : Int) * (nsUnit : Int)
    let next := s.symTime c (s.symNo c l.1.toNat l.2 1) - (s.reg (GRT_PORT_ADV p) : Int) * (nsUnit : Int)
    if !s.portOn p || !s.carStarted c || decide (s.gclLen p ≤ i) || decide (next ≤ t) then s
    else
      let s := s.untilTime t
      let was := s.gates p
      let s := { s with girt := { s.girt with gate := tput s.girt.gate p (i + 1) } }
      let shut := Nat.land was (0xFF - s.gates p)
      ((s.gatesMiss p shut).gatesDrop p shut).gatesOpen p

/-! ## Transmission (R377) -/

/-- The header template of a flow group. -/
def State.fgHeader (s : State) (fg : Nat) : List Byte :=
  (List.range 16).flatMap fun i => toBytesBE 4 (s.reg (GRT_HDR (bitsOf (s.fgWord fg 4) 27 24) i))

/-- One section of `n` PRBs from `q` of the symbol that mark `m` tags, queued; nothing where the plane cannot be read. [log 97] -/
def State.queueSection (s : State) (fg port : Nat) (m : Nat × Nat × Nat × Nat) (st q n : Nat) : State :=
  let fmt := s.reg (GRT_FMT (s.fgFmt fg))
  let a := s.fgBase fg + m.2.1 * s.fgSymStride fg + st * s.fgStrStride fg + 48 * (q - s.fgFirstPrb fg)
  match s.memRead (girtAgent (s.fgBay fg)) a (48 * n) with
  | (.error _, s) => s
  | (.ok bs, s) =>
    let prbs := (List.range n).map fun i => packPrb (bitsOf fmt 15 12) (bitsOf fmt 4 0) (ofCi16 ((bs.drop (48 * i)).take 48))
    let s := s.bumpBy GRT_CMP_SAT_CNT (prbs.foldl (fun t x => t + x.2) 0)
    let eaxc := (bitsOf (s.fgWord fg 4) 15 0 + st) % 65536
    let k := s.fgPort fg * 65536 + eaxc
    let seq := tget s.girt.seqNo k 0
    let x : TxItem := ⟨fg, s.fgClass fg, eaxc, seq, m.2.2.1, m.2.2.2, q, n, s.fgHeader fg ++ prbs.flatMap (·.1)⟩
    { s with girt := { s.girt with seqNo := tput s.girt.seqNo k ((seq + 1) % 256),
                                   txq := tput s.girt.txq port (tget s.girt.txq port [] ++ [x]) } }

/-- A marked ring slot under an open gate becomes sections, in stream order with PRBs ascending. -/
def State.buildSections (s : State) (fg : Nat) : State :=
  let p := s.fgPort fg
  let fmt := bitsOf (s.reg (GRT_FMT (s.fgFmt fg))) 15 12
  match s.markFor fg with
  | none => s
  | some m =>
    if !(s.liveFgs p).contains fg || !s.portOn p || s.girt.sent.contains fg || !bitOf (s.gates p) (s.fgClass fg) ||
        fmt == 15 then s
    else
      let port := if s.girt.viaMate.contains fg then (s.mate p).getD p else p
      let step := match bitsOf (s.fgWord fg 4) 23 16 with | 0 => s.fgPrbs fg | n => n
      let s := each (List.range (s.fgStreams fg)) (fun st s =>
        each (List.range (ceilTo (s.fgPrbs fg) (max 1 step) / max 1 step)) (fun i s =>
          s.queueSection fg port m st (s.fgFirstPrb fg + i * step) (min step (s.fgPrbs fg - i * step))) s) s
      { s with girt := { s.girt with sent := addOnce s.girt.sent fg, marks := s.girt.marks.filter (· != m) } }

/-- A TX entry completes: err where its frame was not sent (R380). -/
def State.pktDone (s : State) (b r : Nat) (err : Bool) : State :=
  let (base, size) := s.pktRing b 1 r
  let i := s.reg (GRT_TX_CONS b r)
  let a := base + 32 * (i % size)
  let w0 := ofBytes (s.got (girtAgent b) a 8)
  let s := s.put (girtAgent b) a (toBytes 8 (putBits w0 63 62 (2 + bitNat err)))
  (s.setReg (GRT_TX_CONS b r) (add32 i 1)).raise (grtView b) 2

/-- The head entry of a TX ring waits at its port; entries for a port that is not ACTIVE complete with err. -/
def State.pktHead (s : State) (b r : Nat) : Nat → State
  | 0 => s
  | n + 1 =>
    let (base, size) := s.pktRing b 1 r
    let i := s.reg (GRT_TX_CONS b r)
    if !s.flag (GRT_RING_CTL b 1 r) 31 || i == s.reg (GRT_TX_PROD b r) || s.ringHeld base then s
    else if s.girt.pktq.any fun e => e.2.any fun x => x.1 == b && x.2.1 == r then s
    else
      match s.memRead (girtAgent b) (base + 32 * (i % size)) 16 with
      | (.error _, s) => (s.pktDone b r true).pktHead b r n
      | (.ok bs, s) =>
        let p := bitsOf (wordAt bs 1) 21 16
        if p < 40 ∧ s.portOn p ∧ s.portActive p then
          { s with girt := { s.girt with pktq := tput s.girt.pktq p (tget s.girt.pktq p [] ++ [(b, r, i)]) } }
        else (s.pktDone b r true).pktHead b r n

/-- A write of a TX producer, of a ring's control, or an entry's end lets the ring go on. -/
def State.pktRun (s : State) (b r : Nat) : State :=
  s.pktHead b r (sub32 (s.reg (GRT_TX_PROD b r)) (s.reg (GRT_TX_CONS b r)) % 65537)

/-- The device is awake again: frames that waited, and the TX rings in Loft and DRAM, go on. -/
def State.releaseFrames (s : State) : State :=
  each (List.range 8) (fun b s => each (List.range 16) (fun r s => s.pktRun b r) s) s.releaseWaiting

/-- An egress stamp in quarter nanoseconds (R54, R56). [log 29] -/
def State.txTime (s : State) (p : Nat) : Int × State :=
  if s.softPort p then s.softStamp
  else
    let (t, s) := s.captureNow
    (t + s.pmaDelay p + sgn 16 (s.reg (RDG_PORT_CAL_TX p)), s)

/-- An egress stamp enters the FIFO of its port, with what identifies the message (R55). -/
def State.txStamp (s : State) (p : Nat) (frame : List Byte) : State :=
  let (q, s) := s.txTime p
  let off := if (frame.drop 12).take 2 = [0x81, 0x00] then 18 else 14
  let mt := (frame.getD off 0).toNat % 16
  let sq := ofBytesBE ((frame.drop (off + 30)).take 2)
  s.pushStamp p (stampOf (q * (nsUnit / 4 : Nat)) mt sq)

/-- One-step operation rewrites the frame's correction field; its new value depends on the open delays. [log 29] -/
def State.oneStep (s : State) (frame : List Byte) : List Byte × State :=
  let off := (if (frame.drop 12).take 2 = [0x81, 0x00] then 18 else 14) + 8
  let (f, s) := s.fresh
  (if frame.length < off + 8 then frame else frame.take off ++ toBytes 8 f ++ frame.drop (off + 8), s)

/-- Class of a queued packet. -/
def State.pktClass (s : State) (x : Nat × Nat × Nat) : Nat :=
  let (base, size) := s.pktRing x.1 1 x.2.1
  bitsOf (wordAt (s.got (girtAgent x.1) (base + 32 * (x.2.2 % size)) 16) 1) 26 24

/-- Length of a queued packet. -/
def State.pktLen (s : State) (x : Nat × Nat × Nat) : Nat :=
  let (base, size) := s.pktRing x.1 1 x.2.1
  bitsOf (wordAt (s.got (girtAgent x.1) (base + 32 * (x.2.2 % size)) 16) 1) 15 0

/-- Rate of a port in Gb/s (R393); a Peg port's data rate is 1 Gb/s. [log 97] -/
def State.portRate (s : State) (p : Nat) : Nat :=
  if p ≥ 32 then 1 else match s.fld (GRT_PORT_CFG p) 29 28 with | 0 => 100 | 1 => 200 | 2 => 400 | _ => 50

/-- When the open gate of a class closes on a port: with the first later interval that has it closed, or, unless the list's
first entry has it open again, at the next anchor. A port without a cycle closes no gate. -/
def State.gateEnd (s : State) (p c : Nat) : Option Int :=
  match tget? s.girt.cycleSym p with
  | none => none
  | some l =>
    let k := s.portAnchor p
    let next := s.symTime k (s.symNo k l.1.toNat l.2 1) - (s.reg (GRT_PORT_ADV p) : Int) * (nsUnit : Int)
    let open' (i : Nat) : Bool := bitOf (s.reg (gclEntry p (s.gclOper p) i)) (24 + c)
    match (List.range (s.gclLen p)).find? fun i => decide (s.gatePos p < i) && !open' i with
    | some i => some (min next (s.anchorTime p l.1.toNat l.2 + (s.gclTime p i : Int) * (nsUnit : Int)))
    | none => if open' 0 then none else some next

/-- A frame of `n` bytes ends before the gate of its class on port `g` closes, at the rate of port `p` (R376). -/
def State.gateFits (s : State) (p g c n : Nat) : Bool :=
  match s.gateEnd g c with
  | none => true
  | some t => decide (s.now * s.portRate p + ((8 * n * nsUnit : Nat) : Int) ≤ t * s.portRate p)

/-- What leaves a port next: of the frames that end before their gate closes, one of the highest open class, its sections
before its packets (R376). [log 97] -/
def State.nextOut (s : State) (p : Nat) : Option (TxItem ⊕ (Nat × Nat × Nat)) :=
  let items := tget s.girt.txq p []
  let pkts := tget s.girt.pktq p []
  [7, 6, 5, 4, 3, 2, 1, 0].findSome? fun c =>
    match items.find? fun x =>
        x.cls == c && bitOf (s.gates (s.fgPort x.fg)) c && s.gateFits p (s.fgPort x.fg) c x.bytes.length with
    | some x => some (.inl x)
    | none =>
      if bitOf (s.gates p) c then (pkts.find? fun x => s.pktClass x == c && s.gateFits p p c (s.pktLen x)).map .inr else none

/-- The port drops: sections that are being sent are lost and counted, and head packets complete with err (R364, R380). -/
def State.portDrops (s : State) (p : Nat) : State :=
  let s := s.loseSections p
  let heads := tget s.girt.pktq p []
  let s := { s with girt := { s.girt with pktq := tdel s.girt.pktq p } }
  each heads (fun x s => (s.pktDone x.1 x.2.1 true).pktRun x.1 x.2.1) s

/-- A frame leaves the port, and its TX entry completes (R377, R380). [log 97] -/
def State.sendFrame (s : State) (p : Nat) : State :=
  if !s.portOn p || !s.portActive p then s.portDrops p
  else match s.nextOut p with
    | none => s
    | some (.inl x) =>
      let q := tget s.girt.txq p []
      let s := { s with girt := { s.girt with txq := tput s.girt.txq p (q.erase x) } }
      s.emit (.sections p x.eaxc x.seqNo x.slot x.symbol x.firstPrb x.numPrb x.bytes)
    | some (.inr x) =>
      let (b, r, i) := x
      let (base, size) := s.pktRing b 1 r
      let s := { s with girt := { s.girt with pktq := tput s.girt.pktq p ((tget s.girt.pktq p []).erase x) } }
      let bs := s.got (girtAgent b) (base + 32 * (i % size)) 16
      let w1 := wordAt bs 1
      match s.memRead (girtAgent b) (bitsOf (wordAt bs 0) 47 0) (bitsOf w1 15 0) with
      | (.error _, s) => (s.pktDone b r true).pktRun b r
      | (.ok frame, s) =>
        let (frame, s) := if bitOf w1 28 then s.oneStep frame else (frame, s)
        let s := s.emit (.frame p frame)
        let s := if bitOf w1 27 then s.txStamp p frame else s
        (s.pktDone b r false).pktRun b r

/-! ## Table commands and port settings (R365, R366, R393) -/

/-- Entry words as two or five 64-bit values of the data registers. -/
def State.dataWord (s : State) (reg : Nat → Nat) (i : Nat) : Nat := s.reg (reg (2 * i)) + 0x100000000 * s.reg (reg (2 * i + 1))

/-- GRT_CLS_CMD. [log 98] -/
def State.clsCmd (s : State) (op i : Nat) : State :=
  match op with
  | 1 =>
    let k := s.dataWord GRT_CLS_DATA 0
    let a := s.dataWord GRT_CLS_DATA 1
    let act := BitVec.ofNat 64 a
    let twin := s.girt.cls.any fun e => e.1 != i && keyParts e.2.1.toNat == keyParts k
    let fgBad := (actType act == 1 || actType act == 4) && s.fgIs (actFg act) 63 && s.fgBay (actFg act) != actBay act
    let timing := actType act == 3 && actBay act != 0
    if twin || fgBad || timing || decide (actType act > 4) then s.setFlag GRT_CLS_CMD 30 true
    else
      let s := s.setFlag GRT_CLS_CMD 30 false
      { s with girt := { s.girt with cls := tput s.girt.cls i (BitVec.ofNat 64 k, act) } }
  | 2 =>
    let e := tget s.girt.cls i (0, 0)
    let c := tget s.girt.clsCnt i [0, 0, 0, 0]
    let ws := [e.1.toNat % 0x100000000, e.1.toNat / 0x100000000, e.2.toNat % 0x100000000, e.2.toNat / 0x100000000] ++ c
    each (List.range 8) (fun j s => s.setReg (GRT_CLS_DATA j) (ws.getD j 0)) s
  | 3 => { s with girt := { s.girt with cls := tdel s.girt.cls i, clsCnt := tdel s.girt.clsCnt i } }
  | _ => s

/-- GRT_FG_CMD. [log 98] -/
def State.fgCmd (s : State) (op i : Nat) : State :=
  match op with
  | 1 =>
    let ws := (List.range 5).map fun j => BitVec.ofNat 64 (s.dataWord GRT_FG_DATA j)
    { s with girt := { s.girt with fgs := tput s.girt.fgs i ws } }
  | 2 =>
    let ws := (List.range 5).flatMap fun j => [s.fgWord i j % 0x100000000, s.fgWord i j / 0x100000000]
    let ws := ws ++ tget s.girt.fgCnt i [0, 0, 0, 0]
    each (List.range 14) (fun j s => s.setReg (GRT_FG_DATA j) (ws.getD j 0)) s
  | 3 => { s with girt := { s.girt with
      fgs := tdel s.girt.fgs i, fgCnt := tdel s.girt.fgCnt i, windows := tdel s.girt.windows i,
      lastWindow := tdel s.girt.lastWindow i, marks := s.girt.marks.filter fun m => m.1 != i,
      sent := s.girt.sent.filter (· != i), viaMate := s.girt.viaMate.filter (· != i) } }
  | _ => s

/-- Lanes a port takes at a speed (R338). -/
def speedLanes (p speed : Nat) : List Nat :=
  let n := match speed with | 1 => 2 | 2 => 4 | _ => 1
  (List.range n).map (portLane p + ·)

/-- A write of GRT_PORT_CFG: speed and mate under their rules (R363, R364). -/
def State.portCfgWrite (s s0 : State) (p v : Nat) : State :=
  let a := GRT_PORT_CFG p
  let old := s0.reg a
  let sp := bitsOf v 29 28
  let m := bitsOf v 21 16
  let unaligned := (sp == 1 && p % 2 != 0) || (sp == 2 && p % 4 != 0) || (decide (p ≥ 32) && sp != 0)
  let live := (speedLanes p (bitsOf old 29 28) ++ speedLanes p sp).any fun l => s0.laneOn l
  let s := if sp ≠ bitsOf old 29 28 ∧ (unaligned ∨ live) then
      (s.setFld a 29 28 (bitsOf old 29 28)).capture grtPage 0 0x0001 p else s
  let s := if m ≠ bitsOf old 21 16 then
      if (m < 40 ∧ (m = p ∨ (m < 32 ∧ p < 32 ∧ m / 4 = p / 4))) then
        (s.setFld a 21 16 (bitsOf old 21 16)).capture grtPage 0 0x0002 p
      else if 40 ≤ m ∧ m ≠ 63 then s.setFld a 21 16 (bitsOf old 21 16)
      else s
    else s
  if bitOf old 31 && !s.flag a 31 then s.portDrops p else s

/-- A write of GRT_FMT: a combination that R374 does not accept is ignored. -/
def fmtOk (v : Nat) : Bool :=
  match bitsOf v 15 12, bitsOf v 4 0 with
  | 0, 16 | 1, 8 | 1, 9 | 1, 12 | 1, 14 | 3, 8 => true
  | _, _ => false

/-! ## Commands -/

/-- FRAME_RECEIVED (R363 to R368). -/
def execFrameReceived (p : Fin 40) (f : RxFrame) (s : State) : Host.Outcome State Fault Refusal :=
  .next (s.after (s.receive p.val f))

/-- RECEIVE_WINDOW_OPEN (R369, R373). -/
def execReceiveWindowOpen (fg : FlowNo) (slot : BitVec 32) (symbol : BitVec 4) (s : State) : Host.Outcome State Fault Refusal :=
  .next (s.after (s.openWindow fg.toNat slot.toNat symbol.toNat))

/-- RECEIVE_WINDOW_CLOSE (R369, R372, R373). -/
def execReceiveWindowClose (fg : FlowNo) (s : State) : Host.Outcome State Fault Refusal :=
  .next (s.after (match tget? s.girt.windows fg.toNat with
    | none => s
    | some w => (s.untilTime (s.closeTime fg.toNat w)).closeWindow fg.toNat))

/-- GCL_ANCHOR (R376). -/
def execGclAnchor (p : Fin 40) (slot : BitVec 32) (symbol : BitVec 4) (s : State) : Host.Outcome State Fault Refusal :=
  .next (s.after (s.anchorEvent p.val slot.toNat symbol.toNat))

/-- GCL_INTERVAL_END (R376). -/
def execGclIntervalEnd (p : Fin 40) (s : State) : Host.Outcome State Fault Refusal := .next (s.after (s.intervalEnd p.val))

/-- TX_SECTIONS_BUILD (R377). -/
def execTxSectionsBuild (fg : FlowNo) (s : State) : Host.Outcome State Fault Refusal :=
  .next (s.after (s.buildSections fg.toNat))

/-- TX_FRAME_SENT (R377, R380). -/
def execTxFrameSent (p : Fin 40) (s : State) : Host.Outcome State Fault Refusal := .next (s.after (s.sendFrame p.val))

end Sys2Proof.Machine
end

