-- ==== Sys2Proof/Machine/Tysar.lean ====
section
/-! DEFINITION. The Tysar link (R252 to R267): transmit records, reception, capture, headers, frequency and time,
joining, and NR sync detection. -/

namespace Sys2Proof.Machine

def tysPage : Nat := 0x3B0

def State.tysRx (s : State) (l : Nat) : TysRx := s.tys.rx.getD l ⟨0, none, false, none, 0, 0, false⟩
def State.setTysRx (s : State) (l : Nat) (x : TysRx) : State := { s with tys := { s.tys with rx := s.tys.rx.setIfInBounds l x } }

def State.tysCarrier (s : State) (l : Nat) : Nat := s.fld (TYS_LINK_CFG l) 23 16

/-- The link's carrier has the grid that its mode needs: NR at mu 3 and ecp 0 for Tysar frames (R252), NR at mu 0 or 1 for NR
sync detection (R267). [log 74] -/
def State.tysGrid (s : State) (l mode : Nat) : Bool :=
  let v := s.carCfg (s.tysCarrier l)
  bitOf v 31 && bitsOf v 5 3 == 0 && (if mode = 0 then bitsOf v 2 0 == 3 else decide (bitsOf v 2 0 ≤ 1))

/-- TYS and the link run, in a mode (0 Tysar, 1 NR sync detection). -/
def State.tysOn (s : State) (l mode : Nat) : Bool :=
  s.flag TYS_CTL 0 && s.flag (TYS_LINK_CFG l) 31 && s.fld (TYS_LINK_CFG l) 30 30 == mode && s.islandUp 2 && s.tysGrid l mode

/-- Kind of a plan position: 0 IDLE, 1 TX, 2 RX, 3 CONTENTION (R262). -/
def State.tysKind (s : State) (l f : Nat) : Nat := s.fld (TYS_PLAN l (f % 16)) 1 0
def State.tysPlanPeer (s : State) (l f : Nat) : Nat := s.fld (TYS_PLAN l (f % 16)) 13 8

/-- Frame count of the link's carrier (R252). -/
def State.tysFrame (s : State) (l : Nat) : Nat := s.carSlot (s.tysCarrier l) / 4

/-- Air start of a frame. -/
def State.tysStart (s : State) (l f : Nat) : Int :=
  let c := s.tysCarrier l
  s.symTime c (s.nearSlot c (4 * f % 2 ^ 32) * (s.shape c).perSlot)

def State.tysRxRec (s : State) (l f : Nat) : Nat := s.wide (TYS_LINK_RXREC_LO l) / 4096 * 4096 + 64 * (f % 64)
def State.tysTxRec (s : State) (l f : Nat) : Nat := s.wide (TYS_LINK_TXREC_LO l) / 4096 * 4096 + 64 * (f % 64)

/-! ## Stamps in quarter nanoseconds, modulo 2^18 seconds -/

abbrev stampMod : Nat := 2 ^ 18 * 4000000000

/-- A stamp of a number of quarter nanoseconds (R254). -/
def packStamp (q : Nat) : Nat :=
  let q := q % stampMod
  q % 4 * 2 ^ 48 + q / 4000000000 * 2 ^ 30 + q / 4 % 1000000000

def unpackStamp (v : Nat) : Nat := (bitsOf v 47 30 * 1000000000 + bitsOf v 29 0) * 4 + bitsOf v 49 48

/-- The difference of two stamps, the one nearest 0. -/
def stampDiff (a b : Nat) : Int :=
  let d : Int := ((a : Int) - b) % (stampMod : Int)
  if 2 * d < stampMod then d else d - stampMod

/-- A quotient that the rules do not round: its floor, or one more where it is not whole. [log 73] -/
def State.openDiv (s : State) (x : Int) (d : Int) : Int × State :=
  if x % d = 0 then (x / d, s) else let (f, s) := s.fresh; (x / d + ((f % 2 : Nat) : Int), s)

/-! ## Symbols 0 to 2 (R252 to R254) -/

/-- Subcarriers of the band. -/
def State.tysBand (s : State) (l : Nat) : Nat :=
  match s.fld (TYS_LINK_CFG l) 29 28 with | 0 => 3300 | 1 => 1650 | _ => 825

/-- The band's lowest subcarrier. -/
def bandLow (band : Nat) : Nat := 2048 - band / 2
/-- Bin of a subcarrier. -/
def tysBin (k : Nat) : Nat := (k + 4096 - 2048) % 4096
/-- Length of the preamble's sequence. -/
def preambleLen (band : Nat) : Nat := if band = 3300 then 823 else if band = 1650 then 409 else 199

/-- The preamble (R253): line `n` of the Zadoff–Chu sequence lies on the `n`-th fourth subcarrier, with the phase -π/N times
the number given, N the sequence's length. -/
def tysPreamble (band root : Nat) : List (Nat × Nat) :=
  let len := preambleLen band
  (List.range len).map fun n => (tysBin (bandLow band + 4 * n), root * (n * (n + 1)) % (2 * len))

/-- Bits of the header with its CRC-32C (R254). -/
def headerBits (w0 w1 w2 : Nat) : List Bool :=
  let crc := crc32c (toBytes 8 w0 ++ toBytes 8 w1 ++ toBytes 8 w2)
  (List.range 224).map fun j =>
    if j < 192 then bitOf ([w0, w1, w2].getD (j / 64) 0) (j % 64) else bitOf crc (j - 192)

/-- The header's bits on the band: bit j on each subcarrier whose offset is congruent to j modulo 224. -/
def tysHeader (band w0 w1 w2 : Nat) : List (Nat × Bool) :=
  let bits := headerBits w0 w1 w2
  (List.range band).map fun i => (tysBin (bandLow band + i), bits.getD (i % 224) false)

/-- Symbols 0 to 2 of frame `f`, handed to the Girt for the link's flow (R255). -/
def State.tysBuild (s : State) (l f adv w0 w1 w2 : Nat) : State :=
  let band := s.tysBand l
  s.emit (.tysSymbols (Fin.ofNat 4 l) (BitVec.ofNat 32 f) (s.fld (TYS_LINK_CFG l) 11 0) adv
    (tysPreamble band (s.fld (TYS_LINK_PRE l) 9 0)) ((List.range 64).map fun m => bitOf (s.wide TYS_SYNC_LO) m)
    (tysHeader band w0 w1 w2) (55 - max 1 (min 4 (s.fld (TYS_LINK_CFG l) 27 24))))

/-! ## Sending (R255, R260) -/

/-- Table slot in use toward a peer, after a pending switch. -/
def State.tysSwitch (s : State) (p : Nat) : State :=
  if s.flag (TYS_PEER_TXV p) 31 then
    (s.setFld (TYS_PEER_TXV p) 16 16 (1 - s.fld (TYS_PEER_TXV p) 16 16)).setFlag (TYS_PEER_TXV p) 31 false
  else s

/-- t_tx: the boundary time of the frame, less the advance, plus cal_tx (R265). One sample is 3125/1536 ns. -/
def State.tysTxTime (s : State) (l f adv : Nat) : Nat × State :=
  let t := s.tysStart l f + kTime 308
  let x : Int := t * 4 * 1536 - ((adv * 3125 * 4 * nsUnit : Nat) : Int)
  let (q, s) := s.openDiv x (1536 * (nsUnit : Int))
  (((q + sgn 16 (s.fld (TYS_LINK_CAL l) 31 16)) % (stampMod : Int)).toNat, s)

/-- The transmit record and the frame's header words. -/
def State.tysSend (s : State) (l f peer type dst adv : Nat) (version addr : Nat) : State :=
  let (tx, s) := s.tysTxTime l f adv
  let w0 := f % 256 * 2 ^ 32 + version % 256 * 2 ^ 24 + type * 2 ^ 20 + dst * 2 ^ 10 + s.fld RDG_NODE_ID 9 0
  let (echo, s) := match tget? s.tys.lastRx peer with
    | some (q, st) => if type = 1 then s.fresh else (q * 2 ^ 50 + st.toNat, s)
    | none => s.fresh
  let rec0 := f + version % 256 * 2 ^ 32 + peer * 2 ^ 40 + type * 2 ^ 48
  let s := s.put (s.agent .tys) (s.tysTxRec l f)
    (([rec0, addr % 2 ^ 48, w0, packStamp tx, echo % 2 ^ 58].map (toBytes 8)).flatten)
  let s := if type = 1 then s
    else { s with tys := { s.tys with lastTx := tput s.tys.lastTx peer (f % 256, BitVec.ofNat 50 (packStamp tx)) } }
  (s.tysBuild l f adv w0 (packStamp tx) (echo % 2 ^ 58)).emit (.txFrameStart (Fin.ofNat 4 l) (BitVec.ofNat 32 f))

/-- TYS_TX_BUILD (R255, R260): 400 µs before a TX frame's air start. -/
def execTysTxBuild (l : LinkNo) (f : BitVec 32) (s : State) : Host.Outcome State Fault Refusal :=
  .next (s.after (
    if !s.tysOn l.val 0 || s.tysKind l.val f.toNat != 1 then s
    else
      let t := s.untilTime (s.tysStart l.val f.toNat - 400000 * (nsUnit : Int))
      let p := t.tysPlanPeer l.val f.toNat
      let t := t.tysSwitch p
      let cur := t.fld (TYS_PEER_TXV p) 16 16
      let version := if cur = 0 then t.fld (TYS_PEER_TXV p) 7 0 else t.fld (TYS_PEER_TXV p) 15 8
      t.tysSend l.val f.toNat p 0 (t.fld (TYS_PEER_CFG p) 9 0) (t.fld (TYS_PEER_ADV p) 14 0) version
        (t.wide TYS_TAB_BASE_LO / 8192 * 8192 + 8192 * p + 2048 * cur)))

/-! ## Receiving (R256 to R258) -/

/-- A sync word meets R256. -/
def State.tysRecognises (s : State) (w : SyncWord) : Bool :=
  decide (w.signErrors.toNat ≤ s.fld TYS_SYNC_CFG 21 16 ∧ w.peakQ88.toNat ≥ s.fld TYS_SYNC_CFG 15 0)

/-- The boundary lies within ±16 × TYS_LINK_WIN samples of its expected position, one sample 3125/1536 ns (R256). -/
def State.tysInWindow (s : State) (l : Nat) (w : SyncWord) : Bool :=
  decide (w.offset.toInt.natAbs * 1536 ≤ 16 * s.fld (TYS_LINK_WIN l) 3 0 * 4 * 3125)

/-- TYS_SYNC_RECOGNISED (R256). -/
def execTysSyncRecognised (l : LinkNo) (f : BitVec 32) (w : SyncWord) (s : State) : Host.Outcome State Fault Refusal :=
  .next (s.after (
    if !s.tysOn l.val 0 || s.tysKind l.val f.toNat < 2 || !s.tysRecognises w || !s.tysInWindow l.val w ||
        (s.tysRx l.val).w.isSome then s
    else s.setTysRx l.val ⟨f, some w, false, none, 0, 0, false⟩))

/-- A register threshold in dB, clamped to 20, in quarter dB. -/
def captureStep (db : Nat) : Int := ((4 * min db 20 : Nat) : Int)

/-- Of two sync words recognised on the same sample the one that is received: the louder, then the one of the higher peak, then
either (R257). -/
def State.tysRank (s : State) (old new : SyncWord) : SyncWord × State :=
  let (f, t) := if new.rssi = old.rssi ∧ new.peakQ88 = old.peakQ88 then s.fresh else (0, s)
  let newWins := decide (new.rssi.toInt > old.rssi.toInt) ||
    (new.rssi == old.rssi && (decide (new.peakQ88.toNat > old.peakQ88.toNat) || (new.peakQ88 == old.peakQ88 && f % 2 == 1)))
  (if newWins then new else old, t)

/-- The sync word `new` is at least a register's threshold above `old`. -/
def louder (db : Nat) (old new : SyncWord) : Bool := decide (new.rssi.toInt - old.rssi.toInt ≥ captureStep db)

/-- TYS_CAPTURE (R257): a further sync word during frame f, the one received now. After the frame was abandoned for one
outside the window, nothing is left to abandon or to count as such. [log 73] -/
def execTysCapture (l : LinkNo) (f : BitVec 32) (w : SyncWord) (s : State) : Host.Outcome State Fault Refusal :=
  .next (s.after (
    let x := s.tysRx l.val
    match x.w with
    | none => s
    | some old =>
      if x.f ≠ f || !s.tysOn l.val 0 || !s.tysRecognises w then s
      else if w.sample = old.sample ∧ !x.abandoned then
        let (best, t) := s.tysRank old w
        (t.setTysRx l.val { x with w := some best }).bump TYS_COLL_CNT
      else if louder (s.fld TYS_CAPTURE_DB 4 0) old w then
        let t := if x.abandoned then s else (s.bump TYS_CAPT_CNT).raise tysPage 2
        if s.tysInWindow l.val w then
          let t := t.setTysRx l.val { x with w := some w, capt := true, header := none, hdrStatus := 0, abandoned := false }
          { t with tys := { t.tys with hdrDone := tdel t.tys.hdrDone l } }
        else (t.setTysRx l.val { x with abandoned := true }).bump TYS_OFFGRID_CNT
      else s.bump TYS_COLL_CNT))

/-- The peer of the link's table with a node ID (R258). -/
def State.tysPeer (s : State) (l node : Nat) : Option Nat :=
  (List.range 64).find? fun p =>
    s.flag (TYS_PEER_CFG p) 31 && s.fld (TYS_PEER_CFG p) 29 28 == l && s.fld (TYS_PEER_CFG p) 9 0 == node

/-- A receive slot of the peer holds the version (R261). -/
def State.tysHolds (s : State) (p version : Nat) : Bool :=
  let v := s.reg (TYS_PEER_RXV p)
  (bitOf v 16 && bitsOf v 7 0 == version) || (bitOf v 17 && bitsOf v 15 8 == version)

/-- Status of a header as received (R258). -/
def State.tysStatus (s : State) (l f : Nat) (words : List (BitVec 64)) (crc : Nat) : Nat :=
  let w0 := (words.getD 0 0).toNat
  let type := bitsOf w0 23 20
  let dst := bitsOf w0 19 10
  if crc32c (words.flatMap fun w => toBytes 8 w.toNat) ≠ crc ∨ type > 2 then 4
  else if type = 1 ∧ s.tysKind l f = 3 then 7
  else match s.tysPeer l (bitsOf w0 9 0) with
    | none => 2
    | some p =>
      if dst ≠ 0x3FF ∧ dst ≠ s.fld RDG_NODE_ID 9 0 then 6
      else if !s.tysHolds p (bitsOf w0 31 24) then 5
      else 1

/-- Rx stamp of a frame in quarter nanoseconds (R265). -/
def State.tysStamp (s : State) (l : Nat) (w : SyncWord) : Nat :=
  let q : Int := (((w.stampSec.toNat % 2 ^ 18 * 1000000000 + w.stampNs.toNat) * 4 + w.stampQuarter.toNat : Nat) : Int)
  ((q - sgn 16 (s.fld (TYS_LINK_CAL l) 15 0)) % (stampMod : Int)).toNat

/-- The receive record (R258). -/
def State.tysRecord (s : State) (l : Nat) (x : TysRx) (w : SyncWord) (final : Nat) : List Byte :=
  let h := x.header.getD (0, 0, 0)
  ([x.hdrStatus * 2 ^ 60 + final * 2 ^ 56 + bitNat x.capt * 2 ^ 48 + x.f.toNat, h.1.toNat, h.2.1.toNat, h.2.2.toNat,
    packStamp (s.tysStamp l w), w.rssi.toNat * 2 ^ 48 + w.signErrors.toNat % 64 * 2 ^ 32 + x.cfo.toNat,
    w.offset.toNat * 2 ^ 32 + w.sampleIndex.toNat, 0].map (toBytes 8)).flatten

/-- A carrier-frequency offset as TYS measures it, in units of 0.01 Hz: within ±240 kHz (R264). [log 73] -/
def measuredCfo (cfo : BitVec 32) : Int := max (-24000000) (min 24000000 cfo.toInt)

/-- TYS_PEER_FOFF: −CFO / f_RF averaged over the last frames, their offsets in units of 0.01 Hz (R264), and source TYSAR where the
peer is selected. Without a centre frequency the value is open. -/
def State.tysFreq (s : State) (l p : Nat) (cfo : Int) : State :=
  let avg := max 1 (min 64 (s.fld TYS_FREQ_CFG 5 0))
  let hist := (cfo :: tget s.tys.foff p []).take 64
  let s := { s with tys := { s.tys with foff := tput s.tys.foff p hist } }
  let used := hist.take avg
  let khz := s.reg (TYS_LINK_RF l)
  let (v, s) := if khz = 0 then let (f, s) := s.fresh; ((f : Int), s)
    else s.openDiv (-(used.foldl (· + ·) 0) * 10000000) (((used.length * khz : Nat)) : Int)
  let s := s.setReg (TYS_PEER_FOFF p) (wrap 32 v)
  let sel := s.reg TYS_FREQ_SEL
  if bitOf sel 16 ∧ bitsOf sel 9 8 = l ∧ bitsOf sel 5 0 = p then s.setReg (RDG_SRC_FOFF 3) (wrap 32 v) else s

/-- θ and δ of R266, where the frame echoes the last one sent to the peer. -/
def State.tysTheta (s : State) (p : Nat) (w1 w2 t2 : Nat) : State :=
  match tget? s.tys.lastTx p with
  | none => s
  | some (seq, t3) =>
    if seq ≠ bitsOf w2 57 50 then s
    else
      let a := stampDiff t2 (unpackStamp w1)
      let b := stampDiff (unpackStamp w2) (unpackStamp t3.toNat)
      let (th, s) := s.openDiv (a - b) 2
      let (de, s) := s.openDiv (a + b) 2
      let s := { s with tys := { s.tys with theta := addOnce s.tys.theta p } }
      ((s.setReg (TYS_PEER_THETA p) (wrap 32 th)).setReg (TYS_PEER_DELTA p) (wrap 32 de)).raise tysPage 4

def State.tysJoinState (s : State) : Nat := s.fld TYS_JOIN_STAT 2 0

/-- A join state change raises bit 3 (R263). -/
def State.setTysJoin (s : State) (v : Nat) : State :=
  if s.tysJoinState = v then s else (s.setFld TYS_JOIN_STAT 2 0 v).raise tysPage 3

/-- A frame comes within the two plan cycles that follow the JOIN frame sent (R263). -/
def State.joinTimely (s : State) (f : Nat) : Bool :=
  let d := (f + 2 ^ 30 - s.tys.joinAt % 2 ^ 30) % 2 ^ 30
  decide (1 ≤ d ∧ d ≤ 32)

/-- What an ACCEPTED frame does: counters, RSSI, version, stamps, frequency, time and joining. -/
def State.tysAccepted (s : State) (l p : Nat) (w : SyncWord) (w0 w1 w2 : Nat) (cfo : Int) : State :=
  let st := s.tysStamp l w
  let s := (s.bump TYS_ACCEPT_CNT).setReg (TYS_PEER_RSSI p) w.rssi.toNat
  let s := { s with tys := { s.tys with
    lastVer := tput s.tys.lastVer p (bitsOf w0 31 24)
    lastRx := tput s.tys.lastRx p (bitsOf w0 39 32, BitVec.ofNat 50 (packStamp st))
    acceptedAt := tput s.tys.acceptedAt p s.ridge.ticks } }
  let s := (s.tysFreq l p cfo).tysTheta p w1 w2 st
  if bitsOf w0 23 20 = 2 ∧ bitsOf w0 19 10 = s.fld RDG_NODE_ID 9 0 ∧ s.tysJoinState = 2 ∧ s.fld TYS_JOIN_CTL 17 16 = l ∧
      s.joinTimely (s.tysRx l).f.toNat then
    (s.setFld TYS_JOIN_STAT 25 16 (bitsOf w0 9 0)).setTysJoin 3
  else s

/-- The header status, and at a frame's end the final one too, of frame `f` are written: arrival events that wait for them are
raised (R259). -/
def State.tysWrote (s : State) (l : Fin 4) (f : Nat) (final : Bool) : State :=
  let f := f % 2 ^ 30
  State.releaseArrivals { s with tys := { s.tys with
    hdrDone := tput s.tys.hdrDone l f, finDone := if final then tput s.tys.finDone l f else s.tys.finDone } } l

/-- TYS_HEADER_CHECKED (R254, R258, R259, R261, R264 to R266). -/
def execTysHeaderChecked (l : LinkNo) (w0 w1 w2 : BitVec 64) (crc : BitVec 32) (cfo : BitVec 32) (s : State) :
    Host.Outcome State Fault Refusal :=
  .next (s.after (
    let x := s.tysRx l.val
    match x.w with
    | none => s
    | some w =>
      if !s.tysOn l.val 0 || x.abandoned || x.header.isSome then s
      else
        let st := s.tysStatus l.val x.f.toNat [w0, w1, w2] crc.toNat
        let (hz, t) := s.openDiv (measuredCfo cfo) 100
        let x := { x with header := some (w0, w1, w2), hdrStatus := st, cfo := BitVec.ofInt 32 hz }
        let t := t.setTysRx l.val x
        let src := bitsOf w0.toNat 9 0
        let t := match st with
          | 1 => match t.tysPeer l.val src with
            | some p => t.tysAccepted l.val p w w0.toNat w1.toNat w2.toNat (measuredCfo cfo)
            | none => t
          | 2 =>
            let k := bank src TYS_STR_CNT
            (t.setReg k (min 0xFFFF (t.reg k + 1))).raise tysPage 0
          | 4 => (t.bump TYS_HDR_ERR_CNT).raise tysPage 1
          | 5 => (t.bump TYS_VER_MISS_CNT).raise tysPage 5
          | 6 => t.bump TYS_NOT_MINE_CNT
          | _ => t
        (t.put (t.agent .tys) (t.tysRxRec l.val x.f.toNat) (t.tysRecord l.val x w 0)).tysWrote l x.f.toNat false))

/-- TYS_FRAME_END (R258): the final status. A position in which no sync word was recognised gets a record whose statuses are
NONE; its words 1 to 7 are not stated. [log 73] -/
def execTysFrameEnd (l : LinkNo) (s : State) : Host.Outcome State Fault Refusal :=
  .next (s.after (
    if !s.tysOn l.val 0 then s
    else
      let x := s.tysRx l.val
      match x.w with
      | none =>
        let f := s.tysFrame l.val
        if s.tysKind l.val f < 2 then s
        else
          let t := { s with free := s.free + 1 }.put (s.agent .tys) (s.tysRxRec l.val f)
            (toBytes 8 f ++ (List.range 56).map (Config.freeByte s.free))
          t.tysWrote l f true
      | some w =>
        let t := s.put (s.agent .tys) (s.tysRxRec l.val x.f.toNat)
          (s.tysRecord l.val x w (if x.abandoned then 3 else x.hdrStatus))
        (t.setTysRx l.val ⟨x.f, none, false, none, 0, 0, false⟩).tysWrote l x.f.toNat true))

/-! ## Joining (R263) -/

/-- r is drawn uniformly from 0 to 2^min(n, 6) − 1: a free value. Positions count from the present frame on. [log 73] -/
def State.tysDraw (s : State) : State :=
  let n := s.fld TYS_JOIN_STAT 15 8
  let (f, s) := s.fresh
  { s with tys := { s.tys with joinLeft := f % 2 ^ min n 6, joinFrom := s.tysFrame (s.fld TYS_JOIN_CTL 17 16) } }

/-- The frame of the CONTENTION position that comes next once `r` of them after frame `f` have passed. -/
def State.contention (s : State) (l f r : Nat) : Option Nat :=
  let at' := (List.range 16).filter fun o => s.tysKind l (f + 1 + o) == 3
  if at'.isEmpty then none else some ((f + 1 + 16 * (r / at'.length) + at'.getD (r % at'.length) 0) % 2 ^ 30)

/-- The frame in which the JOIN goes out: a position that has gone by unused is followed by the next one. [log 73] -/
def State.joinFrame (s : State) (l : Nat) : Option Nat :=
  (s.contention l s.tys.joinFrom s.tys.joinLeft).bind fun f =>
    if s.tysStart l f ≤ s.now then s.contention l (s.tysFrame l) 0 else some f

/-- A write of 1 to TYS_JOIN_CTL.start. -/
def State.tysJoin (s : State) : State := ((s.setFld TYS_JOIN_STAT 15 8 0).tysDraw).setTysJoin 1

/-- A write of 1 to TYS_JOIN_CTL.abort. -/
def State.tysJoinStop (s : State) : State := { s.setTysJoin 0 with tys := { (s.setTysJoin 0).tys with joinLeft := 0 } }

/-- TYS_JOIN_SEND (R263): r CONTENTION positions have passed, and the JOIN frame goes out in the next one, its record written
400 µs before (R255). Its version, peer and table address are not stated. [log 73] -/
def execTysJoinSend (s : State) : Host.Outcome State Fault Refusal :=
  .next (s.after (
    let l := s.fld TYS_JOIN_CTL 17 16
    if s.tysJoinState ≠ 1 ∨ !s.tysOn l 0 then s
    else match s.joinFrame l with
      | none => s
      | some f =>
        let t := s.untilTime (s.tysStart l f - 400000 * (nsUnit : Int))
        let (a, t) := t.fresh
        let (b, t) := t.fresh
        let t := { t with tys := { t.tys with joinLeft := 0, joinAt := f } }
        ((t.tysSend l f (a % 64) 1 0x3FF 0 (a / 64 % 256) b).emit (.joinFrame (Fin.ofNat 4 l) (BitVec.ofNat 32 f))).setTysJoin 2))

/-- TYS_JOIN_TIMEOUT: no JOIN_ACCEPT came within two plan cycles. -/
def execTysJoinTimeout (s : State) : Host.Outcome State Fault Refusal :=
  .next (s.after (
    if s.tysJoinState ≠ 2 then s
    else
      let n := (s.fld TYS_JOIN_STAT 15 8 + 1) % 256
      let t := (s.untilTime (s.tysStart (s.fld TYS_JOIN_CTL 17 16) (s.tys.joinAt + 33))).setFld TYS_JOIN_STAT 15 8 n
      if n ≥ s.fld TYS_JOIN_CTL 7 0 then t.setTysJoin 4 else t.tysDraw.setTysJoin 1))

/-! ## NR sync detection (R267) -/

/-- Samples of a PSS symbol with its cyclic prefix, at 491.52 MS/s. -/
def State.pssSamples (s : State) (l : Nat) : Nat := 16 * (s.shape (s.tysCarrier l)).len

/-- Two detections overlap: their PSS symbols do. [log 73] -/
def State.nrsOverlap (s : State) (l : Nat) (old new : SyncWord) : Bool :=
  decide ((new.sample - old.sample).toInt.natAbs < s.pssSamples l)

/-- A detection is taken: its record is written, and further ones are held against it. -/
def State.nrsTake (s : State) (l : Nat) (f : BitVec 32) (nId2 : BitVec 2) (w : SyncWord) (capt : Bool) (cfo : BitVec 32) : State :=
  let (hz, s) := s.openDiv (measuredCfo cfo) 100
  let bytes := (([nId2.toNat + bitNat capt * 2 ^ 48, 0, 0, 0, packStamp (s.tysStamp l w),
    w.rssi.toNat * 2 ^ 48 + w.signErrors.toNat % 64 * 2 ^ 32 + wrap 32 hz, w.offset.toNat * 2 ^ 32 + w.sampleIndex.toNat, 0].map
    (toBytes 8)).flatten)
  (s.put (s.agent .tys) (s.tysRxRec l f.toNat) bytes).setTysRx l ⟨f, some w, capt, none, 0, BitVec.ofInt 32 hz, false⟩

/-- TYS_NRS_DETECT (R267): a PSS detection writes a record; one that overlaps the last follows R257 with TYS_NRS_CAPTURE_DB. [log 73] -/
def execTysNrsDetect (l : LinkNo) (f : BitVec 32) (nId2 : BitVec 2) (w : SyncWord) (cfo : BitVec 32) (s : State) :
    Host.Outcome State Fault Refusal :=
  .next (s.after (
    let x := s.tysRx l.val
    let take (t : State) (f : BitVec 32) (capt : Bool) : State := t.nrsTake l.val f nId2 w capt cfo
    if !s.tysOn l.val 1 then s
    else match x.w with
      | none => if s.tysInWindow l.val w then take s f false else s
      | some old =>
        if !s.nrsOverlap l.val old w then (if s.tysInWindow l.val w then take s f false else s)
        else if w.sample = old.sample ∧ !x.abandoned then
          let (best, t) := s.tysRank old w
          (if best = w then take t x.f x.capt else t).bump TYS_COLL_CNT
        else if louder (s.fld TYS_NRS_CAPTURE_DB 4 0) old w then
          let t := if x.abandoned then s else (s.bump TYS_CAPT_CNT).raise tysPage 2
          if s.tysInWindow l.val w then take t x.f true
          else (t.setTysRx l.val { x with abandoned := true }).bump TYS_OFFGRID_CNT
        else s.bump TYS_COLL_CNT))

end Sys2Proof.Machine
end

