-- ==== Sys2Proof/Machine/Islands.lean ====
section
/-! DEFINITION. Islands and their crossings (R396 to R401), island resets (R404, R406, R408), Bent moves and engine grants
(R390), Bay resets (R391), spares (R453, R454), and the Purlin's routers (R402, R403). -/

namespace Sys2Proof.Machine

abbrev xngPage : Nat := 3
abbrev purPage : Nat := 0x3C0

/-! ## Islands -/

/-- Islands that the Island class reaches alone (R396, R404). -/
def islandAlone (i : Nat) : Bool := decide (8 ≤ i ∧ i ≤ 82) || decide (96 ≤ i ∧ i ≤ 115)
def islandUsed (i : Nat) : Bool := decide (i ≤ 5) || islandAlone i

/-- Pages of an island that resets alone. -/
def islandPages (i : Nat) : List Nat :=
  if i < 8 then []
  else if i < 16 then (0x40 + (i - 8)) :: (List.range 9).map (0x80 + 9 * (i - 8) + ·)
  else if i < 83 then [0x100 + (i - 16)]
  else if i < 96 then []
  else if i < 108 then (List.range 4).map (0x280 + 4 * (i - 96) + ·)
  else if i < 116 then [0x2C0 + (i - 108)]
  else []

/-- An island as its crossings and power show it. -/
def State.setCrossing (s : State) (i : Nat) (c : Crossing) (power : Nat) : State :=
  s.setIsland i { s.island i with crossing := c, power := power }

def State.inQuarMap (s : State) (i : Nat) : Bool := s.flag (XNG_QUAR_MAP (i / 32)) (i % 32)

/-- QUARANTINE (R401): the live side answers what was outstanding with an error. An island that lost its power is off (R20);
one that lost its reset alone keeps the power state it had. -/
def State.quarantine (s : State) (i cause : Nat) : State :=
  if !islandUsed i || s.inQuarMap i then s
  else
    let x := s.island i
    let s := s.setIsland i { x with
      crossing := .quarantine, qcause := cause, target := none, next := none, power := if cause = 1 then 3 else x.power }
    let s := { s with hostReqs := if i = 3 then [] else s.hostReqs }
    ((s.setFlag (XNG_QUAR_MAP (i / 32)) (i % 32) true).bump XNG_QUAR_CNT).raise xngPage 0

/-! ## Bents and engines go down -/

def State.coreFailed (s : State) (c : Nat) : Bool := bitOf (s.fld (BNT_STAT (c / 9)) 24 16) (c % 9)
/-- Core 8 of a Bent is its spare: it is started in a failed core's place alone (R454). -/
def State.coreServes (s : State) (c : Nat) : Bool :=
  !s.coreFailed c && (decide (c % 9 < 8) || s.fld (BNT_STAT (c / 9)) 31 28 != 15)

def bentCores (b : Nat) : List Nat := (List.range 9).map (9 * b + ·)
/-- Memories of a Bent, by number. -/
def bentMems (b : Nat) : List Nat := (bentCores b).map (128 + ·) ++ (bentCores b).map (256 + ·)

/-- A consumer is lost to a reset: its task reruns or ends, its tag is forgotten (R101, R103). -/
def State.consumerDown (s : State) (c : Nat) : State :=
  let s := s.consumerLost c
  { s with truss := { s.truss with lastTag := tdel s.truss.lastTag c, asking := s.truss.asking.filter (· != c) } }

/-- A Bent's cores stop, their tasks end or rerun, their AIR channels are purged, and their memories are lost (R103, R240,
R408). -/
def State.bentDown (s : State) (b : Nat) : State :=
  let s := each (bentCores b) (fun c s =>
    let st := if s.coreFailed c then 5 else 0
    (((s.airPurge c).consumerDown c).coreOff c).setCoreSt c st) s
  let s := (s.ungateLap (2 + b)).restartLap (2 + b)
  s.wipedInputs ((bentCores b).map fun c => (dataBase + 0x80000 * c, 0x80000)) 2 5

/-- An engine gives up its task (R169); its report, if one is owed, is lost with it. -/
def State.engineDown (s : State) (e : Nat) : State :=
  let held := (s.eng e).task.isSome
  let s := (s.consumerDown (128 + e)).setEng e { s.eng e with task := none, report := none }
  let s := if held then (s.bump (MRT_ABANDON_CNT e)).raise (engPage e) 4 else s
  s.setEngSt e 0

/-! ## Island resets (R404, R406, R408) -/

/-- A Bay reset in progress covers the island. -/
def State.bayCovers (s : State) (i : Nat) : Bool :=
  decide (8 ≤ i ∧ i < 16) && s.bayResets.contains (s.owner (0x40 + (i - 8)))

/-- An island reset begins: both sides are held in reset. -/
def State.islandDown (s : State) (i : Nat) : State :=
  let x := s.island i
  let s := s.setIsland i { x with crossing := .resetting, held := false, target := none, next := none }
  let s := { s with islandResets := addOnce s.islandResets i }
  if i < 16 then
    let s := s.bentDown (i - 8)
    each (bentMems (i - 8)) (fun m s => s.wipeMem m) s
  else if i < 83 then s.engineDown (i - 16)
  else if i < 108 then s.pllReset (i - 96)
  else s.pllReset (12 + (i - 108))

/-- A request of R404: ignored, with code 0x0001, for an island that is OFF, that no class reaches alone, or that does not
exist. [log 100] -/
def State.islandRequest (s : State) (i : Nat) : State :=
  if !islandAlone i || (s.island i).crossing == .off then s.capture xngPage 0 0x0001 i
  else if (s.island i).crossing == .resetting || s.bayCovers i || s.flag TRS_STAT 0 then s
  else s.islandDown i

/-- The island runs again: ON, its quarantine ended. -/
def State.islandRelease (s : State) (i : Nat) : State :=
  let quar := s.inQuarMap i
  let s := s.setIsland i { Island.cold with pll := true }
  let s := { s with islandResets := s.islandResets.filter (· != i) }
  let s := if i < 16 then each (bentMems (i - 8)) (fun m s => s.endWipe m) s else s
  let s := if i = gauIsland then s.gauRestart else s
  if quar then (s.setFlag (XNG_QUAR_MAP (i / 32)) (i % 32) false).raise xngPage 1 else s

/-- The island reset completes (R401, R406, R36). [log 121] -/
def State.islandResetEnds (s : State) (i : Nat) : State :=
  if !s.islandResets.contains i then s
  else
    let pages := islandPages i
    let states := if i < 16 then (bentCores (i - 8)).map fun c => (c, s.coreSt c) else []
    let s := s.warmPages fun p => pages.contains p
    let s := each states (fun e s => s.setCoreSt e.1 e.2) s
    let s := each (if 96 ≤ i then pages else []) (fun p s =>
      let l := if p < 0x2C0 then p - 0x280 else 48 + (p - 0x2C0)
      s.setFld (laneStat l) 31 28 0) s
    ((s.scribeReset pages 2).islandRelease i).raise xngPage 2

/-! ## Spares (R453, R454) -/

/-- The engine that answers to index `i` of class `c` (R171). -/
def State.engineAt (s : State) (c i : Nat) : Nat :=
  let es := (List.range (engineCounts.getD c 0)).map (classBase c + ·)
  (es.find? fun e => s.fld (MRT_STAT e) 23 16 == i && !(s.eng e).fenced).getD (classBase c + i)

/-- The spare of an engine's class. -/
def spareOf (e : Nat) : Nat := classBase (engineClass e).1 + engineCounts.getD (engineClass e).1 0 - 1

def engineCounters : List Nat := [0x108, 0x10C, 0x110, 0x114, 0x118, 0x11C, 0x120, 0x400, 0x404, 0x408, 0x40C]

/-- The counters of an engine's page return to their Cold values. -/
def State.coldCounters (s : State) (e : Nat) : State :=
  each engineCounters (fun off s => match findRow (engineKind (engineClass e).1) off with
    | some r => if r.fields.any fun f => f.acc == .rc then s.setReg (hdr (engPage e) off) 0 else s
    | none => s) s

/-- The failed engine's island is powered off into QUARANTINE, and the class's held spare takes its index and its page's
owner and vector; whether one stood in. -/
def State.engineSwap (s : State) (e : Nat) : Bool × State :=
  let s := (s.setEng e { s.eng e with fenced := true }).quarantine (16 + e) 2
  let s := s.setIsland (16 + e) { s.island (16 + e) with power := 3 }
  let sp := spareOf e
  if sp = e || !s.engHeld sp || !s.islandUp (16 + sp) || (s.eng sp).fenced then (false, s)
  else
    let s := s.setFld (MRT_STAT sp) 23 16 (s.fld (MRT_STAT e) 23 16)
    let s := ((s.setFld (hdr (engPage sp) 0x28) 23 16 (s.fld (hdr (engPage e) 0x28) 23 16)).changeOwner (engPage sp)
      (s.owner (engPage e))).coldCounters sp
    (true, s.raise (engPage sp) 5)

/-- Core `c` of a Bent is declared failed: halted, its memory fenced; core 8 takes its place where it is free, with the
failed core's boot registers as firmware writes them (R454). -/
def State.coreSwap (s : State) (c : Nat) : Bool × State :=
  let b := c / 9
  let s := (s.consumerDown c).airPurge c
  let s := { s with truss := { s.truss with drained := addOnce s.truss.drained c } }
  let s := ((s.dropSubmission c).setCore c { s.core c with pkt := [], sleep := .no, held := [], heldLen := 0 }).setCoreSt c 5
  let s := (s.setFlag (BNT_STAT b) (16 + c % 9) true).raise (0x40 + b) 0
  if c % 9 = 8 ∨ s.fld (BNT_STAT b) 31 28 ≠ 15 ∨ s.coreFailed (9 * b + 8) then (false, s)
  else
    let k := 9 * b + 8
    let s := (s.setFld (BNT_STAT b) 31 28 (c % 9)).fwWide (RFT_BOOT_LO k) (s.wide (RFT_BOOT_LO c))
    let s := (s.fwWrite (RFT_BOOT_LEN k) (s.reg (RFT_BOOT_LEN c))).fwWrite (RFT_BOOT_ENT k) (s.reg (RFT_BOOT_ENT c))
    let s := (s.fwWrite (RFT_RUN k) (putBits (s.reg (RFT_RUN k)) 0 0 (s.fld (RFT_RUN c) 0 0))).coreStart k
    (true, s.raise (0x40 + b) 1)

/-! ## Bent moves and grants (R390) -/

/-- The Bay whose mask holds a Bent: Bay 0 where none does (R31). [log 18, 99] -/
def State.bentBay (s : State) (n : Nat) : Nat :=
  ((List.range 8).find? fun b => bitOf (s.reg (BAY_BENTS 0 b)) n).getD 0

/-- A write of BAY_BENTS[b] that R390 refuses. -/
def State.bentsRefused (s : State) (b v : Nat) : Bool :=
  s.bayResets.contains b || (List.range 8).any fun x => x != b && Nat.land (s.reg (BAY_BENTS 0 x)) (v % 256) != 0

/-- Bents whose Bay a write has changed start their move: cores drained with force, island reset. -/
def State.bentsWritten (s : State) : State :=
  each (List.range 8) (fun n s =>
    let b := s.bentBay n
    let others := s.bentMoves.filter fun m => m.1 != n
    if s.bentMoves.any fun m => m.1 == n then { s with bentMoves := others ++ [(n, b)] }
    else if s.owner (0x40 + n) = b then s
    else
      let s := { s with bentMoves := others ++ [(n, b)] }
      if (s.island (8 + n)).crossing == .resetting then s else s.islandDown (8 + n)) s

/-- The Bay shows a Bent move in progress: it loses the Bent or gains it. -/
def State.bayMoving (s : State) (b : Nat) : Bool := s.bentMoves.any fun m => m.2 == b || s.owner (0x40 + m.1) == b

/-- A Bent move completes (R31, R390): the block registers of its pages are Cold, and the pages move. [log 121] -/
def State.bentMoved (s : State) (n : Nat) : State :=
  match s.bentMoves.find? fun m => m.1 == n with
  | none => s
  | some m =>
    let pages := islandPages (8 + n)
    let keep := s.reg (BNT_STAT n)
    let states := (bentCores n).map fun c => (c, s.coreSt c)
    let s := each pages (fun p s => s.coldPage p) s
    let s := s.setReg (BNT_STAT n) (putBits (putBits (s.reg (BNT_STAT n)) 31 28 (bitsOf keep 31 28)) 24 16 (bitsOf keep 24 16))
    let s := each states (fun e s => s.setCoreSt e.1 e.2) s
    let s := { s with bentMoves := s.bentMoves.filter fun x => x.1 != n }
    let s := each pages (fun p s => s.changeOwner p m.2) s
    let s := ((s.scribeReset pages 2).islandRelease (8 + n)).raise xngPage 2
    s.raise (0x360 + m.2) 1

/-- A write of BAY_ENG[b][c] that R390 refuses: during a reset of the Bay, or a bit set for an engine whose page lies with
another Bay than 0 and `b`. -/
def State.engRefused (s : State) (b c v : Nat) : Bool :=
  s.bayResets.contains b || (List.range 16).any fun i =>
    decide (i < engineCounts.getD c 0) && bitOf v i && !bitOf (s.reg (BAY_ENG 0 b c)) i &&
      (s.owner (engPage (s.engineAt c i)) != 0 && s.owner (engPage (s.engineAt c i)) != b)

/-- A write of an engine page's PG_OWNER by Bay 0 that R390 refuses. -/
def State.engPageRefused (s : State) (e nb : Nat) : Bool :=
  let c := (engineClass e).1
  let i := s.fld (MRT_STAT e) 23 16
  nb != 0 && nb != s.owner (engPage e) &&
    (!bitOf (s.reg (BAY_ENG 0 nb c)) i || (List.range 8).any fun b => b != nb && bitOf (s.reg (BAY_ENG 0 b c)) i)

/-! ## Bay resets (R391) -/

/-- Pages that a Bay reset resets: those the Bay owns, and of Bay 0 only those that Bays may own. -/
def State.bayPages (s : State) (b : Nat) : List Nat :=
  ((List.range 0x3C1) ++ (List.range 1024).map (0x1000 + ·)).filter fun p => match pageInfo p with
    | some i => s.owner p == b && (b != 0 || i.ownable)
    | none => false

def State.bayBents (s : State) (b : Nat) : List Nat := (List.range 8).filter fun n => s.owner (0x40 + n) == b

/-- A task of the Bay held by an engine is abandoned and reruns or ends (R103, R391). -/
def State.abandonBay (s : State) (b : Nat) : State :=
  each (List.range 67) (fun e s => match tget? s.truss.holding (128 + e) with
    | some idx => match s.taskAt idx with
      | some (f, _, _) => if f.bay = b then (s.takeAway (128 + e) .drain).rerun idx else s
      | none => s
    | none => s) s

/-- A Bay reset starts; one in progress makes the request void. -/
def State.bayResetStarts (s : State) (p : WinPort) (b : Nat) : State :=
  if s.bayResets.contains b || s.flag TRS_STAT 0 then s
  else
    let s := ({ s with bayResets := s.bayResets ++ [b] }).setFlag (BAY_STAT b) 31 true
    let bents := s.bayBents b
    let s := each bents (fun n s => if (s.island (8 + n)).crossing == .off then s else s.islandDown (8 + n)) s
    let s := s.abandonBay b
    let s := each ((List.range 64).filter fun c => s.owner (skidPage c) == b) (fun c s => s.skidReset p c) s
    let s := each (bents.flatMap bentCores) (fun c s => (s.airPurge c).setFlag (bank c (AIR_CH_CTL 0)) 31 false) s
    let ranges := s.windowRanges b
    let s := each ranges (fun r s => s.beginWipe r.1 r.2) s
    (s.emptyCaches ranges).wipedInputs ranges 2 5

/-- A Bay reset completes, the restart of its cores included. [log 121] -/
def State.bayResetEnds (s : State) (b : Nat) : State :=
  if !s.bayResets.contains b then s
  else
    let pages := s.bayPages b
    let bents := (s.bayBents b).filter fun n => s.islandResets.contains (8 + n)
    let states := (bents.flatMap bentCores).map fun c => (c, s.coreSt c)
    let s := s.warmPages fun p => pages.contains p
    let s := each pages (fun p s => s.setFlag (hdr p 0x08) 31 false) s
    let s := each states (fun e s => s.setCoreSt e.1 e.2) s
    let s := each ((s.windowRanges b).map fun r => memAt r.1) (fun m s => s.endWipe m) s
    let s := each bents (fun n s => if s.bentMoves.any fun m => m.1 == n then s else s.islandRelease (8 + n)) s
    let s := { s with bayResets := s.bayResets.filter (· != b) }
    let s := ((s.scribeReset pages 3).setFlag (BAY_STAT b) 31 false).raise (0x360 + b) 0
    each (bents.flatMap bentCores) (fun c s => if s.coreServes c then s.coreStart c else s) s

/-! ## Commands -/

/-- QUARANTINE_ENTRY (R401, R452): causes 1 and 3 declare the island's unit failed. A Bent's cores are each logged. -/
def execQuarantineEntry (isl : IslandNo) (qcause : BitVec 2) (s : State) : Host.Outcome State Fault Refusal :=
  .next (s.after (
    let i := isl.toNat
    if !islandUsed i || s.inQuarMap i || qcause = 0 then s
    else
      let t := s.quarantine i qcause.toNat
      if qcause = 2 then t
      else if 8 ≤ i ∧ i < 16 then
        let t := each (bentCores (i - 8)) (fun c t => t.consumerDown c) t
        each (bentCores (i - 8)) (fun c t => t.declare 1 c 4 2) t
      else if 16 ≤ i ∧ i < 83 then
        let e := i - 16
        let t := t.consumerDown (128 + e)
        let t := (t.setEng e { t.eng e with task := none, report := none }).setEngSt e 5
        let (ok, t) := t.engineSwap e
        t.declare 2 e 4 (if ok then 1 else 2)
      else if 96 ≤ i ∧ i < 108 then t.declare 8 (i - 96) 4 2
      else if 108 ≤ i then t.declare 9 (i - 108) 4 2
      else t.declare 11 i 4 2))

/-- ISLAND_RESET_DONE (R401, R406). -/
def execIslandResetDone (isl : IslandNo) (s : State) : Host.Outcome State Fault Refusal :=
  .next (s.after (s.islandResetEnds isl.toNat))

/-- CROSSING_HOLD (R397): the hold ends as the handshakes go on, on the next idle tick. [log 100] -/
def execCrossingHold (isl : IslandNo) (s : State) : Host.Outcome State Fault Refusal :=
  .next (s.after (
    let i := isl.toNat
    if !islandUsed i || (s.island i).held || !s.islandUp i then s
    else ((s.setIsland i { s.island i with held := true }).bump XNG_HOLD_CNT).raise xngPage 3))

/-- BENT_MOVE_DONE (R390). -/
def execBentMoveDone (b : BentNo) (s : State) : Host.Outcome State Fault Refusal := .next (s.after (s.bentMoved b.val))

/-- BAY_RESET_DONE (R391). -/
def execBayResetDone (b : BayNo) (s : State) : Host.Outcome State Fault Refusal := .next (s.after (s.bayResetEnds b.val))

/-- ROUTER_DOWN (R402, R452): firmware marks the router and begins to reroute. -/
def execRouterDown (n : RouterNo) (s : State) : Host.Outcome State Fault Refusal :=
  .next (s.after (
    if s.flag (PUR_RTR_STAT n.val) 31 then s
    else
      let t := (s.setFlag (PUR_RTR_STAT n.val) 31 true).setFlag (if n.val < 32 then PUR_DOWN_LO else PUR_DOWN_HI) (n.val % 32) true
      ((t.setFlag PUR_STAT 31 true).raise purPage 0).declare 7 n.val 8 3))

/-- REROUTE_COMPLETE (R402). -/
def execRerouteComplete (s : State) : Host.Outcome State Fault Refusal :=
  .next (s.after (
    if !s.flag PUR_STAT 31 then s
    else ((s.setFlag PUR_STAT 31 false).bump PUR_REROUTE_CNT).raise purPage 1))

/-- PURLIN_TIMEOUT (R403): a request to a host window is the link's, and never times out here. -/
def execPurlinTimeout (_r : Requester) (router : RouterNo) (hostTarget : Bool) (s : State) : Host.Outcome State Fault Refusal :=
  .next (s.after (
    if hostTarget || (s.flag (PUR_RTR_STAT router.val) 31 && !s.flag PUR_STAT 31) then s
    else ((s.bump PUR_TIMEOUT_CNT).raise purPage 2).say .busError))

/-- PLL_PARTNER_TAKEOVER (R457): of the Plate, Mortise core, Girt or DRAM controller island. -/
def execPllPartnerTakeover (isl : IslandNo) (s : State) : Host.Outcome State Fault Refusal :=
  .next (s.after (
    let i := isl.toNat
    if i = 0 ∨ i = 2 ∨ i = 3 ∨ i = 4 then
      (s.setIsland i { s.island i with pll := false }).logFault 11 i 5 6 |>.degrade 11
    else s))

/-- SPARE_STAND_IN (R453, R456): an engine that is FAULTED is swapped out. -/
def execSpareStandIn (e : EngineNo) (s : State) : Host.Outcome State Fault Refusal :=
  .next (s.after (
    if s.engSt e.val ≠ 5 ∨ (s.eng e.val).fenced then s
    else
      let (ok, t) := s.engineSwap e.val
      t.declare 2 e.val 1 (if ok then 1 else 2)))

/-- CORE_SPARE_START (R454, R456): the cause is the core's FAILING memory, its PROG_ECC exceptions, or its datapath check. A
core whose memory is FAILING is drained first, and its task ends normally. -/
def execCoreSpareStart (c : CoreNo) (s : State) : Host.Outcome State Fault Refusal :=
  .next (s.after (
    if s.coreFailed c.val then s
    else
      let recent := ((s.core c.val).progEcc.filter fun t => decide (s.ridge.ticks < t + 1000000000)).length
      let cause := if s.loft.failing.contains (128 + c.val) then 3 else if recent ≥ 3 then 2 else 1
      if cause = 3 ∧ (tget? s.truss.holding c.val).isSome then
        { s with truss := { s.truss with drained := addOnce s.truss.drained c.val } }
      else
      let (ok, t) := s.coreSwap c.val
      t.declare 1 c.val cause (if ok then 1 else 2)))

end Sys2Proof.Machine
end

