-- ==== Sys2Proof/Machine/LifeCycle.lean ====
section
/-! DEFINITION. Cold and warm resets (R404, R405, R408), boot (R409 to R413, R462) and the life cycle (R414 to R417). -/

namespace Sys2Proof.Machine

abbrev lcsPage : Nat := 1

/-! ## The Scribe's ring (R35) -/

def State.scribeFlush (s : State) : State := each s.hub.fifo (fun _ s => s.scribeStep) s

/-! ## Cold state (R405) -/

/-- Words that fuses and the board fix. -/
def fuseWords : List Nat := [HST_BIF 0, LCS_SVN, LCS_DEVID_LO, LCS_DEVID_HI, DRC_SIZE]

/-- Every register at its Cold value and all memory wiped; fuses, flash, board and pin levels stay. -/
def State.coldState (s : State) (cause : Nat) : State :=
  let t : State := { State.reset with
    regs := s.regs.filter fun e => fuseWords.contains e.1
    wr := .wipe 0 (2 ^ 48) :: s.wr
    free := s.free
    out := s.out
    answer := s.answer
    power := { State.reset.power with pinLevel := s.power.pinLevel }
    dram := { State.reset.dram with ranks := s.dram.ranks }
    faults := ⟨[], s.faults.failed⟩
    life := { s.life with inTransition := false, awaitHost := false, booted := false, inReset := true }
    pins := s.pins }
  let t := t.setFlag PWR_PROF_STAT 30 (s.flag PWR_PROF_STAT 30)
  let t := t.setFlag DRC_CFG 31 (s.flag DRC_CFG 31)
  let t := each (List.range 4) (fun h t => t.setFlag (HST_LINK_STAT h) 31 (s.flag (HST_LINK_STAT h) 31)) t
  t.setReg XNG_RESET_CAUSE cause

/-! ## Boot -/

/-- A measurement is extended (R412). [log 102] -/
def State.extend (s : State) (m : Nat) (digest : List Word) : State :=
  let old := (List.range 12).map fun w => BitVec.ofNat 32 (s.reg (LCS_MEAS m w))
  let new := Config.sha384 old digest
  each (List.range 12) (fun w s => s.setReg (LCS_MEAS m w) (new.getD w 0).toNat) s

/-- SHA-384 digest of an image of the board: a constant that the spec does not give. -/
abbrev uDigest : Nat := 80
abbrev uImage : Nat := 81
abbrev uAuth : Nat := 82
/-- Calibration fields of the board data. -/
abbrev uCalibration : Nat := 83
/-- [log 6, 102] -/
def boardDigest (k : Nat) : List Word := (List.range 12).map fun w => BitVec.ofNat 32 (Config.unit uDigest [k, w])

/-- The epoch record: the higher copy plus one is written to the lower (R413). -/
def State.nextEpoch (s : State) : State :=
  let l := s.life
  let e := max l.epochA.toNat l.epochB.toNat + 1
  if l.epochA.toNat ≤ l.epochB.toNat then { s with life := { l with epochA := BitVec.ofNat 32 e } }
  else { s with life := { l with epochB := BitVec.ofNat 32 e } }

/-- The boot ends without running firmware: the HOST[0] link comes up once PERST_N is released (R411). [log 103] -/
def State.bootFails (s : State) (code : Nat) : State :=
  let s := s.setReg LCS_BOOT_STAT code
  let s := { s with life := { s.life with awaitHost := false, booted := false, inReset := false } }
  if s.flag (HST_LINK_STAT 0) 31 then s else s.hostUp 0 6 (s.hostLink 0).2

/-- The boot ROM awaits an image of HOST[0] (R410). [log 103] -/
def State.bootAwaits (s : State) : State :=
  let s := { s with life := { s.life with awaitHost := true, inReset := false } }
  if s.flag (HST_LINK_STAT 0) 31 then s else s.hostUp 0 6 (s.hostLink 0).2

/-- The Shim tables are rebuilt from the fuses and the self-test (R282). -/
def State.rebuildShims (s : State) : State :=
  (each s.life.faulty (fun e s =>
    let s := { s with loft := { s.loft with shims := tput s.loft.shims e.1 (e.2.take (spares e.1)) } }
    if e.2.length ≤ spares e.1 then s
    else
      let s := s.memFailing e.1
      (if e.1 < 60 then s.setFlag (LFT_BANK_STAT e.1) 20 true else s).raise 0x190 2) s).setFlag SHM_STAT 31 true

/-- DRAM is trained (R310): half `h` has a working channel. -/
def State.halfWorks (s : State) (h : Nat) : Bool :=
  (List.range 8).any fun c => !bitOf s.life.trainFail (8 * h + c)

/-- The firmware windows and the Ledger mirrors in them, written by firmware, and the channels that failed training (R299, R310). [log 118] -/
def State.placeLedger (s : State) : State :=
  let win (w base : Nat) (s : State) : State := (s.fwWrite (DRC_WIN_SIZE w) 128).fwWrite (DRC_WIN w) (0xE0000000 + base)
  let s := win 31 (s.dramU / 2 / 0x1000000) (win 30 0 s)
  let s := (s.fwWide LDG_M0_LO dramBase).fwWide LDG_M1_LO (dramBase + s.dramU / 2)
  let s := s.setFld LDG_STAT 1 0 3
  let s := (each (List.range 16) (fun c s => s.setFld (DRC_CH_STAT c) 2 0 2) s).setFlag DRC_STAT 31 true
  each ((List.range 16).filter (bitOf s.life.trainFail)) (fun c s => s.channelFail c 6) s

/-- The units of R462 are spared out before any queue is enabled. DRAM channels and PLLs are tested again instead. -/
def State.spareListed (s : State) : State :=
  let s := { s with faults := { s.faults with failed := s.faults.failed.filter fun u => u.1 != 6 && u.1 != 8 && u.1 != 9 } }
  let s := each s.life.bistFail (fun u s => if s.isListed u.1 u.2 then s else s.declare u.1 u.2 1 5) s
  each s.faults.failed (fun u s =>
    let s := s.degrade u.1
    match u.1 with
    | 1 => if u.2 < 72 then (s.coreSwap u.2).2 else s
    | 2 => if u.2 < 67 then (s.engineSwap u.2).2.setEngSt u.2 5 else s
    | 3 =>
      let (okBit, spareBit, lane) := if u.2 < 3 then (0, 16, u.2) else (4, 20, u.2 - 3)
      let s := s.setFlag AIR_STAT (okBit + lane) false
      let (f, s) := s.fresh
      s.setFld AIR_STAT (spareBit + 2) spareBit (f % 8)
    | _ => s) s

/-- Firmware starts the lanes of the host links (R409). [log 118] -/
def State.startHostLanes (s : State) : State :=
  let s := each (List.range 4) (fun q s => s.setFlag (SCF_QUAD_CTL (4 * q)) 31 true) s
  let s := each (List.range 16) (fun l s => (s.setReg (laneCtl l) (0x80000000 + 2 * 2 ^ 26)).loadTable l) s
  each (List.range 16) (fun l s => s.laneStart l) s

/-- Firmware reloads the ports' calibration from the board data (R57), which the spec does not give. [log 6, 124] -/
def State.loadCalibration (s : State) : State :=
  each (List.range 40) (fun p s =>
    (s.setFld (RDG_PORT_CAL_RX p) 15 0 (Config.unit uCalibration [p, 0])).setFld (RDG_PORT_CAL_TX p) 15 0
      (Config.unit uCalibration [p, 1])) s

/-- Firmware runs: steps 5 to 8 of R409. The versions of its image and configuration (R30) are free values. [log 9, 118] -/
def State.bootFinish (s : State) (source : Nat) (digest : List Word) : State :=
  let s := (((s.extend 0 digest).nextEpoch).extend 1 (boardDigest 1)).extend 2 (boardDigest 2)
  let s := { s with
    life := { s.life with awaitHost := false, inReset := false, source := source, imageDigest := digest }
    ridge := { s.ridge with fwRuns := true, beatTick := s.ridge.ticks } }
  let s := s.loadCalibration
  let (fw, s) := s.fresh
  let (cfg, s) := s.fresh
  let s := (s.setReg GLB_FW_VER fw).setReg GLB_CFG_VER cfg
  let s := (s.setReg TRS_EPOCH (max s.life.epochA.toNat s.life.epochB.toNat)).setReg PLT_FW_STAT 0xF01
  let s := (s.raise 8 0).startHostLanes
  let s := s.untilTick (s.ridge.ticks + 330000000)
  if !s.halfWorks 0 || !s.halfWorks 1 then s.bootFails 6
  else
    let s := s.placeLedger.spareListed
    let s := each (List.range 10) (fun g s => s.restartLap g) s
    let runs := s.life.state != 0
    let s := { s with life := { s.life with booted := true }, truss := { s.truss with admits := runs, dispatch := runs } }
    (s.setReg LCS_BOOT_STAT 0).raise lcsPage 0

/-- The cold reset sequence of R409 after the release of reset, the resume of R417 included. [log 9, 101] -/
def State.boot (s : State) (cause bootSel strap : Nat) : State :=
  let s := s.coldState cause
  let s := { s with
    life := { s.life with bootSel := BitVec.ofNat 2 bootSel, strap := BitVec.ofNat 3 strap }
    pins := { s.pins with resetN := true, jtagScan := false } }
  let s := match s.life.pendingState with
    | some st =>
      let s := { s with life := { s.life with
        state := st, pendingState := none, resumes := s.life.resumes + 1,
        wipePartial := s.life.wipePartial || s.life.trainFail != 0 } }
      s.setReg XNG_RESET_CAUSE 4
    | none => { s with life := { s.life with resumes := 0 } }
  let s := s.rebuildShims
  let st := s.life.state.toNat
  if st = 4 then s.bootFails 9
  else if bootSel = 3 ∨ ((st = 0 ∨ st = 3) ∧ strap > 1) then s.bootFails 8
  else if bootSel = 1 then s.bootAwaits
  else
    let s := s.untilTick 90000000
    if s.life.flashA = 0 then s.bootFinish 0 (boardDigest 0)
    else if s.life.flashB = 0 then s.bootFinish 1 (boardDigest 3)
    else if bootSel = 2 then s.bootAwaits
    else s.bootFails s.life.flashB

/-- A host's image is verified and run (R410, R411): the verdict is the cryptography's. [log 102] -/
def State.bootGo (s : State) : State :=
  if !s.life.awaitHost then s
  else
    let n := s.fld LCS_BOOT_LEN 23 0
    let img := s.bytes loftBase n
    let key := [s.life.state.toNat, s.fld LCS_SVN 5 0, ofBytes img]
    let code := if n = 0 then 5 else [0, 2, 3, 4, 5].getD (Config.unit uImage key % 5) 0
    if code = 0 then s.bootFinish 2 ((List.range 12).map fun w => BitVec.ofNat 32 (Config.unit uDigest [4, w, ofBytes img]))
    else s.setReg LCS_BOOT_STAT code

/-! ## Clock and voltage of a profile (R16, R436, R437) -/

/-- VDD_CORE range of a profile in mV, on a part whose clock is clamped or not (R437). -/
def profRange (clamped : Bool) (p : Nat) : Nat × Nat :=
  match p with
  | 0 => if clamped then (660, 740) else (720, 780)
  | 1 => (660, 740)
  | _ => (620, 700)

def State.clampedPart (s : State) : Bool := s.flag PWR_PROF_STAT 30

/-- VDD_CORE takes a set point. -/
def State.setVdd (s : State) (mv : Nat) : State :=
  if s.fld PWR_AVS_STAT 9 0 = mv then s else (s.setFld PWR_AVS_STAT 9 0 mv).emit (.vout mv)

/-- The Bent clock and voltage of a profile (R16, R436, R437). -/
def State.profClock (s : State) (p : Nat) : State :=
  let (lo, hi) := profRange s.clampedPart p
  let mhz := if p = 0 ∧ !s.clampedPart then 1800 else 1600
  each (List.range 8) (fun b s => s.setReg (BNT_CLK b) mhz) (s.setVdd (max lo (min hi (s.fld PWR_AVS_STAT 9 0))))

/-- The clock and voltage of a profile that was switched to in NAP or RETAIN are applied at the exit (R436). -/
def State.profApply (s : State) : State :=
  if s.power.profDeferred then
    { s.profClock (s.fld PWR_PROF_STAT 1 0) with power := { s.power with profDeferred := false } }
  else s

/-! ## Warm reset (R408) -/

def lanePages (p : Nat) : Bool := decide (0x280 ≤ p ∧ p < 0x2C8)

/-- A warm reset up to its step 6; the Truss's rebuild follows, and firmware's state shows RESTART until it is done (R32).
DESIGN CHOICE: writes that the hub still holds un-accepted are dropped with their requesters' islands. [log 101, 123] -/
def State.warm (s : State) (p : WinPort) (cause : Nat) : State :=
  let s := s.profApply
  let s := if s.servo = 2 then s.servoTo 3 (some 3) else s
  let s := s.scribeFlush.dramSleep
  let s := each (List.range 64) (fun c s => s.skidReset p c) s
  let failed := (List.range 72).filter s.coreFailed
  let s := s.warmPages fun p => !lanePages p
  let s := each (List.range 72) (fun c s => (s.coreOff c).setCoreSt c (if failed.contains c then 5 else 0)) s
  let s := s.wipeAllSram
  let faulted := (List.range 67).filter fun e => (s.eng e).fenced
  let s := { s with
    hub := { s.hub with snaps := [], staged := [], held := [], fetch := [], softReset := [] }
    hostReqs := []
    ridge := { s.ridge with cap := Ridge.cold.cap }
    engines := s.engines.map fun e => { e with task := none, report := none }
    air := State.reset.air
    tys := { Tys.cold with theta := s.tys.theta, acceptedAt := s.tys.acceptedAt }
    loft := { s.loft with retained := [], off := [], gatedAt := [] }
    girt := { s.girt with
      clsCnt := [], fgCnt := [], windows := [], lastWindow := [], marks := [], gate := [], cycleSym := [], swapReq := []
      txq := [], pktq := [], waiting := [], opened := [], sent := [], viaMate := [], awaiting := [] }
    islands := s.islands.map fun x => if x.crossing == .quarantine then x else Island.cold
    islandResets := []
    bayResets := []
    bentMoves := []
    power := { State.reset.power with pinLevel := s.power.pinLevel, carReq := s.power.carReq, asleep := s.power.asleep }
    gauge := State.reset.gauge
    truss := { s.truss with
      admits := false, dispatch := false, asking := [], lastTag := [], draining := none
      drained := failed
      wiped := [(loftBase, 0x3000000), (bufBase, 0xC00000), (dataBase, 0x2400000)] } }
  let s := each faulted (fun e s => s.setEngSt e 5) s
  let s := (s.setFlag TRS_STAT 0 true).setReg XNG_RESET_CAUSE cause
  let s := s.scribe 0 flagReset 0 0 0 1 0
  let s := (s.untilTick (s.ridge.ticks + 4000000)).dramWake
  let s := { s with ridge := { s.ridge with fwRuns := true, beatTick := s.ridge.ticks } }
  (s.setReg PLT_FW_STAT 0xF02).gauRestart

/-- A request for a warm reset (R404, R407): during a life-cycle change it acts as a cold reset, and during another reset it
has no effect. -/
def State.warmRequest (s : State) (p : WinPort) (cause : Nat) : State :=
  if s.life.inTransition then s.boot (if cause = 2 then 2 else 3) s.life.bootSel.toNat s.life.strap.toNat
  else if !s.life.booted || s.flag TRS_STAT 0 then s
  else s.warm p cause

/-! ## Life cycle (R415, R416) -/

/-- A transition that exists, by its requester (R415). -/
def lcAllowed (plate : Bool) (a b : Nat) : Bool :=
  (plate && a == 0 && b == 1) || (a == 1 && b == 2) || (a == 2 && b == 3) || (b == 4 && (a == 1 || a == 2 || a == 3))

def State.lcRefuse (s : State) (code : Nat) : State := (s.setReg LCS_TRANS_STAT code).raise lcsPage 1

/-- A write of LCS_TRANS_GO: refused, or steps 1 to 4 of R416. The cold reset of step 6 is the next COLD_RESET; an interruption
before it finds PENDING set. [log 102, 104] -/
def State.lcGo (s : State) (plate : Bool) (v : Nat) : State :=
  let tgt := s.fld LCS_TRANS_TGT 2 0
  let st := s.life.state.toNat
  if s.life.inTransition then s
  else if v ≠ 0x4C435854 then s.lcRefuse 2
  else if !lcAllowed plate st tgt then s.lcRefuse 1
  else if st = 2 ∧ tgt = 3 ∧
      Config.unit uAuth [s.wide LCS_DEVID_LO, ofBytes (s.bytes (s.wide LCS_AUTH_LO / 64 * 64) 256)] % 2 = 0 then s.lcRefuse 3
  else
    let s := { s with truss := { s.truss with admits := false, dispatch := false } }
    let s := s.nextEpoch
    let s := { s with life := { s.life with
      pendingState := some (BitVec.ofNat 3 tgt), inTransition := true, wipePartial := (List.range 16).any fun c => s.flag DRC_STAT c } }
    let s := s.wipeAllSram
    (s.wipe dramBase 0x1000000000).setReg LCS_TRANS_STAT 0

/-- Step 5 and 6 of R416: the state fuse is blown, and the device performs a cold reset. [log 104] -/
def State.lcDone (s : State) : State :=
  match s.life.pendingState with
  | some st => { s with life := { s.life with state := st, pendingState := none } }
  | none => s

/-! ## Commands -/

/-- COLD_RESET (R404, R409, R416): the completion of a life-cycle change is one of its triggers. [log 104] -/
def execColdReset (powerOn : Bool) (bootSel : BitVec 2) (lcStrap : BitVec 3) (s : State) : Host.Outcome State Fault Refusal :=
  .next (s.after (
    let t := { s with life := { s.life with refclkLost := false } }
    if s.life.inTransition && !powerOn then (t.lcDone).boot 5 bootSel.toNat lcStrap.toNat
    else t.boot (if powerOn then 0 else 1) bootSel.toNat lcStrap.toNat))

/-- HOST_BOOT_TIMEOUT (R410). -/
def execHostBootTimeout (s : State) : Host.Outcome State Fault Refusal :=
  .next (s.after (if s.life.awaitHost then (s.untilTick 10000000000).bootFails 7 else s))

/-- REFCLK_LOSS (R396): the cold reset is held until the clock is back. -/
def execRefclkLoss (s : State) : Host.Outcome State Fault Refusal :=
  .next (s.after (
    let t := s.coldState 6
    { t with life := { t.life with refclkLost := true } }))

/-- REFCLK_RESTORED (R396). -/
def execRefclkRestored (s : State) : Host.Outcome State Fault Refusal :=
  .next (s.after (
    if s.life.refclkLost then
      ({ s with life := { s.life with refclkLost := false } }).boot 6 s.life.bootSel.toNat s.life.strap.toNat
    else s))

/-- RESET_N_ASSERT (R469): RESET_N falls, or the supplies drop; the device is held in cold reset until the release. A pulse under
100 ns is ignored, one of 1 µs or more recognised, and between the two it can go either way. -/
def execResetNAssert (widthNs : BitVec 32) (s : State) : Host.Outcome State Fault Refusal :=
  .next (s.after (
    let (f, u) := if 100 ≤ widthNs.toNat ∧ widthNs.toNat < 1000 then s.fresh else (0, s)
    if widthNs.toNat < 100 ∨ f % 2 = 1 then u
    else
      let t := u.coldState 1
      { t with pins := { t.pins with resetN := false } }))

end Sys2Proof.Machine
end

