-- ==== Sys2Proof/Machine/Power.lean ====
section
/-! DEFINITION. The Sill (16): island power (R422 to R424), requests and refusers (R425 to R428), NAP and RETAIN (R429 to
R431), wake (R432, R433), carrier sleep (R435), profiles (R436) and the supply voltage (R437). -/

namespace Sys2Proof.Machine

abbrev pwrPage : Nat := 2

def State.devState (s : State) : Nat := s.fld PWR_DEV_STAT 1 0
def State.setDevState (s : State) (v : Nat) : State := (s.setFld PWR_DEV_STAT 1 0 v).raise pwrPage 0

/-- Islands with a power state of their own: Bents and Mortise engines. -/
def powerIslands : List Nat := (List.range 75).map (8 + ·)

/-! ## Gating and powering one island (R422) -/

/-- The clock stops; state is kept. -/
def State.gate (s : State) (i : Nat) : State :=
  if (s.island i).crossing ≠ .active then s
  else
    let s := s.setCrossing i .gated 1
    if i < 16 then (s.gateLap (2 + (i - 8))).bump (BNT_GATE_CNT (i - 8)) else s

/-- The clock runs again. -/
def State.ungate (s : State) (i : Nat) : State :=
  if (s.island i).crossing ≠ .gated then s
  else
    let s := s.setCrossing i .active 0
    if i < 16 then s.ungateLap (2 + (i - 8)) else s

/-- Power is removed through R400: what the island held is lost. -/
def State.powerOff (s : State) (i : Nat) : State :=
  if (s.island i).crossing == .off || (s.island i).crossing == .quarantine || (s.island i).crossing == .resetting then s
  else
    let s := if i < 16 then s.bentDown (i - 8) else s.engineDown (i - 16)
    s.setCrossing i .off 3

/-- Power returns: a Bent's memories are wiped and its cores start (R143, R422). -/
def State.powerOn (s : State) (i : Nat) : State :=
  if (s.island i).crossing ≠ .off then s
  else
    let s := s.setCrossing i .active 0
    if i < 16 then
      (each (bentCores (i - 8)) (fun c s => if s.coreServes c then s.coreStart c else s) s).restartLap (2 + (i - 8))
    else s

/-- An island takes power state `st`: 0 ON, 1 GATED, 3 OFF. -/
def State.islandTo (s : State) (i st : Nat) : State :=
  match st with
  | 0 => (s.ungate i).powerOn i
  | 1 => (s.powerOn i).gate i
  | _ => s.powerOff i

/-- The power state an island is in. -/
def State.islandPower (s : State) (i : Nat) : Nat := (s.island i).power

/-! ## Refusers (R427) -/

def allConsumers : List Nat := List.range 72 ++ (List.range 67).map (128 + ·)

/-- The consumer can take work: in service and ON. -/
def State.consumerOn (s : State) (c : Nat) : Bool :=
  s.islandUp (consumerIsland c) &&
    (if c < 72 then s.coreServes c else !s.engHeld (c - 128) && !(s.eng (c - 128)).fenced && s.enabled (engPage (c - 128)))

/-- Tasks READY or RUNNING. -/
def State.liveTasks (s : State) : List Task :=
  s.truss.frames.flatMap fun f => f.tasks.filter fun t => t.st == .ready || t.st == .running

/-- A live task that the island may run and that no ON consumer outside it may run. -/
def State.islandTask (s : State) (i : Nat) : Option Task :=
  s.liveTasks.find? fun t =>
    (allConsumers.any fun c => consumerIsland c == i && s.eligible c t.queue) &&
      !allConsumers.any fun c => consumerIsland c != i && s.consumerOn c && s.eligible c t.queue

/-- Write-backs or repairs aimed at a retained bank are outstanding (R286). -/
def State.planeBusy (s : State) : Bool :=
  (s.loft.writeback.getD 0 [] ++ s.loft.repair.getD 0 []).any fun e => s.keptBanks.contains e.1

/-- PLN_STAT.ret_busy. -/
def State.retBusy (s : State) : Bool := (s.power.target == some 3 || s.power.retCheck.isSome) && s.planeBusy

/-- An enabled lane in DETECT to EXCHANGE. -/
def State.busyLane (s : State) : Option Nat :=
  (List.range 56).find? fun l => s.laneOn l && decide (1 ≤ s.laneSt (s.laneFirst l) ∧ s.laneSt (s.laneFirst l) ≤ 5)

/-- A Skid channel in RUN or WAIT_ROOM (R333). -/
def State.busySkid (s : State) : Option Nat := (List.range 64).find? fun c => s.skidSt c == 2 || s.skidSt c == 3

/-- Refusers of a device request: code and detail, in order of code. [log 105] -/
def State.devRefusers (s : State) (st : Nat) : List (Nat × Nat) :=
  let keep := ((List.range 8).find? fun b => s.flag (PWR_KEEP b) 0).map fun b => (1, b)
  let tasks := s.liveTasks.head?.map fun t => (2, t.queue)
  let lane := s.busyLane.map fun l => (4, l)
  let skid := if st = 3 then s.busySkid.map fun c => (3, c) else none
  let plane := if st = 3 ∧ s.planeBusy then some (5, 2) else none
  let dram := if st = 3 then ((List.range 16).find? s.retraining).map fun c => (6, c)
    else none
  [keep, tasks, skid, lane, plane, dram].filterMap id

/-- A refused request: each objection counted, the lowest latched. -/
def State.refusePower (s : State) (bay : Nat) (objs : List (Nat × Nat)) : State :=
  let s := each objs (fun o s => s.bump (PWR_REFUSE_CNT (o.1 - 1))) s
  match objs with
  | [] => s
  | o :: _ => (s.setReg PWR_LAST_REFUSE (bay * 2 ^ 24 + o.2 * 16 + o.1)).raise pwrPage 1

/-! ## Wake (R432, R433) -/

/-- The device sleeps, or is entering a sleep. -/
def State.sleepy (s : State) : Bool := decide (2 ≤ s.devState) || s.power.sleeping

def wakeCode : WakeSource → Nat
  | .pin => 1 | .timer => 2 | .doorbell => 3 | .flow => 4 | .ready => 5 | .req => 6

/-- A wake source has been seen: the first of a sleep is recorded and starts the exit, at once or when the entry is complete. -/
def State.wakeBy (s : State) (src : WakeSource) (detail : Nat) : State :=
  if !s.sleepy then s
  else
    let first := s.power.wakes == 0
    let s := { s with power := { s.power with wakes := s.power.wakes + 1 } }
    let s := if first then
        (((s.setReg PWR_WAKE_LAST (wakeCode src * 2 ^ 28 + detail % 4096 * 2 ^ 16)).setReg PWR_WAKE_NS s.ridge.ns.toNat).emit
          (.wakeOut src)).raise pwrPage 4
      else s.bump PWR_WAKE_CNT
    match s.power.target with
    | none => { s with power := { s.power with target := some (s.fld PWR_DEV_STAT 5 4) } }
    | some t => if t < 2 then s else { s with power := { s.power with wakePending := true } }

/-- A wake source is enabled (R433). -/
def State.wakeEnabled (s : State) (src : WakeSource) (detail : Nat) : Bool :=
  match src with
  | .pin => decide (detail < 8) && s.flag (PWR_WAKE_CFG detail) 0
  | .timer => decide (detail < 32) && s.flag PWR_WAKE_TMR detail
  | .doorbell => s.flag PWR_WAKE_EN 0 && decide (detail < 1024) && s.qOn detail
  | .flow => s.flag PWR_WAKE_EN 1
  | .ready => s.devState == 2 || s.power.target == some 2
  | .req => false

/-- The level of WAKE[k] is its active one. -/
def State.pinActive (s : State) (k : Nat) : Bool := s.power.pinLevel.getD k false != s.flag (PWR_WAKE_CFG k) 1

/-- Pins that wake as soon as the device sleeps: latched edges, and active levels. [log 106] -/
def State.pinWakes (s : State) : Option Nat :=
  (List.range 8).find? fun k =>
    s.flag (PWR_WAKE_CFG k) 0 && (if s.flag (PWR_WAKE_CFG k) 2 then s.pinActive k else s.power.pinLatch.getD k false)

/-- A write of PWR_WAKE_CFG[k]: a pin that it finds at its active level in level mode wakes the device (R433). -/
def State.wakeCfg (s : State) (k : Nat) : State :=
  if decide (2 ≤ s.devState) && s.flag (PWR_WAKE_CFG k) 0 && s.flag (PWR_WAKE_CFG k) 2 && s.pinActive k then s.wakeBy .pin k
  else s

/-! ## Device states (R421, R426, R429 to R431) -/

/-- The refuser check of a request for NAP or RETAIN: it is refused, or the entry begins (R427, R430). -/
def State.devCheck (s : State) (bay st : Nat) : State :=
  match s.devRefusers st with
  | o :: r => s.refusePower bay (o :: r)
  | [] =>
    let s := s.setFld PWR_DEV_STAT 5 4 s.devState
    { s with
      power := { s.power with target := some st, sleeping := true, wakes := 0, wakePending := false }
      truss := { s.truss with dispatch := false, admits := s.truss.admits && st == 2 } }

/-- A device request starts (R426, R427): a sleeping device wakes first, and RETAIN is checked once the walkers have stopped. [log 105] -/
def State.devStart (s : State) (bay st : Nat) : State :=
  let cur := s.devState
  if st = cur then s
  else if 2 ≤ cur then
    let s := { s with power := { s.power with next := some (st, bay) } }
    s.wakeBy .req 0
  else if st < 2 then
    let s := if st = 0 then each powerIslands (fun i s => s.ungate i) s else s
    s.setDevState st
  else if st = 3 ∧ s.planeBusy then { s with power := { s.power with retCheck := some (bay, s.ridge.ticks) } }
  else s.devCheck bay st

/-- A write of PWR_DEV_REQ (R426). [log 105] -/
def State.devRequest (s : State) (bay st : Nat) : State :=
  match (if s.power.retCheck.isSome then some 3 else s.power.target), s.power.next with
  | none, _ => s.devStart bay st
  | some _, none => { s with power := { s.power with next := some (st, bay) } }
  | some _, some (old, ob) =>
    let s := { s with power := { s.power with next := some (st, bay) } }
    ((s.bump PWR_SUPERSEDE_CNT).setReg PWR_LAST_SUPERSEDED (ob * 2 ^ 24 + old)).raise pwrPage 3

/-- The pending device request starts once a transition has ended. -/
def State.devNext (s : State) : State :=
  match s.power.target, s.power.next with
  | none, some (st, bay) => ({ s with power := { s.power with next := none } }).devStart bay st
  | _, _ => s

/-- The check of a RETAIN request that waits: once ret_busy reads 0, or 2 µs after the request (R427). -/
def State.retDecide (s : State) : State :=
  match s.power.retCheck with
  | some (bay, since) =>
    if s.planeBusy && decide (s.ridge.ticks < since + 2000) then s
    else (({ s with power := { s.power with retCheck := none } }).devCheck bay 3).devNext
  | none => s

/-- The islands and memories lose what RETAIN does not keep (R430). -/
def State.retainEntry (s : State) : State :=
  let s := each powerIslands (fun i s => s.powerOff i) s
  (s.retainLoft).dramSleep

/-- The exit of R431. -/
def State.retainExit (s : State) : State :=
  let s := (s.dramWakeRetain).wakeLoft
  let s := { s with truss := { s.truss with admits := !s.flag LDG_STAT 3 } }
  each powerIslands (fun i s => s.powerOn i) s

/-- The device runs again: pin latches clear, the clock and voltage of a profile switched in the sleep are applied (R436),
held frames and triggers go on, dispatch resumes. [log 107] -/
def State.awake (s : State) : State :=
  let s := { s with
    power := { s.power with target := none, sleeping := false, wakePending := false, wakes := 0,
                            pinLatch := Vector.replicate 8 false }
    truss := { s.truss with dispatch := true } }
  let s := s.setDevState (s.fld PWR_DEV_STAT 5 4)
  s.profApply.skidReleased.releaseFrames

/-- The device transition in progress completes; a RETAIN request that waits for its check has it. [log 105] -/
def State.devDone (s : State) : State :=
  match s.power.target with
  | none => match s.power.retCheck with
    | some (_, since) => (s.untilTick (since + 2000)).retDecide
    | none => s
  | some st =>
    if st ≥ 2 then
      let s := if st = 3 then s.retainEntry else each powerIslands (fun i s => s.gate i) s
      let pend := s.power.wakePending
      let s := ({ s with power := { s.power with target := none, wakePending := false } }).setDevState st
      if pend then { s with power := { s.power with target := some (s.fld PWR_DEV_STAT 5 4) } }
      else match s.pinWakes with
        | some k => s.wakeBy .pin k
        | none => match s.power.next with
          | some _ => s.wakeBy .req 0
          | none => s
    else
      let s := if s.devState = 3 then s.retainExit else each powerIslands (fun i s => s.ungate i) s
      s.awake.devNext

/-- An entry is aborted (R428): causes 1 island, 2 canary, 3 DRAM. [log 106] -/
def State.devAbort (s : State) (cause : Nat) : State :=
  match s.power.target with
  | none => s
  | some st =>
    if st < 2 ∨ cause = 0 ∨ (st = 2 ∧ cause ≠ 1) then s
    else
      let s := if st = 2 then each powerIslands (fun i s => if s.islandUp i then (s.gate i).ungate i else s) s
        else
          let s := each powerIslands (fun i s => s.powerOff i) s
          let s := if cause ≥ 2 then s.retainLoft else s
          let s := if cause = 3 then s.dramSleep else s
          let s := if cause = 3 then s.dramWakeRetain else s
          let s := s.wakeLoft
          let s := { s with truss := { s.truss with admits := !s.flag LDG_STAT 3 } }
          each powerIslands (fun i s => s.powerOn i) s
      let s := ((s.bump PWR_ABORT_CNT).setFld PWR_DEV_STAT 19 16 cause).raise pwrPage 2
      s.awake.devNext

/-! ## Island requests (R425 to R427) -/

/-- The requester may name the island (R425). -/
def State.mayPower (s : State) (bay i : Nat) : Bool :=
  bay == 0 || (if i < 16 then bitOf (s.reg (BAY_BENTS 0 bay)) (i - 8) else s.owner (engPage (i - 16)) == bay)

/-- An island request starts. -/
def State.islStart (s : State) (bay i st : Nat) : State :=
  if s.islandPower i = st then s
  else match if st = 0 then none else s.islandTask i with
    | some t => s.refusePower bay [(2, t.queue)]
    | none => s.setIsland i { s.island i with target := some st }

/-- A write of PWR_ISL_REQ. -/
def State.islRequest (s : State) (bay i st : Nat) : State :=
  if i < 8 ∨ 82 < i ∨ st = 2 then s
  else if (decide (16 ≤ i) && s.flag (MRT_STAT (i - 16)) 8) || (s.island i).crossing == .quarantine then s.capture pwrPage bay 0x0002 i
  else match (s.island i).target, (s.island i).next with
    | none, _ => s.islStart bay i st
    | some _, none => s.setIsland i { s.island i with next := some (st, bay) }
    | some _, some (old, ob) =>
      let s := s.setIsland i { s.island i with next := some (st, bay) }
      ((s.bump PWR_SUPERSEDE_CNT).setReg PWR_LAST_SUPERSEDED (ob * 2 ^ 24 + i * 256 + old)).raise pwrPage 3

/-- An island's transition completes, and its pending request starts. -/
def State.islDone (s : State) (i : Nat) : State :=
  match (s.island i).target with
  | none => s
  | some st =>
    let next := (s.island i).next
    let s := (s.setIsland i { s.island i with target := none, next := none }).islandTo i st
    match next with
    | some (st', bay) => s.islStart bay i st'
    | none => s

/-! ## TRIM (R424) -/

/-- The island has nothing to do: every core in service waits in TAKE, or the engine is idle or asking. [log 108] -/
def State.trimIdle (s : State) (i : Nat) : Bool :=
  s.islandUp i && (s.island i).target.isNone &&
    (if i < 16 then
      (bentCores (i - 8)).all fun c => !s.coreServes c || (s.coreSt c == 3 && (tget? s.truss.holding c).isNone)
    else
      let e := i - 16
      !s.flag (MRT_STAT e) 8 && (s.engShow e == 1 || s.engShow e == 2) && (s.eng e).task.isNone && !(s.eng e).fenced)

/-- Elapsed tick since which the island has been idle. -/
def State.trimSince (s : State) (i : Nat) : Nat :=
  let cs := if i < 16 then (bentCores (i - 8)).filter s.coreServes else [128 + (i - 16)]
  cs.foldl (fun m c => max m (tget s.idleSince c 0)) 0

/-- The gated consumer that TRIM wakes for a READY task. [log 108] -/
def State.trimChoice (s : State) (t : Task) : Option Nat :=
  let gated := allConsumers.filter fun c => (s.island (consumerIsland c)).crossing == .gated && s.eligible c t.queue &&
    (decide (c ≥ 128) || s.coreServes c)
  match gated.find? fun c => t.aff != 0 && tget s.truss.lastTag c 0 == t.aff with
  | some c => some c
  | none => gated.head?

/-! ## Carrier sleep (R435) -/

/-- A write of PWR_CAR_REQ: it replaces a request that waits. [log 113] -/
def State.carRequest (s : State) (wake : Bool) : State :=
  let c := s.fld PWR_CAR_SEL 7 0
  let slot := BitVec.ofNat 32 (s.reg (bank c PWR_CAR_SLOT))
  { s with power := { s.power with carReq := tput s.power.carReq c (wake, slot, s.ridge.ticks) } }

/-- The boundary at which a carrier's request takes effect. -/
def State.carBoundary (s : State) (c : Nat) : State :=
  match tget? s.power.carReq c with
  | none => s
  | some (wake, slot, tick) =>
    let per : Int := (s.shape c).perSlot
    let earliest := s.now + ((tick + 100000 - s.ridge.ticks : Nat) : Int) * (nsUnit : Int)
    let k := -((-(s.symBefore c earliest + 1)) / per)
    let n := max k (s.nearSlot c slot.toNat)
    let s := s.untilTime (s.symTime c (n * per))
    let asleep := if wake then s.power.asleep.filter (· != c) else addOnce s.power.asleep c
    ({ s with power := { s.power with carReq := tdel s.power.carReq c, asleep := asleep } }).raise pwrPage 6

/-! ## Profiles and voltage (R436, R437) -/

/-- TRS_CTL.quantum of a profile. -/
def profQuantum (p : Nat) : Nat := match p with | 0 => 1 | 1 => 0 | _ => 2
/-- A write of PWR_PROFILE.sel, once stored: a switch, also to the profile in force (R436). A code that names no profile is not
taken. [log 107] -/
def State.profileWrite (s : State) (p : Nat) : State :=
  if p = 3 then s
  else
    let s := (s.setFlag PWR_PROF_STAT 31 true).setFld TRS_CTL 9 8 (profQuantum p)
    let s := s.setFld PLN_CTL 9 8 (if p = 2 then 1 else 0)
    { s with power := { s.power with profileTarget := some p } }

/-- The switch completes: in NAP or RETAIN the clock and voltage wait for the exit (R436). [log 107] -/
def State.profileDone (s : State) : State :=
  match s.power.profileTarget with
  | none => s
  | some p =>
    let s := if 2 ≤ s.devState then { s with power := { s.power with profDeferred := true } } else s.profClock p
    let s := s.setFld DRC_CFG 9 8 (if p = 1 then 1 else 0)
    let s := each (List.range 48) (fun l s => s.setFlag (laneReg l 0x28C) 0 (p == 1)) s
    let s := (s.setFld PWR_PROF_STAT 1 0 p).setFlag PWR_PROF_STAT 31 false
    ({ s with power := { s.power with profileTarget := none } }).raise pwrPage 5

/-! ## Commands -/

/-- No command waits: one tick of the Ridge clock passes (log 1), the crossings that were held go on (R397), and a RETAIN request
that has waited long enough is checked. [log 1, 100] -/
def State.idle (s : State) : State :=
  (({ s with islands := s.islands.map fun x => { x with held := false } } : State).advance 1).retDecide

/-- SCRUB_WRITEBACK (R284): with the last write-back aimed at a retained bank, a RETAIN request that waits is checked (R427). -/
def execScrubWriteback (g : Fin 10) (s : State) : Host.Outcome State Fault Refusal :=
  .next (s.after (s.writeBackNext g.val).retDecide)

/-- POWER_TRANSITION_DONE (R426, R429 to R431): of the device, or of an island. -/
def execPowerTransitionDone (isl : Option IslandNo) (s : State) : Host.Outcome State Fault Refusal :=
  .next (s.after (match isl with
    | none => s.devDone
    | some i => if 8 ≤ i.toNat ∧ i.toNat ≤ 82 then s.islDone i.toNat else s))

/-- POWER_ENTRY_ABORT (R428). -/
def execPowerEntryAbort (cause : BitVec 2) (s : State) : Host.Outcome State Fault Refusal :=
  .next (s.after (s.devAbort cause.toNat))

/-- TRIM_GATE (R424): the island has been idle for PWR_TRIM_IDLE ns. [log 3] -/
def execTrimGate (isl : IslandNo) (s : State) : Host.Outcome State Fault Refusal :=
  .next (s.after (
    let i := isl.toNat
    if s.devState = 1 ∧ 8 ≤ i ∧ i ≤ 82 ∧ s.trimIdle i then
      (s.untilTick (s.trimSince i + s.fld PWR_TRIM_IDLE 15 0)).gate i
    else s))

/-- TRIM_UNGATE (R424): for a task that has been READY for 100 ns. -/
def execTrimUngate (r : RecNo) (s : State) : Host.Outcome State Fault Refusal :=
  .next (s.after (match s.taskAt r.toNat with
    | some (_, _, t) =>
      if s.devState = 1 ∧ t.st = .ready then
        match s.trimChoice t with
        | some c => (s.untilTick (tget s.readySince t.idx 0 + 100)).ungate (consumerIsland c)
        | none => s
      else s
    | none => s))

/-- DEVICE_WAKE (R429, R432, R433). -/
def execDeviceWake (source : WakeSource) (detail : BitVec 12) (s : State) : Host.Outcome State Fault Refusal :=
  .next (s.after (if s.wakeEnabled source detail.toNat then s.wakeBy source detail.toNat else s))

/-- WAKE_PIN (R433): an edge of WAKE[k] to a level that it holds for a time. -/
def execWakePin (k : Fin 8) (high : Bool) (widthNs : BitVec 32) (s : State) : Host.Outcome State Fault Refusal :=
  .next (s.after (
    let cfg := s.reg (PWR_WAKE_CFG k.val)
    let edge := s.power.pinLevel.getD k.val false != high && high != bitOf cfg 1 && decide (widthNs.toNat ≥ 100)
    let latch := if bitOf cfg 2 then s.power.pinLatch else if edge && bitOf cfg 0 then s.power.pinLatch.setIfInBounds k.val true else s.power.pinLatch
    let t := { s with power := { s.power with pinLevel := s.power.pinLevel.setIfInBounds k.val high, pinLatch := latch } }
    let wakes := bitOf cfg 0 && (if bitOf cfg 2 then decide (2 ≤ t.devState) && t.pinActive k.val else edge)
    let t := if wakes then t.wakeBy .pin k.val else t
    if t.sleepy then t else { t with power := { t.power with pinLatch := latch } }))

/-- CARRIER_SLEEP_BOUNDARY (R435). -/
def execCarrierSleepBoundary (c : CarrierNo) (s : State) : Host.Outcome State Fault Refusal :=
  .next (s.after (s.carBoundary c.val))

/-- PROFILE_SWITCH_DONE (R436). -/
def execProfileSwitchDone (s : State) : Host.Outcome State Fault Refusal := .next (s.after s.profileDone)

/-- AVS_ADJUST (R437): the lowest voltage that keeps the guard band, in the profile's range and steps of 5 mV. [log 107] -/
def execAvsAdjust (lowestMv : BitVec 10) (s : State) : Host.Outcome State Fault Refusal :=
  .next (s.after (
    let (lo, hi) := profRange s.clampedPart (s.fld PWR_PROF_STAT 1 0)
    s.setVdd (max lo (min hi (ceilTo lowestMv.toNat 5)))))

end Sys2Proof.Machine
end

