-- ==== Sys2Proof/Machine/RegRead.lean ====
section
/-! DEFINITION. Reads of the register window: what a word reads as (the owning chapters' computed fields), who may read it
(R24), RC fields (R6), the side effects of a read, and the snapshots of R27. -/

namespace Sys2Proof.Machine

/-- A free value cut to `n` bits. -/
def State.freshBits (s : State) (n : Nat) : Nat × State := let (v, s) := s.fresh; (v % 2 ^ n, s)

/-! ## Computed words -/

/-- PG_STAT (R20, R422): the crossing's quarantine, the island's power state, the soft reset, and the block status that the
owning chapter defines. -/
def State.pgStat (s : State) (p : Nat) (i : PageInfo) : Nat × State :=
  let x := s.island i.island
  let top := bitNat (x.crossing == .quarantine) * 2 ^ 31 + x.power % 4 * 2 ^ 29 + bitNat (s.hub.softReset.contains p) * 2 ^ 28
  let (status, s) : Nat × State :=
    if 0x100 ≤ p ∧ p < 0x143 then (s.engShow (p - 0x100), s)
    else match i.kind with
      | .skdCh => (s.skidSt (p - 0x201), s)
      | .scf => s.laneState (p - 0x280)
      | .peg => s.laneState (48 + (p - 0x2C0))
      | _ => (0, s)
  (top + status, s)

def crossingCode : Crossing → Nat
  | .active => 0 | .gated => 1 | .off => 2 | .resetting => 3 | .quarantine => 4

/-- XNG_STATUS of an island (R418). -/
def State.xngStatus (s : State) (i : Nat) : Nat :=
  let x := s.island i
  bitNat (s.islandResets.contains i || x.crossing == .resetting) * 2 ^ 31 + bitNat x.held * 2 ^ 30 +
    x.qcause % 4 * 2 ^ 8 + crossingCode x.crossing

/-- A word of Ridge time: nanoseconds, fraction, seconds low and high (R39). -/
def State.timeWord (s : State) (k : Nat) : Nat :=
  match k with
  | 0 => s.ridge.ns.toNat
  | 1 => s.ridge.frac.toNat / 2 ^ 16
  | 2 => s.ridge.sec.toNat % 2 ^ 32
  | _ => s.ridge.sec.toNat / 2 ^ 32

/-- TRS_VIEW[b] selects a queue of another Bay (R111). -/
def State.qDenied (s : State) (b : Nat) : Bool := b != 0 && s.qBay (s.fld (TRS_QSEL b) 9 0) != b

/-- AIR_VIEW[b] selects a channel of another Bay's core. -/
def State.airDenied (s : State) (b : Nat) : Bool := b != 0 && s.coreBay (s.fld (AIR_CHSEL b) 6 0) != b

/-- The queried carrier of RDG_VIEW[b] belongs to another Bay. -/
def State.carDenied (s : State) (b : Nat) : Bool := b != 0 && s.carBay (s.fld (RDG_VIEW_CARQ b) 7 0) != b

/-- State of LFT_BANK_STAT: the first that applies of WIPING, RETAINED, OFF and FAILING (R292). -/
def State.bankState (s : State) (m : Nat) : Nat :=
  if s.loft.wiping.any fun w => overlaps (memRange m) w then 1
  else if s.loft.retained.contains m then 2
  else if s.loft.off.contains m then 3
  else if s.loft.failing.contains m || s.flag (LFT_BANK_STAT m) 20 then 4 else 0

/-- Channels, of 32 from `lo`, in one of the states. -/
def State.skidMask (s : State) (lo : Nat) (sts : List Nat) : Nat :=
  (List.range 32).foldl (fun n c => if sts.contains (s.skidSt (lo + c)) then n + 2 ^ c else n) 0

/-- TYS_LINK_STAT.state: RECEIVING from the recognised sync word on, SEARCH in a frame that receives. [log 74] -/
def State.tysLinkState (s : State) (l : Nat) : Nat :=
  if !s.tysOn l 0 then 0
  else if (s.tysRx l).w.isSome then 2
  else if s.tysKind l (s.tysFrame l) ≥ 2 then 1 else 0

/-- The checker of a lane is comparing bits (R355). -/
def State.prbsCounts (s : State) (l : Nat) : Bool := s.prbsRuns l && s.flag (laneReg l 0x204) 31

/-- The register at `off` of an enabled lane counts errors of the line: code words on the first lane of an Ethernet port, code
groups on a Peg lane, hyperframes under CPRI (R341, R353, R361). -/
def State.countsErrors (s : State) (l off : Nat) : Bool :=
  if l < 48 then 0x280 ≤ off && decide (off < 0x28C) && s.laneFirst l == l && s.laneProto l == 1
  else 0x284 ≤ off && (decide (off < 0x28C) || (off == 0x28C && s.laneProto l == 1))

/-- An error counter of a line, bits [hi:0] of a word: errors are counted, a free number of them, in the time since it was last
looked at. [log 89] -/
def State.lineCount (s : State) (a hi : Nat) : Nat × State :=
  if tget s.lanes.counted a 0 = s.ridge.ticks then (s.reg a, s)
  else
    let (f, s) := s.fresh
    let v := putBits (s.reg a) hi 0 (min (2 ^ (hi + 1) - 1) (s.fld a hi 0 + f))
    (v, { s.setReg a v with lanes := { s.lanes with counted := tput s.lanes.counted a s.ridge.ticks } })

/-- A word of a lane page. What the line and the receiver's analog circuits decide is a free value while the lane is
enabled; what the lane counts of it too. [log 89, 115] -/
def State.laneWord (s : State) (l off : Nat) : Nat × State :=
  let w := s.reg (laneReg l off)
  let open' (hi lo : Nat) : Nat × State := let (v, t) := s.freshBits (hi + 1 - lo); (putBits w hi lo v, t)
  if off = 0x100 then (putBits w 13 12 (s.laneGang l), s)
  else if off = 0x28C ∧ l < 48 then (bitNat (s.fld PWR_PROF_STAT 1 0 == 1), s)
  else if off = 0x208 ∨ off = 0x20C ∨ off = 0x210 ∨ off = 0x214 then (if s.prbsCounts l then open' 31 0 else (w, s))
  else if off = 0x104 then
    let k := s.laneShown l
    let (st, s) := s.laneState l
    let w := putBits (putBits (putBits w 31 28 st) 24 20 (s.fld (laneStat k) 24 20)) 15 8 (s.fld (laneStat k) 15 8)
    if s.laneOn l then let (v, t) := s.freshBits 1; (putBits w 0 0 v, t) else (w, s)
  else if !s.laneOn l then (w, s)
  else if off = 0x10C then (if s.laneFirst l = l then 0 else w, s)
  else if off = 0x110 then
    let (v, t) := s.freshBits (if l < 48 then 30 else 18)
    (if s.flag (laneReg l 0x114) 0 || decide (tapSum (if l < 48 then 5 else 3) v > 63) then w else v, t)
  else if off = 0x120 then
    if l < 16 then let (v, t) := s.freshBits 6; (putBits (putBits w 28 28 (v / 32)) 4 0 v, t)
    else if s.laneSt (s.laneFirst l) ≤ 3 then open' 28 28
    else (w, s)
  else if 0x140 ≤ off ∧ off < 0x1B4 then (if s.flag (laneReg l 0x120) 31 then (w, s) else open' 9 0)
  else if s.countsErrors l off then s.lineCount (laneReg l off) 31
  else (w, s)

/-- A block register word as read by a requester that reads the page in full. [log 14] -/
def State.liveWord (s : State) (i : PageInfo) (a : Nat) : Nat × State :=
  let p := a / 4096
  let off := a % 4096
  let w := s.reg (s.key a)
  match i.kind with
  | .glb => (if off = 0x100 then Nat.lor w (bitNat s.clampedPart) else w, s)
  | .lcs =>
    if off = 0x100 then
      (s.life.state.toNat + (match s.life.pendingState with | some t => 2 ^ 11 + t.toNat * 2 ^ 8 | none => 0), s)
    else if off = 0x104 then
      (bitNat s.life.wipePartial * 2 ^ 31 + s.life.resumes % 256 * 2 ^ 16 + s.life.strap.toNat * 2 ^ 8 +
        s.life.bootSel.toNat * 2 ^ 4 + s.life.source % 4, s)
    else (w, s)
  | .pwr =>
    if a = PWR_DEV_STAT then
      (w + bitNat (s.power.target.isSome || s.power.retCheck.isSome) * 2 ^ 31 + bitNat s.power.next.isSome * 2 ^ 30, s)
    else if a = PWR_ISL_STAT then
      let x := s.island (s.fld PWR_ISL_SEL 6 0)
      (bitNat x.target.isSome * 2 ^ 31 + bitNat x.next.isSome * 2 ^ 30 + x.power % 4, s)
    else if a = PWR_CAR_STAT then
      let c := s.fld PWR_CAR_SEL 7 0
      (bitNat (tget? s.power.carReq c).isSome * 2 + bitNat (s.power.asleep.contains c), s)
    else (w, s)
  | .xng => (if a = XNG_STATUS then s.xngStatus (s.fld XNG_ISL_SEL 6 0) else w, s)
  | .bnt =>
    if off = 0x100 then
      let run := (List.range 9).foldl (fun n c =>
        if s.coreSt (9 * i.inst + c) = 2 ∨ s.coreSt (9 * i.inst + c) = 3 then n + 2 ^ c else n) 0
      (putBits w 8 0 run, s)
    else (w, s)
  | .plt0 =>
    (if a = PLT_HEARTBEAT ∧ s.ridge.fwRuns then (s.ridge.ticks - s.ridge.beatTick) / 1000000 % 2 ^ 32 else w, s)
  | .rdg0 =>
    if 0x100 ≤ off ∧ off < 0x110 then (s.timeWord ((off - 0x100) / 4), s)
    else if a = RDG_PENDING_SLEW then (wrap 32 (wholeNs s.ridge.slew), s)
    else (w, s)
  | .rdgCar =>
    let c := (p - 0x14) * 128 + (off - 0x100) / 16
    (if off % 16 = 8 then s.carPos c else if off % 16 = 12 then s.carSlot c else w, s)
  | .rdgView =>
    let b := p - 0x16
    let c := s.fld (RDG_VIEW_CARQ b) 7 0
    if 0x100 ≤ off ∧ off < 0x110 then (s.timeWord ((off - 0x100) / 4), s)
    else if off = 0x110 then (s.fld RDG_SERVO_STAT 3 0, s)
    else if off = 0x120 then (putBits w 31 31 (bitNat (s.carDenied b)), s)
    else if off = 0x124 then (if s.carDenied b then 0 else s.carPos c, s)
    else if off = 0x128 then (if s.carDenied b then 0 else s.carSlot c, s)
    else if 0x200 ≤ off ∧ off < 0x280 ∧ off % 32 = 0 then
      (putBits w 29 29 (bitNat (s.badCar (4 * b + (off - 0x200) / 32))), s)
    else (w, s)
  | .trsView =>
    let b := p - 0x28
    let q := s.fld (TRS_QSEL b) 9 0
    if off = 0x100 then (putBits w 31 31 (bitNat (s.qDenied b)), s)
    else if 0x104 ≤ off ∧ off < 0x130 ∧ s.qDenied b then (0, s)
    else if off = 0x120 then (s.qHeld q, s)
    else if off = 0x124 then ((s.q q).nextSeq % 2 ^ 32, s)
    else if off = 0x128 then ((s.q q).nextSeq / 2 ^ 32 % 256, s)
    else (w, s)
  | .doorbell => (if off = 0x10C then (s.q (p - 0x1000)).fetch else w, s)
  | .ldg0 =>
    (if 0x144 ≤ off ∧ off < 0x184 ∧ off % 8 = 4 then s.regionFree ((off - 0x144) / 8) else w, s)
  | .rft =>
    let c := p - 0x80
    let k := s.core c
    if off = 0x118 then (putBits w 9 8 k.level + bitNat k.taskValid, s)
    else if off = 0x11C then (k.taskIndex.toNat, s)
    else if off = 0x128 then (k.cycle.toNat % 2 ^ 32, s)
    else if off = 0x12C then (k.cycle.toNat / 2 ^ 32, s)
    else if off = 0x130 then (k.instret.toNat % 2 ^ 32, s)
    else if off = 0x134 then (k.instret.toNat / 2 ^ 32, s)
    else (w, s)
  | .mrt | .fft | .pra | .ldd | .lde | .plr | .trb | .hq =>
    if off = 0x100 then (putBits w 3 0 (s.engShow (p - 0x100)), s)
    else if off = 0x104 then (s.engTaskWord (p - 0x100), s)
    else (w, s)
  | .airView =>
    let b := p - 0x3A1
    let c := s.fld (AIR_CHSEL b) 6 0
    if off = 0x100 then (putBits w 31 31 (bitNat (s.airDenied b)), s)
    else if 0x104 ≤ off ∧ off < 0x118 ∧ s.airDenied b then (0, s)
    else if off = 0x110 then (s.airStat c, s)
    else (w, s)
  | .tys0 =>
    (if 0x220 ≤ off ∧ off < 0x320 ∧ off % 64 = 0x20 then putBits w 1 0 (s.tysLinkState ((off - 0x220) / 64)) else w, s)
  | .drc0 =>
    (if a = DRC_STAT then putBits w 30 30 (bitNat ((List.range 16).any s.retraining)) else w, s)
  | .drc1 =>
    (if 0x100 ≤ off ∧ off < 0x300 ∧ off % 32 = 0 ∧ s.retraining ((off - 0x100) / 32) = true then putBits w 2 0 4 else w, s)
  | .lft =>
    if 0x400 ≤ off ∧ off < 0x4F0 then
      let m := (off - 0x400) / 4
      let w := putBits (putBits w 27 24 (tget s.loft.shims m []).length) 18 16 (s.bankState m)
      (putBits w 20 20 (bitNat (bitOf w 20 || s.loft.failing.contains m)), s)
    else (w, s)
  | .pln => (if a = PLN_STAT then putBits w 31 31 (bitNat s.retBusy) else w, s)
  | .shm =>
    if a = SHM_RD_DATA then
      match (tget s.loft.shims (s.fld SHM_RD_SEL 7 0) [])[s.fld SHM_RD_SEL 10 8]? with
      | some e => (2 ^ 31 + e.origin % 4 * 2 ^ 29 + e.word % 2 ^ 16, s)
      | none => (0, s)
    else (w, s)
  | .skd =>
    if off = 0x100 then (s.skidMask 0 [2, 3], s)
    else if off = 0x104 then (s.skidMask 32 [2, 3], s)
    else if off = 0x108 then (s.skidMask 0 [4], s)
    else if off = 0x10C then (s.skidMask 32 [4], s)
    else (w, s)
  | .skdCh => (if off = 0x10C then putBits w 31 31 (bitNat (s.badTrig (p - 0x201))) else w, s)
  | .scf => s.laneWord (p - 0x280) off
  | .peg => s.laneWord (48 + (p - 0x2C0)) off
  | .pur => (if 0x200 ≤ off ∧ off < 0x2C0 then s.lineCount a 15 else (w, s))
  | .grt1 =>
    (if 0x100 ≤ off ∧ off < 0x380 ∧ off % 16 = 0 then putBits w 27 27 (bitNat (s.badPortCar ((off - 0x100) / 16))) else w, s)
  | .hst =>
    let h := p - 0x340
    if 4096 * p + off = HST_LINK_STAT h then
      if s.ltssmRuns (s.hostLink h).1 && decide ((s.hostLink h).2 ≠ 0) then
        let (f, t) := s.fresh
        (putBits w 19 16 ([0, 1, 2, 4].getD (f % 4) 0), t)
      else (w, s)
    else if off = 0x114 then
      let f := s.fn h (s.fld (HST_FN_SEL h) 4 0)
      (bitNat f.bme * 2 ^ 31 + bitNat f.msixEn * 2 ^ 30, s)
    else (w, s)
  | .bay => (if off = 0x104 then putBits w 30 30 (bitNat (s.bayMoving (p - 0x360))) else w, s)
  | _ => (w, s)

/-! ## Who reads a page in full (R24) -/

/-- Block registers read in full, or as zero. -/
def State.readsFull (s : State) (who : Requester) (i : PageInfo) (a : Nat) : Bool :=
  let b := s.bayOf who
  let off := a % 4096
  isPlate who || b == 0 || s.owner (a / 4096) == b ||
    match i.kind with
    | .glb | .plt0 | .plt1 => true
    | .lcs => decide (0x200 ≤ off ∧ off < 0x2C0)
    | .scb => off == 0x100 || off == 0x104 || decide (0x200 + 0x40 * b ≤ off ∧ off < 0x240 + 0x40 * b)
    | _ => false

/-! ## Reads -/

/-- A word as it is, without the effects of reading it. -/
def State.wordNow (s : State) (who : Requester) (i : PageInfo) (a : Nat) : Nat × State :=
  let off := a % 4096
  if off = 0x0C then s.pgStat (a / 4096) i
  else if off = 0x18 then (s.reg (a / 4096 * 4096 + 0x10), s)
  else if off < 0x100 then (s.reg a, s)
  else if !s.readsFull who i a || (fieldsAt a).isNone then (0, s)
  else s.liveWord i a

/-- RC fields of a word. -/
def rcFields (a : Nat) : List Field := ((fieldsAt a).getD []).filter fun f => f.acc == .rc

/-- What a read does before its value is taken: the pops of R55 and R62. -/
def State.readPops (s : State) (a : Nat) : State :=
  if a = RDG_TXS_NS then s.popTxs
  else match (List.range 4).find? fun i => a == RDG_CAP_NS i with
    | some i => s.popCap i
    | none => s

/-- One word read with its effects: RC fields clear (R6), and a core's read of its own RFT_MAILBOX clears its interrupt
(R140). -/
def State.readWord (s : State) (who : Requester) (i : PageInfo) (a : Nat) : Nat × State :=
  let full := decide (a % 4096 < 0x100) || s.readsFull who i a
  let s := if full then s.readPops a else s
  let (v, s) := s.wordNow who i a
  let s := if full then
      match rcFields a with
      | [] => s
      | fs => s.setReg (s.key a) (fs.foldl (fun n f => putBits n f.hi f.lo 0) (s.reg (s.key a)))
    else s
  match who with
  | .core c =>
    if a = RFT_MAILBOX c.val then
      (v, s.setCore c.val { s.core c.val with intPend := (s.core c.val).intPend &&& 0x1E })
    else (v, s)
  | _ => (v, s)

/-- A 32-bit read under the snapshot rules of R27. -/
def State.readSnap (s : State) (who : Requester) (i : PageInfo) (a : Nat) : Nat × State :=
  match wideOf a with
  | none => s.readWord who i a
  | some (latch, n) =>
    if a = latch then
      let (v, s) := s.readWord who i a
      let (ws, s) := (List.range (n - 1)).foldl (fun (r : List Word × State) j =>
        let (x, s) := r.2.readWord who i (a + 4 * (j + 1))
        (r.1 ++ [BitVec.ofNat 32 x], s)) ([], s)
      (v, { s with hub := { s.hub with snaps := tput s.hub.snaps (reqId who) (s.key latch, ws) } })
    else match tget? s.hub.snaps (reqId who) with
      | some (k, ws) => if k = s.key latch then (((ws.getD ((a - latch) / 4 - 1) 0)).toNat, s) else s.readWord who i a
      | none => s.readWord who i a

/-- A read reaches the hub (R18, R19, R24, R27): its value, or an error. [log 15] -/
def State.hubRead (s : State) (who : Requester) (a size : Nat) : Option Nat × State :=
  let p := a / 4096
  if (size ≠ 4 ∧ size ≠ 8) ∨ a % size ≠ 0 ∨ !onWindow who then (none, s)
  else match pageInfo p with
  | none => (none, s)
  | some i =>
    if a % 4096 ≥ 0x100 ∧ !s.blockUp i p then
      (none, if s.islandUp i.island then s else s.bump (bank i.island XNG_ERR_RESP_CNT))
    else if size = 4 then
      let (v, s) := s.readSnap who i a
      (some v, s)
    else
      let one (s : State) (a : Nat) : Nat × State := if wideOf a = some (a - a % 8, 2) then s.readWord who i a else s.readSnap who i a
      let (lo, s) := one s a
      let (hi, s) := one s (a + 4)
      (some (lo + 0x100000000 * hi), s)

end Sys2Proof.Machine
end

