-- ==== Sys2Proof/Machine/Registers.lean ====
section
/-! DEFINITION. Accesses to the register window as a whole: what the owning chapters refuse (R22), what an accepted write
does, the end of a soft reset (R20), and how an access reaches the hub from its requester (R21, R382, R408, R410). -/

namespace Sys2Proof.Machine

/-! ## Writes that the owning chapters refuse -/

/-- A write refused as in R22 although its requester may write the page: the state before, and with the words stored. DRC
pages 2 and 3 are firmware-only (R316). -/
def regRefuse (who : Requester) (a v : Nat) (s t : State) : Bool :=
  let p := a / 4096
  let off := a % 4096
  let b := s.bayOf who
  match pageInfo p with
  | none => false
  | some i =>
    if off = 0x28 then
      (decide (0x1C2 ≤ p ∧ p < 0x1C4) && !isPlate who) || i.ownable && b == 0 && v % 8 != s.owner p &&
        (if i.kind = .skdCh then ! [0, 5, 6].contains (s.skidSt (p - 0x201))
         else decide (0x100 ≤ p ∧ p < 0x143) && s.engPageRefused (p - 0x100) (v % 8))
    else if 0x1C2 ≤ p ∧ p < 0x1C4 then !isPlate who
    else if off < 0x100 then false
    else match i.kind with
    | .rdg0 => (decide (0x110 ≤ off ∧ off < 0x118) || decide (0x120 ≤ off ∧ off < 0x130)) && !isPlate who && !s.manual
    | .trsView =>
      (decide (0x104 ≤ off ∧ off < 0x130) && s.qDenied (p - 0x28)) ||
        (off == 0x104 && !isPlate who && decide (bitsOf v 26 24 < s.fld (BAY_LIMITS 0 b) 2 0))
    | .ldg0 =>
      (decide (0x100 ≤ off ∧ off < 0x110) && !isPlate who) ||
        (decide (0x140 ≤ off ∧ off < 0x180) && off % 8 == 0 && s.regionRefused ((off - 0x140) / 8) v)
    | .airView => decide (0x104 ≤ off ∧ off < 0x118) && s.airDenied (p - 0x3A1)
    | .lft => decide (0x200 ≤ off ∧ off < 0x400) && s.loftWinRefused t ((off - 0x200) / 8)
    | .drc0 =>
      (decide (0x400 ≤ off ∧ off < 0x500) &&
        (s.dramWinRefused t who ((off - 0x400) / 8) || s.dramWinDropped t ((off - 0x400) / 8))) ||
        ((off == 0x140 || off == 0x144) && s.keepDrops t ((off - 0x140) / 4))
    | .bay =>
      i.inst == 0 && decide (0x400 ≤ off ∧ off < 0x600) &&
        (let x := (off - 0x400) / 0x40
         let o := off % 0x40
         if o = 0 then s.bentsRefused x v
         else decide (0x10 ≤ o ∧ o < 0x34) && s.engRefused x ((o - 0x10) / 4) v)
    | .pwr =>
      (a == PWR_ISL_REQ && !isPlate who && !s.mayPower b (s.fld PWR_ISL_SEL 6 0)) ||
        ((a == PWR_CAR_REQ || a == PWR_CAR_SLOT) && b != 0 && s.carBay (s.fld PWR_CAR_SEL 7 0) != b)
    | _ => false

/-- A refusal of R313 is counted on the DRC page. -/
def regCount (_who : Requester) (a _v : Nat) (s t x : State) : State :=
  if a / 4096 = 0x1C0 then
    let off := a % 4096
    if (decide (0x400 ≤ off) && s.dramWinDropped t ((off - 0x400) / 8)) ||
        ((off == 0x140 || off == 0x144) && s.keepDrops t ((off - 0x140) / 4)) then x.countKeepRefusal else x
  else x

/-! ## What an accepted write does -/

/-- The whole of BAY_IRQ's effect: vectors pending in the Bay's own array go to the function it names (R385). [log 22] -/
def State.bayIrqWritten (s : State) (b : Nat) : State :=
  if !s.flag (BAY_IRQ b) 31 then s
  else each s.bayPend (fun k s =>
    if k / 256 = b then { s with bayPend := s.bayPend.filter (· != k) }.bayVector b (k % 256) else s) s

/-- A fetch through a Scribe read port starts (R38). -/
def State.scribeFetchStart (s : State) (n : Nat) : State :=
  let s := s.setFlag (SCB_RD_STAT n) 0 true
  { s with hub := { s.hub with
    fetch := s.hub.fetch.filter (fun f => f.1 != n) ++ [(n, BitVec.ofNat 48 (s.wide (SCB_RD_SEQ_LO n)))] } }

/-- A fetch of the fault log (R461). [log 112] -/
def State.faultFetch (s : State) (seq : Nat) : State :=
  let head := s.reg PLT_FLT_HEAD
  let hit := decide (0 < seq ∧ seq ≤ head ∧ head < seq + 64)
  match hit, tget? s.faults.log (seq % 64) with
  | true, some e =>
    let s := (s.setReg (PLT_FLT_RD_DATA 0) (e.w0.toNat % 2 ^ 32)).setReg (PLT_FLT_RD_DATA 1) (e.w0.toNat / 2 ^ 32)
    let s := (s.setReg (PLT_FLT_RD_DATA 2) (e.w1.toNat % 2 ^ 32)).setReg (PLT_FLT_RD_DATA 3) (e.w1.toNat / 2 ^ 32)
    s.setReg PLT_FLT_RD_STAT 0
  | _, _ => s.setReg PLT_FLT_RD_STAT 2

/-- A write of PLT_SVC_CLR (R463). -/
def State.serviceClear (s : State) (key : Nat) : State :=
  let kind := s.fld PLT_SVC_UNIT 15 8
  let unit := s.fld PLT_SVC_UNIT 7 0
  if key = 0x53564352 ∧ s.isListed kind unit then
    { s with faults := { s.faults with failed := s.faults.failed.filter (· != (kind, unit)) } }.logFault kind unit 0 5
  else s

/-- A lane page's registers; the counts of a checker that stops are what it had counted, a free value (R355). -/
def State.lanePageWritten (s0 s : State) (l off v : Nat) : State :=
  let t := s.laneWrite s0 l off v
  if s0.prbsCounts l && !t.prbsCounts l && !(off = 0x200 && bitOf v 31) then
    let (f, t) := t.fresh
    let (g, t) := t.fresh
    (t.setWide (laneReg l 0x208) f).setWide (laneReg l 0x210) g
  else t

/-- The effect of an accepted write beyond its fields: offset `a`, value `v`, the state before, and the state with the word
stored. `p` carries 64-bit accesses that a Skid channel makes as part of it. [log 17, 27, 122] -/
def regEffect (port : WinPort) (who : Requester) (a v : Nat) (s0 s : State) : State :=
  let p := a / 4096
  let off := a % 4096
  let old := s0.reg (s0.key a)
  match pageInfo p with
  | none => s
  | some i =>
    if off = 0x28 then
      if decide (0x100 ≤ p ∧ p < 0x143) && s0.owner p != s.owner p then s.coldCounters (p - 0x100) else s
    else if off < 0x100 then s
    else match i.kind with
    | .lcs =>
      if a = LCS_TRANS_GO then s.lcGo (isPlate who) v
      else if a = LCS_BOOT_GO ∧ bitOf v 0 then s.bootGo
      else s
    | .pwr =>
      if a = PWR_DEV_REQ then s.devRequest (s0.bayOf who) (v % 4)
      else if a = PWR_ISL_REQ then s.islRequest (s0.bayOf who) (s.fld PWR_ISL_SEL 6 0) (v % 4)
      else if a = PWR_CAR_REQ then s.carRequest (bitOf v 31)
      else if a = PWR_PROFILE then s.profileWrite (bitsOf v 1 0)
      else if 0x180 ≤ off ∧ off < 0x1A0 then s.wakeCfg ((off - 0x180) / 4)
      else s
    | .xng =>
      if a = XNG_RESET_CTL ∧ bitOf v 31 then s.warmRequest port 3
      else if a = XNG_ISL_CTL ∧ bitOf v 31 then s.islandRequest (s.fld XNG_ISL_SEL 6 0)
      else s
    | .scb => if 0x200 ≤ off ∧ off % 0x40 = 0 then s.scribeFetchStart ((off - 0x200) / 0x40) else s
    | .plt1 =>
      if a = PLT_FLT_RD_SEQ then s.faultFetch v
      else if a = PLT_SVC_CLR then s.serviceClear v
      else s
    | .rdg0 =>
      if a = RDG_ADJ_NS then
        let word (k : Nat) : Nat := match (s0.stagedOf who RDG_ADJ_NS 4).find? fun e => e.1 == RDG_ADJ_NS + 4 * k with
          | some e => e.2.toNat
          | none => 0
        s.adjCommit (adjValue v (word 1) (word 2) (word 3))
      else if a = RDG_SERVO_CTL ∧ bitOf v 31 then s.relock
      else if (a = RDG_SERVO_CTL ∧ s0.manual ∨ a = RDG_HOLD_CFG ∧ bitsOf old 15 0 ≠ s.fld a 15 0) ∧ !s.manual ∧
          (s.servo = 0 ∨ s.servo = 3) then s.holdAverage
      else s
    | .rdg1 => if a = RDG_SRC_PRIO ∨ a = RDG_DPLL_CTL then s.dpllSelect else s
    | .rdgCar =>
      let c := (p - 0x14) * 128 + (off - 0x100) / 16
      if off % 16 = 0 then s.carWrite c old v
      else if off % 16 = 4 ∧ s.carOn c then s.setReg a old
      else s
    | .rdgView => if 0x200 ≤ off ∧ off < 0x280 ∧ off % 32 = 0 then s.evtWrite (4 * (p - 0x16) + (off - 0x200) / 32) old v else s
    | .trs0 => if a = TRS_DRAIN then s.drainWrite v else s
    | .trsView =>
      let b := p - 0x28
      let q := s.fld (TRS_QSEL b) 9 0
      if off = 0x104 then s.queueWrite q old v
      else if 0x108 ≤ off ∧ off < 0x120 then s.keepQueue s0 q off
      else if 0x200 ≤ off ∧ off % 32 = 0x14 then s.retryRing b ((off - 0x200) / 32) true
      else if 0x200 ≤ off ∧ off % 32 = 0x10 then s.retryRing b ((off - 0x200) / 32) (bitOf v 31)
      else s
    | .doorbell =>
      let q := p - 0x1000
      if off = 0x100 then (if s.flag TRS_STAT 0 then s.setReg a old else s.doorbellWrite q old v)
      else if off = 0x104 then s.cancelSeq q v
      else if off = 0x108 ∧ bitOf v 0 then s.cancelAll q
      else s
    | .ldg0 =>
      if 0x140 ≤ off ∧ off < 0x180 ∧ off % 8 = 0 then
        { s with truss := { s.truss with alloc := s.truss.alloc.setIfInBounds ((off - 0x140) / 8) 0 } }
      else s
    | .ldg1 => if a = LDG_RD_IDX then s.readPort (s.fld LDG_RD_IDX 23 0) else s
    | .rft =>
      let c := p - 0x80
      if off = 0x100 then s.runWrite c
      else if off = 0x158 then s.setCore c ((s.core c).pend 0)
      else s
    | .fft =>
      let e := p - 0x100
      if 0x400 ≤ off ∧ off < 0x800 ∧ s0.engSt e = 3 ∧ s.reg a ≠ old then
        s.setEng e { s.eng e with changed := addOnce (s.eng e).changed off }
      else s
    | .hq => if off = 0x40C ∧ bitOf v 0 then s.setHarq (s.owner p) [] else s
    | .tys0 =>
      if a = TYS_JOIN_CTL then
        let s := if bitOf v 30 then s.tysJoinStop else s
        if bitOf v 31 then s.tysJoin else s
      else s
    | .skdCh => if off = 0x100 then s.skidCtl port (p - 0x201) v else s
    | .scf => s0.lanePageWritten s (p - 0x280) off v
    | .peg => s0.lanePageWritten s (48 + (p - 0x2C0)) off v
    | .grt0 =>
      if a = GRT_CLS_CMD then s.clsCmd (bitsOf v 29 28) (s.fld a 15 0)
      else if a = GRT_FG_CMD then s.fgCmd (bitsOf v 29 28) (s.fld a 11 0)
      else s
    | .grt1 =>
      let n := (off - 0x100) / 16
      if off % 16 = 0 then s.portCfgWrite s0 n v
      else if off % 16 = 4 ∧ bitOf v 31 then { s with girt := { s.girt with swapReq := addOnce s.girt.swapReq n } }
      else s
    | .cmp => if off < 0x140 ∧ !fmtOk v then s.setReg a old else s
    | .grtView =>
      if 0x300 ≤ off ∧ off < 0x500 ∧ (off % 32 = 0x08 ∨ off % 32 = 0x0C) then s.pktRun (p - 0x302) ((off - 0x300) / 32) else s
    | .hst => if off = 0x110 then (s.msixFlush).resumeDeliveries else s
    | .bay =>
      if off = 0x100 ∧ bitOf v 31 then s.bayResetStarts port i.inst
      else if off = 0x108 then (s.bayIrqWritten i.inst).resumeDeliveries
      else if off = 0x140 then s.harqPlaced i.inst old
      else if 0x400 ≤ off ∧ off % 0x40 = 0 then s.bentsWritten
      else if 0x400 ≤ off ∧ off % 0x40 = 8 ∧ bitOf v 0 then s.bayResetStarts port ((off - 0x400) / 0x40)
      else s
    | .gau =>
      if a = GAU_CTL then s.gauCtl old v
      else if a = GAU_SCAN_LEN then (if s0.gauFixed then s.setReg a old else s)
      else if 0x200 ≤ off ∧ off < 0x300 then (if s0.gauScanIgnored v then s.setReg a old else s)
      else s
    | _ => s

/-- The value that a register word holds, as a read in full shows it (R37). -/
def heldWord (a : Nat) (s : State) : Nat × State :=
  match pageInfo (a / 4096) with
  | some i => s.wordNow (.plate 0) i a
  | none => (0, s)

/-- The rules of the owning chapters. -/
def rules (p : WinPort) : WriteRules := ⟨heldWord, regRefuse, regCount, regEffect p⟩

/-- The port of an access made as part of another access's effect: the window is not reached a third time over. -/
def port0 : WinPort := ⟨fun _ _ s => (none, s), fun _ _ _ s => (false, s)⟩

/-- 64-bit accesses of a Skid channel; the answer to the command in progress stays as it is. -/
def port1 : WinPort where
  read who off s := s.hubRead who off 8
  write who off v s :=
    let t := s.hubWrite (rules port0) who off 8 v
    (t.answer != .busError, t.say s.answer)

/-! ## Soft reset (R20) -/

/-- Counters and buffers of a page's block registers that State keeps beside the register file, at their Cold values. [log 17] -/
def State.coldHidden (s : State) (p : Nat) : State :=
  match (pageInfo p).map PageInfo.kind with
  | some .rft => s.setCore (p - 0x80) { s.core (p - 0x80) with cycle := 0, instret := 0 }
  | some .plt0 => { s with ridge := { s.ridge with beatTick := s.ridge.ticks } }
  | some .rdg0 => { s with ridge := { s.ridge with slew := 0 } }
  | some .rdg2 => { s with ridge := { s.ridge with txs := Ridge.cold.txs } }
  | some .rdg3 => { s with ridge := { s.ridge with cap := Ridge.cold.cap } }
  | some .scb => { s with hub := { s.hub with fetch := [] } }
  | _ => s

/-- The soft reset of a page ends: block registers are Cold, with the effect that a write of the same values has. [log 17] -/
def State.softResetEnds (s : State) (p : Nat) : State :=
  if !s.hub.softReset.contains p then s
  else
    let s := { s with hub := { s.hub with softReset := s.hub.softReset.filter (· != p) } }
    let keys := (s.regs.map (·.1)).filter fun k => k / 4096 == p && decide (0x100 ≤ k % 4096)
    let s := match pageInfo p with
      | some i => if i.kind = .skdCh then s.skidReset port1 (p - 0x201) else s
      | none => s
    let t := (s.coldPage p).coldHidden p
    let t := each keys (fun k t =>
      match pageInfo p with
      | some i => if i.kind = .doorbell ∨ i.kind = .ldg1 then t
        else regEffect port1 (.plate 0) k (coldWord k).toNat s t
      | none => t) t
    t

/-! ## From a requester to the hub -/

/-- What becomes of an access on its way to the hub. -/
inductive Gate where
  /-- It reaches the hub. -/
  | open
  /-- It does not arrive: the device is in reset, or the host's link is not in L0. -/
  | lost
  /-- Unsupported Request (R382, R410, R411). -/
  | unsupported
  /-- Completer Abort, during a warm reset (R408). -/
  | abort
  deriving DecidableEq, Repr

/-- The gate of an access to page `p`. [log 9, 20] -/
def State.gateOf (s : State) (who : Requester) (p : Nat) : Gate :=
  if s.life.inReset || s.life.refclkLost || !s.pins.resetN then .lost
  else match who with
    | .host h fn =>
      if !s.linkL0 h.val then .lost
      else if !s.life.booted && (s.life.awaitHost || s.fld LCS_BOOT_STAT 3 0 != 0) then
        (if h.val = 0 ∧ p = 1 then .open else .unsupported)
      else if s.flag TRS_STAT 0 then .abort
      else if !s.fnOn h.val fn.val then .unsupported
      else .open
    | _ => .open

/-- A completion with Unsupported Request or Completer Abort (R394). [log 20] -/
def State.complete (s : State) (h : Nat) (ca : Bool) : State :=
  if ca then (s.bump (HST_CA_CNT h)).say .completerAbort else (s.bump (HST_UR_CNT h)).say .unsupported

/-- A read answered with an error. -/
def State.readError (s : State) (who : Requester) : State :=
  match who with
  | .host h _ => s.complete h.val false
  | _ => s.say .busError

/-- A read of the window by a requester. -/
def State.regRead (s : State) (who : Requester) (a size : Nat) : State :=
  match s.gateOf who (a / 4096), who with
  | .lost, _ => s.say .none
  | .abort, .host h _ => s.complete h.val true
  | .unsupported, _ => s.readError who
  | _, _ => match s.hubRead who a size with
    | (some v, s) => s.say (.value (BitVec.ofNat 64 v))
    | (none, s) => s.readError who

/-- A write of the window by a requester. -/
def State.regWrite (s : State) (who : Requester) (a size v : Nat) : State :=
  match s.gateOf who (a / 4096) with
  | .lost => s.say .none
  | .open => s.hubWrite (rules port1) who a size v
  | _ => s.say .posted

/-- A 32-bit write. -/
def State.write32 (s : State) (who : Requester) (a : Nat) (v : BitVec 32) : State := s.regWrite who a 4 v.toNat

/-- The answer of a held write that goes on (R22): an error reaches a core as that of any store (R136); other requesters see it
as the answer. -/
def State.releasedAnswer (s : State) (w : HeldWrite) : State :=
  match s.answer, w.who with
  | .busError, .core c => s.storeFailed c.val (winBase + w.addr.toNat)
  | _, _ => s

/-- Writes the hub holds are tried again, oldest first, while the staging FIFO has room (R34). -/
def State.releaseHeld (s : State) : Nat → State
  | 0 => s
  | n + 1 =>
    match s.hub.held with
    | [] => s
    | w :: r =>
      if s.hub.fifo.length + sizeBytes w.size / 4 > 64 then s
      else
        let t := { s with hub := { s.hub with held := [] } }.hubWrite (rules port1) w.who w.addr.toNat (sizeBytes w.size) w.v.toNat
        let t := { t with hub := { t.hub with held := r ++ t.hub.held } }
        (t.releasedAnswer w).releaseHeld n

end Sys2Proof.Machine
end

