-- ==== Sys2Proof/Machine/BlockCommands.lean ====
section
/-! DEFINITION. The commands that write a register of the blocks: engines, Tysar, Loft, DRAM, Skid, lanes, Girt, Bays, resets,
life cycle, power, the Gauge, the fault log and the cores' pages. Each is the write of its register with the bit that its
row names. -/

namespace Sys2Proof.Machine

/-- A word of GRT_CLS_CMD or GRT_FG_CMD with an operation in bits 29 and 28 (R393). -/
def withOp (v : BitVec 32) (op : Nat) : BitVec 32 := BitVec.ofNat 32 (putBits v.toNat 29 28 op)

/-- A word of RFT_RUN (R142). -/
def runWord (run halt : Bool) : BitVec 32 := BitVec.ofNat 32 (bitNat run + 2 * bitNat halt)

/-- HQ_CACHE_INV (R230). -/
def execHqCacheInv (r : Requester) (i : Fin 9) (v : BitVec 32) (s : State) : Host.Outcome State Fault Refusal :=
  .next (s.after (s.write32 r (MRT_HQ_INV (classBase 8 + i.val)) (v ||| 1)))

/-- TYS_JOIN_START (R263). -/
def execTysJoinStart (r : Requester) (v : BitVec 32) (s : State) : Host.Outcome State Fault Refusal :=
  .next (s.after (s.write32 r TYS_JOIN_CTL (v ||| 0x80000000)))

/-- TYS_JOIN_ABORT (R269). -/
def execTysJoinAbort (r : Requester) (v : BitVec 32) (s : State) : Host.Outcome State Fault Refusal :=
  .next (s.after (s.write32 r TYS_JOIN_CTL (v ||| 0x40000000)))

/-- LFT_WIN_WRITE (R271). -/
def execLftWinWrite (r : Requester) (w : Fin 64) (sizeReg : Bool) (v : BitVec 32) (s : State) :
    Host.Outcome State Fault Refusal :=
  .next (s.after (s.write32 r (if sizeReg then LFT_WIN_SIZE w.val else LFT_WIN w.val) v))

/-- DRC_WIN_WRITE (R297). -/
def execDrcWinWrite (r : Requester) (w : Fin 32) (sizeReg : Bool) (v : BitVec 32) (s : State) :
    Host.Outcome State Fault Refusal :=
  .next (s.after (s.write32 r (if sizeReg then DRC_WIN_SIZE w.val else DRC_WIN w.val) v))

/-- SR_KEEP_WRITE (R313). -/
def execSrKeepWrite (r : Requester) (h : Fin 2) (v : BitVec 32) (s : State) : Host.Outcome State Fault Refusal :=
  .next (s.after (s.write32 r (DRC_SR_KEEP h.val) v))

/-- SKID_GO (R331). -/
def execSkidGo (r : Requester) (ch : SkidNo) (v : BitVec 32) (s : State) : Host.Outcome State Fault Refusal :=
  .next (s.after (s.write32 r (SKD_CH_CTL ch.val) (v ||| 0x80000000)))

/-- SKID_ABORT (R330). -/
def execSkidAbort (r : Requester) (ch : SkidNo) (v : BitVec 32) (s : State) : Host.Outcome State Fault Refusal :=
  .next (s.after (s.write32 r (SKD_CH_CTL ch.val) (v ||| 0x40000000)))

/-- SKID_RESUME (R328). -/
def execSkidResume (r : Requester) (ch : SkidNo) (v : BitVec 32) (s : State) : Host.Outcome State Fault Refusal :=
  .next (s.after (s.write32 r (SKD_CH_CTL ch.val) (v ||| 0x20000000)))

/-- SKID_SKIP (R328). -/
def execSkidSkip (r : Requester) (ch : SkidNo) (v : BitVec 32) (s : State) : Host.Outcome State Fault Refusal :=
  .next (s.after (s.write32 r (SKD_CH_CTL ch.val) (v ||| 0x10000000)))

/-- SKID_SW_TRIG (R323). -/
def execSkidSwTrig (r : Requester) (ch : SkidNo) (v : BitVec 32) (s : State) : Host.Outcome State Fault Refusal :=
  .next (s.after (s.write32 r (SKD_CH_CTL ch.val) (v ||| 0x8000000)))

/-- LANE_ENABLE (R350). -/
def execLaneEnable (r : Requester) (l : LaneNo) (v : BitVec 32) (s : State) : Host.Outcome State Fault Refusal :=
  .next (s.after (s.write32 r (laneCtl l.val) (v ||| 0x80000000)))

/-- LANE_DISABLE (R352). -/
def execLaneDisable (r : Requester) (l : LaneNo) (v : BitVec 32) (s : State) : Host.Outcome State Fault Refusal :=
  .next (s.after (s.write32 r (laneCtl l.val) (v &&& 0x7FFFFFFF)))

/-- LANE_RESTART (R348). -/
def execLaneRestart (r : Requester) (l : LaneNo) (v : BitVec 32) (s : State) : Host.Outcome State Fault Refusal :=
  .next (s.after (s.write32 r (laneCtl l.val) (v ||| 0x40000000)))

/-- LANE_TEST (R354). -/
def execLaneTest (r : Requester) (l : LaneNo) (v : BitVec 32) (s : State) : Host.Outcome State Fault Refusal :=
  .next (s.after (s.write32 r (laneCtl l.val) v))

/-- LANE_PROTO_WRITE (R350). -/
def execLaneProtoWrite (r : Requester) (l : LaneNo) (v : BitVec 32) (s : State) : Host.Outcome State Fault Refusal :=
  .next (s.after (s.write32 r (laneCtl l.val) v))

/-- PRBS_CLEAR (R355). -/
def execPrbsClear (r : Requester) (l : LaneNo) (v : BitVec 32) (s : State) : Host.Outcome State Fault Refusal :=
  .next (s.after (s.write32 r (laneReg l.val 0x200) (v ||| 0x80000000)))

/-- EYE_START (R356). -/
def execEyeStart (r : Requester) (l : LaneNo) (v : BitVec 32) (s : State) : Host.Outcome State Fault Refusal :=
  .next (s.after (s.write32 r (laneReg l.val 0x240) (v ||| 0x80000000)))

/-- TX_RING_PRODUCER (R380). -/
def execTxRingProducer (r : Requester) (b : BayNo) (ring : Fin 16) (v : BitVec 32) (s : State) :
    Host.Outcome State Fault Refusal :=
  .next (s.after (s.write32 r (GRT_TX_PROD b.val ring.val) v))

/-- CLS_WRITE (R365). -/
def execClsWrite (r : Requester) (v : BitVec 32) (s : State) : Host.Outcome State Fault Refusal :=
  .next (s.after (s.write32 r GRT_CLS_CMD (withOp v 1)))

/-- CLS_READ (R393). -/
def execClsRead (r : Requester) (v : BitVec 32) (s : State) : Host.Outcome State Fault Refusal :=
  .next (s.after (s.write32 r GRT_CLS_CMD (withOp v 2)))

/-- CLS_DELETE (R393). -/
def execClsDelete (r : Requester) (v : BitVec 32) (s : State) : Host.Outcome State Fault Refusal :=
  .next (s.after (s.write32 r GRT_CLS_CMD (withOp v 3)))

/-- FG_WRITE (R393). -/
def execFgWrite (r : Requester) (v : BitVec 32) (s : State) : Host.Outcome State Fault Refusal :=
  .next (s.after (s.write32 r GRT_FG_CMD (withOp v 1)))

/-- FG_READ (R393). -/
def execFgRead (r : Requester) (v : BitVec 32) (s : State) : Host.Outcome State Fault Refusal :=
  .next (s.after (s.write32 r GRT_FG_CMD (withOp v 2)))

/-- FG_DELETE (R393). -/
def execFgDelete (r : Requester) (v : BitVec 32) (s : State) : Host.Outcome State Fault Refusal :=
  .next (s.after (s.write32 r GRT_FG_CMD (withOp v 3)))

/-- GCL_SWAP (R376). -/
def execGclSwap (r : Requester) (p : Fin 40) (v : BitVec 32) (s : State) : Host.Outcome State Fault Refusal :=
  .next (s.after (s.write32 r (GRT_PORT_GCL p.val) (v ||| 0x80000000)))

/-- PORT_CFG_WRITE (R363). -/
def execPortCfgWrite (r : Requester) (p : Fin 40) (v : BitVec 32) (s : State) : Host.Outcome State Fault Refusal :=
  .next (s.after (s.write32 r (GRT_PORT_CFG p.val) v))

/-- FN_CFG_WRITE (R382). -/
def execFnCfgWrite (r : Requester) (h : HostNo) (v : BitVec 32) (s : State) : Host.Outcome State Fault Refusal :=
  .next (s.after (s.write32 r (HST_FN_CFG h.val) v))

/-- BAY_IRQ_WRITE (R385). -/
def execBayIrqWrite (r : Requester) (b : BayNo) (v : BitVec 32) (s : State) : Host.Outcome State Fault Refusal :=
  .next (s.after (s.write32 r (BAY_IRQ b.val) v))

/-- BAY_BENTS_WRITE (R390). -/
def execBayBentsWrite (r : Requester) (b : BayNo) (v : BitVec 32) (s : State) : Host.Outcome State Fault Refusal :=
  .next (s.after (s.write32 r (BAY_BENTS 0 b.val) v))

/-- BAY_ENG_WRITE (R390). -/
def execBayEngWrite (r : Requester) (b : BayNo) (cls : Fin 9) (v : BitVec 32) (s : State) :
    Host.Outcome State Fault Refusal :=
  .next (s.after (s.write32 r (BAY_ENG 0 b.val cls.val) v))

/-- BAY_RESET (R391). -/
def execBayReset (r : Requester) (b : BayNo) (onBay0Page : Bool) (v : BitVec 32) (s : State) :
    Host.Outcome State Fault Refusal :=
  .next (s.after (s.write32 r (if onBay0Page then BAY_RESET_REQ 0 b.val else BAY_CTL b.val) (v ||| (if onBay0Page then 1 else 0x80000000))))

/-- ISLAND_RESET (R404). -/
def execIslandReset (r : Requester) (v : BitVec 32) (s : State) : Host.Outcome State Fault Refusal :=
  .next (s.after (s.write32 r XNG_ISL_CTL (v ||| 0x80000000)))

/-- HOST_BOOT_GO (R410). -/
def execHostBootGo (r : Requester) (v : BitVec 32) (s : State) : Host.Outcome State Fault Refusal :=
  .next (s.after (s.write32 r LCS_BOOT_GO (v ||| 1)))

/-- LC_TRANSITION_GO (R416). -/
def execLcTransitionGo (r : Requester) (v : BitVec 32) (s : State) : Host.Outcome State Fault Refusal :=
  .next (s.after (s.write32 r LCS_TRANS_GO v))

/-- PWR_DEV_REQUEST (R426). -/
def execPwrDevRequest (r : Requester) (v : BitVec 32) (s : State) : Host.Outcome State Fault Refusal :=
  .next (s.after (s.write32 r PWR_DEV_REQ v))

/-- PWR_ISL_REQUEST (R426). -/
def execPwrIslRequest (r : Requester) (v : BitVec 32) (s : State) : Host.Outcome State Fault Refusal :=
  .next (s.after (s.write32 r PWR_ISL_REQ v))

/-- CARRIER_SLEEP_REQUEST (R435). -/
def execCarrierSleepRequest (r : Requester) (v : BitVec 32) (s : State) : Host.Outcome State Fault Refusal :=
  .next (s.after (s.write32 r PWR_CAR_REQ v))

/-- PROFILE_SWITCH (R436). -/
def execProfileSwitch (r : Requester) (v : BitVec 32) (s : State) : Host.Outcome State Fault Refusal :=
  .next (s.after (s.write32 r PWR_PROFILE v))

/-- GAUGE_SW_START (R443). -/
def execGaugeSwStart (r : Requester) (v : BitVec 32) (s : State) : Host.Outcome State Fault Refusal :=
  .next (s.after (s.write32 r GAU_CTL (v ||| 0x80000000)))

/-- FAULT_LOG_FETCH (R461). -/
def execFaultLogFetch (r : Requester) (v : BitVec 32) (s : State) : Host.Outcome State Fault Refusal :=
  .next (s.after (s.write32 r PLT_FLT_RD_SEQ v))

/-- SERVICE_CLEAR (R463). -/
def execServiceClear (r : Requester) (v : BitVec 32) (s : State) : Host.Outcome State Fault Refusal :=
  .next (s.after (s.write32 r PLT_SVC_CLR v))

/-- MAILBOX_WRITE (R142). -/
def execMailboxWrite (r : Requester) (c : CoreNo) (v : BitVec 32) (s : State) : Host.Outcome State Fault Refusal :=
  .next (s.after (s.write32 r (RFT_MAILBOX c.val) v))

/-- CORE_RUN (R143). -/
def execCoreRun (r : Requester) (c : CoreNo) (run : Bool) (s : State) : Host.Outcome State Fault Refusal :=
  .next (s.after (s.write32 r (RFT_RUN c.val) (runWord run (s.flag (RFT_RUN c.val) 1))))

/-- CORE_HALT (R142). -/
def execCoreHalt (r : Requester) (c : CoreNo) (halt : Bool) (s : State) : Host.Outcome State Fault Refusal :=
  .next (s.after (s.write32 r (RFT_RUN c.val) (runWord (s.flag (RFT_RUN c.val) 0) halt)))

/-- SKID_DESC_END (R321): the current descriptor runs to its end. -/
def execSkidDescEnd (ch : SkidNo) (s : State) : Host.Outcome State Fault Refusal := .next (s.after (s.skidAdvance port1 ch.val))

/-- SKID_HALT (R327). -/
def execSkidHalt (ch : SkidNo) (addr : BitVec 48) (dir : Bool) (kind : BitVec 3) (more : Bool) (s : State) :
    Host.Outcome State Fault Refusal :=
  .next (s.after (s.skidErrorAt port1 ch.val addr.toNat (bitNat dir) kind.toNat more))

/-- WARM_RESET (R404, R408): the pin, or XNG_RESET_CTL. -/
def execWarmReset (pin : Bool) (r : Requester) (v : BitVec 32) (s : State) : Host.Outcome State Fault Refusal :=
  .next (s.after (if pin then s.warmRequest port1 2 else s.write32 r XNG_RESET_CTL (v ||| 0x80000000)))

end Sys2Proof.Machine
end

