-- ==== Sys2Proof/Machine/Coding.lean ====
section
/-! DEFINITION. The coding rules the engines compute with: lifting sizes and segmentation (TS 38.212 clause 5.2.2, TS
36.212 clause 5.1.2), rate matching (TS 38.212 clause 5.4.2, TS 36.212 clause 5.1.4.1) and the polar length (TS 38.212
clause 5.3.1), as R207, R213, R216 and R222 name them. -/

namespace Sys2Proof.Machine

/-! ## LDPC -/

/-- The 51 lifting sizes (R207). -/
def liftingOk (z : Nat) : Bool :=
  decide (z ≤ 384) && (List.range 8).any fun j => [2, 3, 5, 7, 9, 11, 13, 15].any fun a => a * 2 ^ j == z

/-- K_b of a base graph in columns: 22 or 10. -/
def kCols (bg2 : Bool) : Nat := if bg2 then 10 else 22
def rowLimit (bg2 : Bool) : Nat := if bg2 then 42 else 46

/-- The lifting size that segmentation gives code blocks of K' bits (R202, R207); a block of K' ≤ 3,840 bits that is not the
only one is longer than 640. [log 114] -/
def liftingFor (bg2 : Bool) (k' : Nat) : Nat :=
  let kb := if !bg2 then 22 else if k' > 640 then 10 else if k' > 560 then 9 else if k' > 192 then 8 else 6
  ((List.range 385).find? fun z => liftingOk z && decide (kb * z ≥ k')).getD 0

/-- Segmentation of an LDPC transport block: C, K', Z, and the CRC attached to the block; none where it does not divide. [log 114] -/
def ldpcSegment (bg2 : Bool) (a : Nat) : Option (Nat × Nat × Nat) :=
  let b := a + if a > 3824 then 24 else 16
  let kcb := if bg2 then 3840 else 8448
  let c := if b ≤ kcb then 1 else cdiv b (kcb - 24)
  let b' := if c = 1 then b else b + c * 24
  let k' := b' / c
  let z := liftingFor bg2 k'
  if z ≠ 0 ∧ b' % c = 0 then some (c, k', z) else none

/-- `c` code blocks of K' bits are the whole of some transport block (R202). [log 114] -/
def blocksOk (bg2 : Bool) (c k' : Nat) : Bool :=
  let kcb := if bg2 then 3840 else 8448
  if c = 1 then decide (k' ≤ kcb) else decide (kcb < c * (k' - 24)) && cdiv (c * (k' - 24)) (kcb - 24) == c

def sumOf {α : Type} (l : List α) (f : α → Nat) : Nat := l.foldl (fun n x => n + f x) 0

/-! ## Turbo -/

/-- The sizes of TS 36.212 Table 5.1.3-3. [log 114] -/
def turboSizes : List Nat :=
  (List.range 60).map (fun i => 40 + 8 * i) ++ (List.range 32).map (fun i => 528 + 16 * i) ++
    (List.range 32).map (fun i => 1056 + 32 * i) ++ (List.range 64).map (fun i => 2112 + 64 * i)

/-- The largest size below K+ (R220). -/
def turboBelow (k : Nat) : Nat := (turboSizes.filter fun x => decide (x < k)).getLastD 0

/-- Segmentation of B bits, block CRC included: C, K+, C−, F. [log 114] -/
def turboSegment (b : Nat) : Nat × Nat × Nat × Nat :=
  let c := if b ≤ 6144 then 1 else cdiv b (6144 - 24)
  let b' := if c = 1 then b else b + c * 24
  let kp := (turboSizes.find? fun k => decide (c * k ≥ b')).getD 6144
  let km := turboBelow kp
  let cm := if c = 1 then 0 else (c * kp - b') / (kp - km)
  (c, kp, cm, (c - cm) * kp + cm * km - b')

/-- Size of code block r. -/
def turboK (kp cm r : Nat) : Nat := if r < cm then turboBelow kp else kp

/-- The values segment some transport block (R220). -/
def turboFits (c kp cm f : Nat) : Bool :=
  turboSizes.contains kp && decide (cm < c) &&
    (let total := (c - cm) * kp + cm * turboBelow kp
     decide (f ≤ total) && decide (total - f ≥ 24 * c) &&
       turboSegment (total - f - if c = 1 then 0 else 24 * c) == (c, kp, cm, f))

/-- Reversal of five bits: the column permutation of TS 36.212 Table 5.1.4-1. -/
def rev5 (c : Nat) : Nat := joinLanes 1 (bitsMsb 5 c)

/-- What position p of the circular buffer w holds: the stream d0, d1 or d2 and its index; none for NULL. [log 114] -/
def turboPos (k fill p : Nat) : Option (Nat × Nat) :=
  let d := k + 4
  let rows := cdiv d 32
  let kpi := 32 * rows
  let nulls := kpi - d
  let at_ (i y : Nat) : Option (Nat × Nat) :=
    if y < nulls then none else if i < 2 ∧ y - nulls < fill then none else some (i, y - nulls)
  let v (i q : Nat) : Option (Nat × Nat) :=
    let y := rev5 (q / rows) + 32 * (q % rows)
    at_ i (if i = 2 then (y + 1) % kpi else y)
  if p < kpi then v 0 p else if (p - kpi) % 2 = 0 then v 1 ((p - kpi) / 2) else v 2 ((p - kpi) / 2)

/-- Size of the circular buffer of a block of K bits. -/
def turboKw (k : Nat) : Nat := 96 * cdiv (k + 4) 32

/-! ## Rate matching -/

/-- One code block's bits in a codeword: positions of its circular buffer in the order sent, the buffer's length, and
end as R227 defines it. -/
structure CbMap where
  sel : List Nat
  ncb : Nat
  stop : Nat
  deriving DecidableEq, Repr

/-- E_r of code block r of a codeword. -/
def cbBits (g ctot nlqm r : Nat) : Nat :=
  let g' := g / nlqm
  if r < ctot - g' % ctot then nlqm * (g' / ctot) else nlqm * cdiv g' ctot

/-- Positions that hold a bit, from k0 round the buffer, and how many of them lie from k0 to its end. -/
def ringFrom (held : List Nat) (k0 : Nat) : List Nat × Nat :=
  let hi := held.filter fun p => decide (k0 ≤ p)
  (hi ++ held.filter fun p => decide (p < k0), hi.length)

def cbMap (held : List Nat) (k0 ncb e : Nat) (order : Nat → Nat) : CbMap :=
  let r := ringFrom held k0
  let sel := (List.range e).map fun t => r.1.getD (order t % max 1 r.1.length) 0
  ⟨sel, ncb, if e > r.2 then ncb else (sel.map (· + 1)).foldl max 0⟩

/-- Start of redundancy version rv (TS 38.212 Table 5.4.2.1-2). [log 114] -/
def ldpcK0 (bg2 : Bool) (z ncb rv : Nat) : Nat :=
  let x := (if bg2 then [0, 13, 25, 43] else [0, 17, 33, 56]).getD rv 0
  x * ncb / ((if bg2 then 50 else 66) * z) * z

/-- Bit selection and interleaving of an LDPC code block. -/
def ldpcMap (bg2 : Bool) (z k' ncb rv qm e : Nat) : CbMap :=
  let k := kCols bg2 * z
  let held := (List.range ncb).filter fun p => !decide (k' ≤ p + 2 * z ∧ p + 2 * z < k)
  cbMap held (ldpcK0 bg2 z ncb rv) ncb e fun t => t % qm * (e / qm) + t / qm

/-- Bit selection of a turbo code block. -/
def turboMap (k fill ncb rv e : Nat) : CbMap :=
  let rows := cdiv (k + 4) 32
  let held := (List.range ncb).filter fun p => (turboPos k fill p).isSome
  cbMap held (rows * (2 * cdiv ncb (8 * rows) * rv + 2)) ncb e fun t => t

/-! ## Polar -/

/-- Least n with 2^n ≥ x. -/
def clog2 (x : Nat) : Nat := if x ≤ 1 then 0 else Nat.log2 (x - 1) + 1

/-- N of a segment of K bits, CRC included, sent in E bits (TS 38.212 clause 5.3.1). [log 114] -/
def polarN (k e nmax : Nat) : Nat :=
  let m := clog2 e
  let n1 := if 8 * e ≤ 9 * 2 ^ (m - 1) ∧ 16 * k < 9 * e then m - 1 else m
  2 ^ max 5 (min n1 (min (clog2 (8 * k)) nmax))

end Sys2Proof.Machine
end

