-- ==== Sys2Proof/Machine/Ldpc.lean ====
section
/-! DEFINITION. The LDPC codes of R207 to R213: base graphs, encoding, and layered offset min-sum decoding. The tables of
TS 38.212 that the rules name but do not hold are values of `Config.unit`. -/

namespace Sys2Proof.Machine

/-- Unit of `Config.unit` that holds the base graphs. -/
abbrev uGraph : Nat := 31

/-! ## Base graphs -/

/-- Set of a lifting size a × 2^j: the place of a in the list of R207. -/
def liftingSet (z : Nat) : Nat :=
  ([2, 3, 5, 7, 9, 11, 13, 15].findIdx fun a => (List.range 8).any fun j => a * 2 ^ j == z)

/-- Weights of rows 0 to 3 (R212). -/
def coreWeight (bg2 : Bool) (l : Nat) : Nat := if bg2 then [8, 10, 8, 10].getD l 0 else 19

/-- Columns of row `l`: of the information and core parity columns those its table names, and from row 4 on its own parity
column. [log 66] -/
def baseColumns (bg2 : Bool) (l : Nat) : List Nat :=
  let mask := Config.unit uGraph [bitNat bg2, l]
  let cols := (List.range (kCols bg2 + 4)).filter fun c => mask / 2 ^ c % 2 == 1
  if 4 ≤ l then cols ++ [kCols bg2 + l]
  else if cols.length = coreWeight bg2 l then cols else List.range (coreWeight bg2 l)

/-- Shift of an entry at lifting size `z`. -/
def baseShift (bg2 : Bool) (z l c : Nat) : Nat :=
  if kCols bg2 + 4 ≤ c then 0 else Config.unit uGraph [bitNat bg2, liftingSet z, l, c] % z

/-- The variables of check `i` of row `l`. -/
def checkVars (bg2 : Bool) (z l i : Nat) : List Nat :=
  (baseColumns bg2 l).map fun c => c * z + (i + baseShift bg2 z l c) % z

/-- Weight of row l of a base graph (R212). [log 66] -/
def rowWeight (bg2 : Bool) (l : Nat) : Nat := (baseColumns bg2 l).length

/-- The parity of a check over a word of bits. -/
def checkSum (bits : Array Nat) (vars : List Nat) : Nat := vars.foldl (fun x v => (x + bits.getD v 0) % 2) 0

/-- Checks of the first `m` rows that a word does not satisfy. -/
def unsatisfied (bg2 : Bool) (z m : Nat) (bits : Array Nat) : Nat :=
  sumOf (List.range m) fun l => (List.range z).countP fun i => checkSum bits (checkVars bg2 z l i) == 1

/-! ## Encoding -/

/-- Gauss–Jordan elimination over GF(2): each row holds a mask of unknowns and, at bit `n`, its right side. Column `k` is
cleared in every row but one, which goes to the solved rows. -/
def gf2Step (k : Nat) (st : List (Nat × Nat) × List Nat) : List (Nat × Nat) × List Nat :=
  let clear (p x : Nat) : Nat := if x / 2 ^ k % 2 = 1 then Nat.xor x p else x
  match st.2.find? fun x => x / 2 ^ k % 2 == 1 with
  | none => st
  | some p => ((k, p) :: st.1.map fun y => (y.1, clear p y.2), (st.2.erase p).map (clear p))

/-- The solution of `n` equations in `n` unknowns over GF(2), an unknown that is not determined being 0. -/
def gf2Solve (n : Nat) (rows : List Nat) : Nat :=
  let solved := ((List.range n).foldl (fun st k => gf2Step k st) ([], rows)).1
  sumOf solved fun y => y.2 / 2 ^ n % 2 * 2 ^ y.1

/-- The codeword of K information bits over every row of its base graph: the core parity makes rows 0 to 3 hold, each later
row gives its own parity (R213). [log 66] -/
def ldpcCodeword (bg2 : Bool) (z : Nat) (info : List Nat) : List Nat :=
  let k := kCols bg2 * z
  let bits := info.toArray
  let rows := (List.range 4).flatMap fun l => (List.range z).map fun i =>
    let vars := checkVars bg2 z l i
    let mask := (vars.filter (k ≤ ·)).foldl (fun m v => Nat.xor m (2 ^ (v - k))) 0
    mask + 2 ^ (4 * z) * checkSum bits (vars.filter (· < k))
  let core := info ++ bitList (4 * z) (gf2Solve (4 * z) rows)
  let held := core.toArray
  core ++ (List.range (rowLimit bg2 - 4)).flatMap fun l =>
    (List.range z).map fun i => checkSum held ((checkVars bg2 z (l + 4) i).filter (· < k + 4 * z))

/-- One LDPC code block's stream (R213): codeword bits 2Z to (k_b + m) × Z − 1, fillers as 0. [log 66] -/
def ldpcStream (bg2 : Bool) (z m : Nat) (info : List Nat) : List Nat :=
  let k := kCols bg2 * z
  ((ldpcCodeword bg2 z (info ++ List.replicate (k - info.length) 0)).drop (2 * z)).take ((kCols bg2 - 2 + m) * z)

/-! ## Decoding (R207, R208) -/

/-- What a decoder holds: posterior LLRs by variable, check-to-variable messages by check, and clamps counted. -/
structure MinSum where
  post : Array Int
  msgs : Array (List Int)
  clamps : Nat
  deriving DecidableEq, Repr

/-- A value clamped to ±`top`, and whether it was. -/
def clampTo (top x : Int) : Int × Nat := if x > top then (top, 1) else if x < -top then (-top, 1) else (x, 0)

/-- Offset min-sum at one check: each message is the product of the other signs times the least other magnitude less β, in 8
bits. -/
def checkMessages (beta : Nat) (qs : List Int) : List (Int × Nat) :=
  (List.range qs.length).map fun i =>
    let others := qs.eraseIdx i
    let neg := others.countP fun q => decide (q < 0)
    let mag := max 0 (least (others.map fun q => (q.natAbs : Int)) - beta)
    clampTo 127 (if neg % 2 = 1 then -mag else mag)

/-- A decoder's parameters. -/
structure LdpcParams where
  bg2 : Bool
  z : Nat
  m : Nat
  k' : Nat
  beta : Nat
  deriving DecidableEq, Repr

def LdpcParams.columns (d : LdpcParams) : Nat := kCols d.bg2 + d.m

/-- A filler position: a bit known to be 0. -/
def LdpcParams.known (d : LdpcParams) (v : Nat) : Bool := decide (d.k' ≤ v ∧ v < kCols d.bg2 * d.z)

/-- One check of a row: the posteriors of its variables, 10 bits wide, take the new messages in place of the old ones. -/
def MinSum.check (d : LdpcParams) (l : Nat) (x : MinSum) (i : Nat) : MinSum :=
  let vars := checkVars d.bg2 d.z l i
  let old := x.msgs.getD (l * d.z + i) []
  let qs := (List.range vars.length).map fun n => x.post.getD (vars.getD n 0) 0 - old.getD n 0
  let new := checkMessages d.beta qs
  let post := (List.range vars.length).foldl (fun (acc : Array Int × Nat) n =>
    let v := vars.getD n 0
    if d.known v then acc
    else
      let y := clampTo 511 (qs.getD n 0 + (new.getD n (0, 0)).1)
      (acc.1.setIfInBounds v y.1, acc.2 + y.2)) (x.post, 0)
  ⟨post.1, x.msgs.setIfInBounds (l * d.z + i) (new.map Prod.fst), x.clamps + sumOf new Prod.snd + post.2⟩

/-- One iteration: rows 0 to m − 1 in order. -/
def MinSum.iterate (d : LdpcParams) (x : MinSum) : MinSum :=
  (List.range d.m).foldl (fun x l => (List.range d.z).foldl (MinSum.check d l) x) x

/-- The start: columns 0 and 1 at 0, the LLRs read from column 2 on, and the largest LLR for the bits known to be 0. -/
def MinSum.init (d : LdpcParams) (llrs : List Int) : MinSum :=
  let xs := llrs.toArray
  ⟨((List.range (d.columns * d.z)).map fun v =>
      if d.known v then 511 else if v < 2 * d.z then 0 else xs.getD (v - 2 * d.z) 0).toArray,
    Array.replicate (d.m * d.z) [], 0⟩

/-- Hard decisions: a negative LLR decides 1 (R203). -/
def MinSum.hard (x : MinSum) : Array Nat := x.post.map fun l => bitNat (decide (l < 0))

/-- The iterations run and the state after them: the first after which `stop` holds, else `fuel` of them. -/
def MinSum.run (d : LdpcParams) (stop : Array Nat → Bool) : Nat → Nat → MinSum → Nat × MinSum
  | 0, n, x => (n, x)
  | fuel + 1, n, x =>
    let y := x.iterate d
    if stop y.hard then (n + 1, y) else MinSum.run d stop fuel (n + 1) y

end Sys2Proof.Machine
end

