-- ==== Sys2Proof/Machine/Polar.lean ====
section
/-! DEFINITION. The polar codes of R216: construction, interleaving, transform and rate matching of TS 38.212 clauses 5.3.1 and
5.4.1. The tables that the rules name but do not hold are values of `Config.unit`. -/

namespace Sys2Proof.Machine

/-- Units of `Config.unit`. -/
abbrev uPlrEnc : Nat := 34
abbrev uPlrDec : Nat := 35

/-- Order of K bits behind the CRC interleaver, from its table of 164. [log 66, 114] -/
def crcInterleave (k : Nat) : List Nat :=
  ((List.range 164).map fun m => Config.unit uPlrEnc [1, m] % 164).filterMap fun x => if 164 - k ≤ x then some (x - (164 - k)) else none

/-- Bit indices below N from the least reliable up, from the table of 1,024. [log 66, 114] -/
def reliability (n : Nat) : List Nat := ((List.range 1024).map fun i => Config.unit uPlrEnc [2, i] % 1024).filter (· < n)

/-- The sub-block interleaver. [log 114] -/
def subBlock (n i : Nat) : Nat :=
  [0, 1, 2, 4, 3, 5, 6, 7, 8, 16, 9, 17, 10, 18, 11, 19, 12, 20, 13, 21, 14, 22, 15, 23, 24, 25, 26, 28, 27, 29, 30, 31].getD
    (32 * i / n) 0 * (n / 32) + i % (n / 32)

/-- Rate matching of K bits in N to E: repetition, puncturing of the first, or shortening of the last. -/
inductive PolarMatch where
  | repeats
  | punctures
  | shortens
  deriving DecidableEq, Repr

def polarMatch (k n e : Nat) : PolarMatch :=
  if n ≤ e then .repeats else if 16 * k ≤ 7 * e then .punctures else .shortens

/-- Indices that rate matching freezes (TS 38.212 clause 5.4.1.1). [log 114] -/
def polarFrozen (k n e : Nat) : List Nat :=
  match polarMatch k n e with
  | .repeats => []
  | .punctures =>
    (List.range (n - e)).map (subBlock n) ++
      List.range (if 4 * e ≥ 3 * n then cdiv (3 * n - 2 * e) 4 else cdiv (9 * n - 4 * e) 16)
  | .shortens => (List.range (n - e)).map fun i => subBlock n (e + i)

/-- The K information indices: the most reliable that are not frozen, in increasing order. -/
def polarInfo (k n e : Nat) : List Nat :=
  let frozen := polarFrozen k n e
  let held := (reliability n).filter fun i => !frozen.contains i
  let chosen := held.drop (held.length - k)
  (List.range n).filter chosen.contains

/-- The transform: bit `i` is the sum of the inputs whose index has every bit of `i`. -/
def polarTransform (n : Nat) (u : List Nat) : List Nat :=
  let a := u.toArray
  (List.range n).map fun i => (List.range n).foldl (fun x j => if Nat.land i j = i then (x + a.getD j 0) % 2 else x) 0

/-- K bits as E coded bits. -/
def polarEncode (k n e : Nat) (bits : List Nat) : List Nat :=
  let info := polarInfo k n e
  let u := (List.range n).map fun i => match info.idxOf? i with
    | some x => bits.getD x 0
    | none => 0
  let d := (polarTransform n u).toArray
  let y (i : Nat) : Nat := d.getD (subBlock n i) 0
  match polarMatch k n e with
  | .repeats => (List.range e).map fun i => y (i % n)
  | .punctures => (List.range e).map fun i => y (i + n - e)
  | .shortens => (List.range e).map y

/-- CRC24C behind a payload, its last 16 bits added to the RNTI where the mask is enabled. Whether ones are put before the
payload for the CRC, as the downlink control channels do, is open. [log 114] -/
def polarAttach (mask : Bool) (rnti : Nat) (payload : List Nat) : List Nat :=
  let crc := bitsMsb 24 (payload.foldl (crcBit 2) (if Config.unit uPlrEnc [0] % 2 = 1 then crcBits 2 (List.replicate 24 1) else 0))
  let masked := List.zipWith (fun a b => (a + b) % 2) (crc.drop 8) (bitsMsb 16 rnti)
  payload ++ crc.take 8 ++ if mask then masked else crc.drop 8

/-- The E bits of a downlink payload (R216). -/
def polarCode (mask : Bool) (rnti n e : Nat) (payload : List Nat) : List Nat :=
  let c := polarAttach mask rnti payload
  let order := crcInterleave c.length
  polarEncode c.length n e ((List.range c.length).map fun i => c.getD (order.getD i 0) 0)

/-- What a decoder of a list of 8 decides for one segment's K bits: open, the same for the same LLRs. [log 6, 66] -/
def polarDecide (k n a : Nat) (llrs : List Int) : List Nat :=
  bitList k (Config.unit uPlrDec (k :: n :: a :: llrs.map (wrap 8)))

end Sys2Proof.Machine
end

