-- ==== Sys2Proof/Machine/Turbo.lean ====
section
/-! DEFINITION. The LTE turbo code of R213 and R219: its constituent code, interleaver, encoding and max-log-MAP decoding. The
interleaver table of TS 36.212, which the rules name but do not hold, is a value of `Config.unit`. -/

namespace Sys2Proof.Machine

/-- Units of `Config.unit`. -/
abbrev uInterleaver : Nat := 33
abbrev uTrb : Nat := 36

/-! ## Constituent code: states are s1 + 2 · s2 + 4 · s3, the delays of D, D² and D³ -/

/-- The feedback sum s2 + s3 of 1 + D² + D³. -/
def trellisBack (st : Nat) : Nat := (st / 2 + st / 4) % 2

/-- Next state and parity of 1 + D + D³ over 1 + D² + D³ for an input bit. [log 114] -/
def trellisStep (st u : Nat) : Nat × Nat :=
  let a := (u + trellisBack st) % 2
  (a + 2 * (st % 4), (a + st + st / 4) % 2)

/-- Parities of a block from state 0, and its last state. -/
def trellisRun (us : List Nat) : List Nat × Nat :=
  let r := us.foldl (fun (acc : List Nat × Nat) u =>
    let x := trellisStep acc.2 u
    (x.2 :: acc.1, x.1)) ([], 0)
  (r.1.reverse, r.2)

/-- Termination from a state: three input bits that bring it to 0, and their parities. -/
def trellisTail : Nat → Nat → List (Nat × Nat)
  | 0, _ => []
  | n + 1, st =>
    let x := trellisStep st (trellisBack st)
    (trellisBack st, x.2) :: trellisTail n x.1

/-- The interleaver's place of bit `i` in a block of `k` bits: (f1 · i + f2 · i²) mod K. [log 66, 114] -/
def interleave (k i : Nat) : Nat := (Config.unit uInterleaver [k, 1] * i + Config.unit uInterleaver [k, 2] * i * i) % k

/-- Where the tail bits of a stream of `k` bits lie (TS 36.212 clause 5.1.3.2.2): for each coder the stream and offset of its
three input bits, then of its three parities. [log 114] -/
def tailPlaces (second : Bool) : List (Nat × Nat) × List (Nat × Nat) :=
  if second then ([(0, 2), (2, 2), (1, 3)], [(1, 2), (0, 3), (2, 3)]) else ([(0, 0), (2, 0), (1, 1)], [(1, 0), (0, 1), (2, 1)])

/-- One turbo code block's stream (R213): d0, d1 and d2 with the trellis termination; fillers of d0 and d1 are 0. [log 66] -/
def turboStream (k fill : Nat) (c : List Nat) : List Nat :=
  let one := trellisRun c
  let two := trellisRun ((List.range k).map fun i => c.getD (interleave k i) 0)
  let t1 := trellisTail 3 one.2
  let t2 := trellisTail 3 two.2
  let tail (d o : Nat) : Nat :=
    let find (second : Bool) (t : List (Nat × Nat)) : List Nat :=
      let p := tailPlaces second
      (List.range 3).filterMap fun i =>
        if p.1.getD i (9, 9) = (d, o) then some (t.getD i (0, 0)).1 else if p.2.getD i (9, 9) = (d, o) then some (t.getD i (0, 0)).2 else none
    (find false t1 ++ find true t2).headD 0
  let tails (d : Nat) : List Nat := (List.range 4).map (tail d)
  c ++ tails 0 ++ (List.replicate fill 0 ++ one.1.drop fill) ++ tails 1 ++ two.1 ++ tails 2

/-! ## Decoding (R219) -/

/-- A metric no path has. -/
def noPath : Int := -(2 ^ 40)

def best (xs : List Int) : Int := xs.foldl max noPath

/-- The metric of a branch: an LLR counts for the bit 0. -/
def branch (sys par : Int) (u z : Nat) : Int := (if u = 0 then sys else 0) + (if z = 0 then par else 0)

/-- Forward metrics of the eight states after one step. -/
def forwardStep (alpha : List Int) (sys par : Int) : List Int :=
  (List.range 8).map fun to_ => best ((List.range 8).flatMap fun st => [0, 1].filterMap fun u =>
    let x := trellisStep st u
    if x.1 = to_ then some (alpha.getD st noPath + branch sys par u x.2) else none)

/-- Backward metrics of the eight states before one step. -/
def backwardStep (beta : List Int) (sys par : Int) : List Int :=
  (List.range 8).map fun st => best ([0, 1].map fun u =>
    let x := trellisStep st u
    beta.getD x.1 noPath + branch sys par u x.2)

/-- All metrics of a recursion, the start first. -/
def scan (f : List Int → Int × Int → List Int) (x : List Int) : List (Int × Int) → List (List Int)
  | [] => [x]
  | y :: ys => x :: scan f (f x y) ys

def startMetrics : List Int := 0 :: List.replicate 7 noPath

/-- Max-log-MAP over a terminated trellis: the a-posteriori LLR of each of the first `k` bits. -/
def maxLogMap (k : Nat) (steps : List (Int × Int)) : List Int :=
  let alphas := (scan (fun a y => forwardStep a y.1 y.2) startMetrics steps).toArray
  let betas := (scan (fun b y => backwardStep b y.1 y.2) startMetrics steps.reverse).reverse.toArray
  let inputs := steps.toArray
  (List.range k).map fun i =>
    let y := inputs.getD i (0, 0)
    let top (u : Nat) : Int := best ((List.range 8).map fun st =>
      let x := trellisStep st u
      (alphas.getD i []).getD st noPath + branch y.1 y.2 u x.2 + (betas.getD (i + 1) []).getD x.1 noPath)
    top 0 - top 1

/-- An extrinsic value scaled by scale / 8 and saturated to ±127 (R203, R219), and whether it clamped; how it rounds is open. -/
def extrinsic (scale : Nat) (e : Int) : Int × Bool :=
  llr127 (e * scale / 8 + if e * scale % 8 = 0 then 0 else ((Config.unit uTrb [scale, wrap 64 e] % 2 : Nat) : Int))

/-- The LLR of a bit that is known to be 0. -/
def knownZero : Int := 2 ^ 20

/-- A decoder's inputs: the block's size, its fillers, scale, and d0, d1 and d2. -/
structure TurboParams where
  k : Nat
  fill : Nat
  scale : Nat
  feed : Array Int
  deriving DecidableEq, Repr

/-- LLR `i` of stream `d`; the fillers of d0 and d1 are known. -/
def TurboParams.llr (t : TurboParams) (d i : Nat) : Int :=
  if d < 2 ∧ i < t.fill then knownZero else t.feed.getD (d * (t.k + 4) + i) 0

/-- One half-iteration: a-priori LLRs in the constituent's order, to a-posteriori ones and scaled extrinsics with their clamps. -/
def TurboParams.half (t : TurboParams) (second : Bool) (apriori : List Int) : List Int × List (Int × Bool) :=
  let place (i : Nat) : Nat := if second then interleave t.k i else i
  let sys := (List.range t.k).map fun i => t.llr 0 (place i) + apriori.getD i 0
  let p := tailPlaces second
  let tail := (List.range 3).map fun i =>
    let x := p.1.getD i (0, 0)
    let z := p.2.getD i (0, 0)
    (t.llr x.1 (t.k + x.2), t.llr z.1 (t.k + z.2))
  let steps := ((List.range t.k).map fun i => (sys.getD i 0, t.llr (if second then 2 else 1) i)) ++ tail
  let app := maxLogMap t.k steps
  (app, List.zipWith (fun a s => extrinsic t.scale (a - s)) app sys)

/-- What passes from one iteration to the next: a-priori LLRs of the first constituent, hard decisions, and clamps. -/
structure TurboState where
  apriori : List Int
  bits : List Nat
  clamps : Nat
  deriving DecidableEq, Repr

/-- One iteration is two half-iterations. -/
def TurboParams.iterate (t : TurboParams) (x : TurboState) : TurboState :=
  let one := t.half false x.apriori
  let e1 := (one.2.map Prod.fst).toArray
  let two := t.half true ((List.range t.k).map fun i => e1.getD (interleave t.k i) 0)
  let back (xs : List Int) : List Int :=
    ((List.range t.k).foldl (fun (acc : Array Int) i => acc.setIfInBounds (interleave t.k i) (xs.getD i 0)) (Array.replicate t.k 0)).toList
  ⟨back (two.2.map Prod.fst), (back two.1).map fun l => bitNat (decide (l < 0)),
    x.clamps + (one.2.countP Prod.snd) + (two.2.countP Prod.snd)⟩

/-- The iterations run and the state after them: the first after which `stop` holds, else `fuel` of them. -/
def TurboParams.run (t : TurboParams) (stop : List Nat → Bool) : Nat → Nat → TurboState → Nat × TurboState
  | 0, n, x => (n, x)
  | fuel + 1, n, x =>
    let y := t.iterate x
    if stop y.bits then (n + 1, y) else t.run stop fuel (n + 1) y

end Sys2Proof.Machine
end

