-- ==== Sys2Proof/Machine/CodingEngines.lean ====
section
/-! DEFINITION. The coding engines: MRT_LDD (R207 to R212), MRT_LDE (R213 to R215), MRT_PLR (R216 to R218), MRT_TRB
(R219 to R221) and MRT_HQ (R222 to R232). The same inputs give the same outputs (R205). -/

namespace Sys2Proof.Machine

/-- An LLR byte as read: −128 is −127 (R203). -/
def llrOf (b : Byte) : Int := max (-127) b.toInt

/-- A decoded code block: hard bits kept, iterations, whether its checks passed, and the unsatisfied parity checks. -/
structure Decoded where
  bits : List Nat
  iters : Nat
  unsat : Nat
  syndrome : Bool
  crcOk : Bool
  checked : Bool
  sat : Nat
  deriving DecidableEq, Repr

/-- The record of R211. -/
def cbRecord (d : Decoded) : List Byte :=
  toBytes 8 (min d.unsat 65535 * 2 ^ 48 + bitNat d.syndrome * 2 ^ 15 + bitNat d.crcOk * 2 ^ 14 + bitNat d.checked * 2 ^ 13 + d.iters)

/-- A code block counts as failed (R234, R235). -/
def Decoded.failed (d : Decoded) (crc0 : Bool) : Bool := (d.checked && !d.crcOk) || (crc0 && !d.syndrome)

/-- Soft-buffer streams: each header, then the positions below its span; the rest are 0 (R210, R227). -/
def Job.readSoft (j : Job) (word n : Nat) : List Nat → State → Except Nat (List (List Byte)) × State
  | [], s => (.ok [], s)
  | i :: r, s =>
    match s.memRead j.agent (j.stream word i) 64 with
    | (.error _, t) => (.error (s.firstBad j.agent (j.stream word i) 64), t)
    | (.ok h, s) =>
      let span := min n (bitsOf (wordAt h 0) 31 0)
      match s.memRead j.agent (j.stream word i + 64) span with
      | (.error _, t) => (.error (s.firstBad j.agent (j.stream word i + 64) span), t)
      | (.ok bs, s) => match j.readSoft word n r s with
        | (.ok rest, s) => (.ok ((bs ++ List.replicate (n - span) 0) :: rest), s)
        | (.error a, s) => (.error a, s)

/-! ## LDPC decoder -/

structure Ldd where
  crc : Nat
  bg2 : Bool
  stop : Bool
  tb : Bool
  tbCrc : Bool
  z : Nat
  maxIter : Nat
  k' : Nat
  beta : Nat
  m : Nat
  c : Nat
  deriving DecidableEq, Repr

def lddOf (j : Job) : Ldd :=
  ⟨j.f 0 23 22, bitOf (j.w 0) 21, bitOf (j.w 0) 20, bitOf (j.w 0) 19, bitOf (j.w 0) 18, j.f 0 16 8, j.f 0 5 0, j.f 1 46 32,
    j.f 1 27 24, j.f 1 21 16, j.f 1 7 0 + 1⟩

/-- Positions a decoder reads. -/
def Ldd.positions (d : Ldd) : Nat := (kCols d.bg2 - 2 + d.m) * d.z

/-- Bits each code block puts out (R209). -/
def Ldd.outBits (d : Ldd) : Nat := if d.crc = 1 then d.k' - 24 else d.k'

/-- R210. [log 67] -/
def lddPlan (j : Job) : Plan :=
  let d := lddOf j
  ⟨clearOutside (j.w 0) [(47, 18), (16, 8), (5, 0)] && clearOutside (j.w 1) [(46, 32), (27, 24), (21, 16), (7, 0)] &&
      decide (1 ≤ d.maxIter ∧ d.maxIter ≤ 32 ∧ d.beta ≤ 7 ∧ 4 ≤ d.m ∧ d.m ≤ rowLimit d.bg2 ∧ 1 ≤ d.k') &&
      brefClean (j.w 2) && brefClean (j.w 3) && brefClean (j.w 4) && j.w 5 == 0 && j.w 6 == 0,
    [⟨2, d.c, 64 + d.positions⟩, ⟨3, 1, cdiv (d.c * d.outBits) 8⟩, ⟨4, 1, 8 * d.c⟩],
    d.z != 0 && d.z == liftingFor d.bg2 d.k' && (decide (d.crc < 2) || d.c == 1) && (d.crc != 1 || decide (24 < d.k')) &&
      (d.crc != 1 || !d.tb || blocksOk d.bg2 d.c d.k')⟩

/-- One code block (R207 to R209, R211): iterations run until the stop condition holds or max_iter; the final decisions give
the record. [log 66] -/
def lddBlock (d : Ldd) (soft : List Byte) : Decoded :=
  let p : LdpcParams := ⟨d.bg2, d.z, d.m, d.k', d.beta⟩
  let poly := if d.crc = 1 then 1 else if d.crc = 2 then 0 else 3
  let checked := d.crc != 0
  let passes (bits : Array Nat) : Bool := crcBits poly (bits.toList.take d.k') == 0
  let stop (bits : Array Nat) : Bool := unsatisfied d.bg2 d.z d.m bits == 0 && (!d.stop || !checked || passes bits)
  let r := MinSum.run p stop d.maxIter 0 (MinSum.init p (soft.map llrOf))
  let bits := r.2.hard
  let unsat := unsatisfied d.bg2 d.z d.m bits
  ⟨(bits.toList.take d.k').take d.outBits, r.1, unsat, unsat == 0, checked && passes bits, checked, r.2.clamps⟩

/-- Cycles of R212. -/
def lddCycles (d : Ldd) (blocks : List Decoded) : Nat :=
  let row := (List.range d.m).foldl (fun t l => t + rowWeight d.bg2 l + 4) 0
  sumOf blocks (fun b => b.iters * row + cdiv d.positions 32 + 4) + 96

/-- Outputs, status word and counters of a decoding job. -/
def decodeEnd (j : Job) (blocks : List Decoded) (crc0 tbChecked tbOk : Bool) (maxIter cycles : Nat) (counters : List Nat) : JobEnd :=
  let iters := sumOf blocks Decoded.iters
  let fails := sumOf blocks fun b => bitNat (b.failed crc0)
  let maxed := sumOf blocks fun b => bitNat (b.iters == maxIter)
  .done (sumOf blocks Decoded.sat) cycles
    (iters % 2 ^ 16 * 2 ^ 32 + fails % 2 ^ 16 * 2 ^ 16 + bitNat tbChecked * 2 + bitNat (tbChecked && tbOk))
    [(j.stream 3 0, bytesOfBits (blocks.flatMap Decoded.bits)), (j.stream 4 0, (blocks.map cbRecord).flatten)]
    (counters.zip [blocks.length, fails, iters, maxed])

def lddWork (j : Job) (s : State) : JobEnd × State :=
  let d := lddOf j
  match j.readSoft 2 d.positions (List.range d.c) s with
  | (.error a, s) => (.bad .inputError 0x02 a, s)
  | (.ok soft, s) =>
    let blocks := soft.map (lddBlock d)
    let whole := blocks.flatMap Decoded.bits
    let tbChecked := d.crc ≥ 2 || (d.crc == 1 && d.tb)
    let tbOk := if d.crc = 1 then crcBits (if d.tbCrc then 3 else 0) whole == 0 else blocks.all Decoded.crcOk
    (decodeEnd j blocks (d.crc == 0) tbChecked tbOk d.maxIter (lddCycles d blocks)
      [MRT_LDD_CB_CNT j.e, MRT_LDD_CB_FAIL_CNT j.e, MRT_LDD_ITER_CNT j.e, MRT_LDD_MAXIT_CNT j.e], s)

/-- LDD_DECODE. -/
def execLddDecode (e : Fin 13) (s : State) : Host.Outcome State Fault Refusal :=
  .next (s.after (s.runJob (28 + e.val) 5 1 0 lddPlan lddWork))

/-! ## Encoders -/

/-- R214. [log 67] -/
def ldePlan (j : Job) : Plan :=
  let turbo := j.f 0 31 24 == 1
  let bg2 := bitOf (j.w 0) 21
  let m := j.f 0 5 0
  let a := j.f 1 20 0
  let base := clearOutside (j.w 0) (if turbo then [(47, 24)] else [(47, 24), (21, 21), (5, 0)]) && clearOutside (j.w 1) [(20, 0)] &&
    brefClean (j.w 2) && brefClean (j.w 3) && j.w 4 == 0 && j.w 5 == 0 && j.w 6 == 0
  if turbo then
    let g := turboSegment (a + 24)
    ⟨base && decide (16 ≤ a ∧ a ≤ 391656 ∧ g.1 ≤ 256), [⟨2, 1, cdiv a 8⟩, ⟨3, g.1, cdiv (3 * (g.2.1 + 4)) 8⟩], true⟩
  else
    let g := ldpcSegment bg2 a
    let c := (g.map fun x => x.1).getD 1
    let z := (g.map fun x => x.2.2).getD 2
    ⟨base && decide (24 ≤ a ∧ a ≤ 1277992 ∧ 4 ≤ m ∧ m ≤ rowLimit bg2 ∧ c ≤ 256),
      [⟨2, 1, cdiv a 8⟩, ⟨3, c, cdiv ((kCols bg2 - 2 + m) * z) 8⟩], g.isSome⟩

def ldeLdpcWork (j : Job) (s : State) : JobEnd × State :=
  let bg2 := bitOf (j.w 0) 21
  let m := j.f 0 5 0
  let a := j.f 1 20 0
  j.withInput 2 (cdiv a 8) 1 s fun xs s =>
    match ldpcSegment bg2 a with
    | none => (.bad .descriptor 0x15 j.addr, s)
    | some (c, k', z) =>
      let bits := bitsOfBytes (xs.getD 0 []) a
      let block := bits ++ crcTail (if a > 3824 then 0 else 3) bits
      let per := if c = 1 then k' else k' - 24
      (.done 0 (c * (2 * kCols bg2 + 3 * m + 29) + 64) (c + z * 2 ^ 16 + k' * 2 ^ 32)
        ((List.range c).map fun r =>
          let part := (block.drop (r * per)).take per
          (j.stream 3 r, bytesOfBits (ldpcStream bg2 z m (if c = 1 then part else part ++ crcTail 1 part))))
        [(MRT_LDE_CB_CNT j.e, c)], s)

/-- LDE_LDPC_ENC. -/
def execLdeLdpcEnc (e : Fin 7) (s : State) : Host.Outcome State Fault Refusal :=
  .next (s.after (s.runJob (41 + e.val) 6 2 0 ldePlan ldeLdpcWork))

def ldeTurboWork (j : Job) (s : State) : JobEnd × State :=
  let a := j.f 1 20 0
  j.withInput 2 (cdiv a 8) 1 s fun xs s =>
    let bits := bitsOfBytes (xs.getD 0 []) a
    let (c, kp, cm, f) := turboSegment (a + 24)
    let block := List.replicate f 0 ++ bits ++ crcTail 0 bits
    let crc := if c = 1 then 0 else 24
    let start (r : Nat) : Nat := sumOf (List.range r) fun i => turboK kp cm i - crc
    (.done 0 (sumOf (List.range c) (fun r => cdiv (turboK kp cm r) 40 + 2) + 64) (c + kp * 2 ^ 16 + cm % 128 * 2 ^ 32 + f % 64 * 2 ^ 40)
      ((List.range c).map fun r =>
        let k := turboK kp cm r
        let part := (block.drop (start r)).take (k - crc)
        let coded := if c = 1 then part else part ++ crcTail 1 part
        (j.stream 3 r, bytesOfBits (turboStream k (if r = 0 then f else 0) coded)))
      [(MRT_LDE_CB_CNT j.e, c)], s)

/-- LDE_TURBO_ENC. -/
def execLdeTurboEnc (e : Fin 7) (s : State) : Host.Outcome State Fault Refusal :=
  .next (s.after (s.runJob (41 + e.val) 6 2 1 ldePlan ldeTurboWork))

/-! ## Polar engines -/

/-- Segments of a DECODE, and N of each. -/
def plrShape (decode : Bool) (a e : Nat) : Nat × Nat :=
  let two := decode && (decide (a ≥ 1013) || decide (a ≥ 360 ∧ e ≥ 1088))
  let c := if two then 2 else 1
  let crc := if !decode then 24 else if a ≤ 19 then 6 else 11
  (c, polarN (cdiv a c + crc) (e / c) (if decode then 10 else 9))

/-- R217. [log 67] -/
def plrPlan (j : Job) : Plan :=
  let dec := j.f 0 31 24 == 1
  let e := j.f 1 45 32
  let a := j.f 1 10 0
  let g := plrShape dec a e
  let crc := if !dec then 24 else if a ≤ 19 then 6 else 11
  ⟨clearOutside (j.w 0) (if dec then [(47, 24)] else [(47, 24), (16, 0)]) && clearOutside (j.w 1) [(45, 32), (10, 0)] &&
      decide (1 ≤ e ∧ e ≤ 8192) && (if dec then decide (12 ≤ a ∧ a ≤ 1706) else decide (1 ≤ a ∧ a ≤ 140)) &&
      brefClean (j.w 2) && brefClean (j.w 3) && j.w 4 == 0 && j.w 5 == 0 && j.w 6 == 0,
    if dec then [⟨2, 1, e⟩, ⟨3, 1, cdiv a 8⟩] else [⟨2, 1, cdiv a 8⟩, ⟨3, 1, cdiv e 8⟩],
    decide (cdiv a g.1 + crc ≤ e / g.1) && decide (cdiv a g.1 + crc ≤ g.2)⟩

def plrEncodeWork (j : Job) (s : State) : JobEnd × State :=
  let e := j.f 1 45 32
  let a := j.f 1 10 0
  let n := (plrShape false a e).2
  j.withInput 2 (cdiv a 8) 1 s fun xs s =>
    let bits := polarCode (bitOf (j.w 0) 16) (j.f 0 15 0) n e (bitsOfBytes (xs.getD 0 []) a)
    (.done 0 (n / 8 + cdiv e 64 + 16) (n % 1024 * 2 ^ 32) [(j.stream 3 0, bytesOfBits bits)] [(MRT_PLR_ENC_CNT j.e, 1)], s)

/-- PLR_ENCODE. [log 66] -/
def execPlrEncode (e : Fin 5) (s : State) : Host.Outcome State Fault Refusal :=
  .next (s.after (s.runJob (48 + e.val) 7 2 0 plrPlan plrEncodeWork))

/-- The segments' decided payloads, CRC dropped, and whether each CRC passed; a zero bit pads the first segment of an odd
payload (R216). [log 66, 114] -/
def plrSegments (a e : Nat) (llrs : List Int) : List (List Nat × Bool) :=
  let g := plrShape true a e
  let crc := if a ≤ 19 then 6 else 11
  let k := cdiv a g.1 + crc
  (List.range g.1).map fun i =>
    let bits := polarDecide k g.2 a ((llrs.drop (i * (e / g.1))).take (e / g.1))
    let ok := crcBits (if a ≤ 19 then 5 else 4) bits == 0
    (if i = 0 then (bits.take (k - crc)).drop (g.1 * cdiv a g.1 - a) else bits.take (k - crc), ok)

def plrDecodeWork (j : Job) (s : State) : JobEnd × State :=
  let e := j.f 1 45 32
  let a := j.f 1 10 0
  let g := plrShape true a e
  j.withInput 2 e 1 s fun xs s =>
    let segs := plrSegments a e ((xs.getD 0 []).map llrOf)
    let ok := joinLanes 1 (segs.map fun x => bitNat x.2)
    (.done 0 (g.1 * (3 * g.2 / 2 + cdiv (e / g.1) 64 + 24)) (g.2 % 1024 * 2 ^ 32 + bitNat (g.1 == 2) * 4 + ok)
      [(j.stream 3 0, bytesOfBits (segs.flatMap Prod.fst))]
      [(MRT_PLR_DEC_CNT j.e, g.1), (MRT_PLR_CRC_FAIL_CNT j.e, segs.countP fun x => !x.2)], s)

/-- PLR_DECODE. -/
def execPlrDecode (e : Fin 5) (s : State) : Host.Outcome State Fault Refusal :=
  .next (s.after (s.runJob (48 + e.val) 7 2 1 plrPlan plrDecodeWork))

/-! ## Turbo decoder -/

structure Trb where
  stop : Bool
  tb : Bool
  scale : Nat
  maxIter : Nat
  kp : Nat
  cm : Nat
  f : Nat
  c : Nat
  deriving DecidableEq, Repr

def trbOf (j : Job) : Trb :=
  ⟨bitOf (j.w 0) 20, bitOf (j.w 0) 19, j.f 0 12 8, j.f 0 4 0, j.f 1 47 32, j.f 1 31 25, j.f 1 24 16, j.f 1 7 0 + 1⟩

def Trb.k (d : Trb) (r : Nat) : Nat := turboK d.kp d.cm r

/-- Bits that code block r puts out: its CRC24B and the filler dropped. -/
def Trb.outBits (d : Trb) (r : Nat) : Nat := d.k r - (if d.c = 1 then 0 else 24) - if r = 0 then d.f else 0

/-- R220. [log 67] -/
def trbPlan (j : Job) : Plan :=
  let d := trbOf j
  ⟨clearOutside (j.w 0) [(47, 24), (20, 19), (12, 8), (4, 0)] && clearOutside (j.w 1) [(47, 16), (7, 0)] &&
      (d.scale == 0 || decide (4 ≤ d.scale ∧ d.scale ≤ 8)) && decide (1 ≤ d.maxIter ∧ d.maxIter ≤ 16) &&
      brefClean (j.w 2) && brefClean (j.w 3) && brefClean (j.w 4) && j.w 5 == 0 && j.w 6 == 0,
    [⟨2, d.c, 64 + 3 * (d.kp + 4)⟩, ⟨3, 1, cdiv (sumOf (List.range d.c) d.outBits) 8⟩, ⟨4, 1, 8 * d.c⟩],
    turboFits d.c d.kp d.cm d.f⟩

/-- One turbo code block: iterations run until its CRC passes, where it may stop, or max_iter. [log 66] -/
def trbBlock (d : Trb) (r : Nat) (feed : List Byte) : Decoded :=
  let k := d.k r
  let fill := if r = 0 then d.f else 0
  let p : TurboParams := ⟨k, fill, if d.scale = 0 then 6 else d.scale, ((feed.take (3 * (k + 4))).map llrOf).toArray⟩
  let passes (bits : List Nat) : Bool := crcBits (if d.c = 1 then 0 else 1) (bits.drop fill) == 0
  let x := p.run (fun bits => d.stop && passes bits) d.maxIter 0 ⟨List.replicate k 0, List.replicate k 0, 0⟩
  ⟨(x.2.bits.drop fill).take (d.outBits r), x.1, 0, false, passes x.2.bits, true, x.2.clamps⟩

def trbWork (j : Job) (s : State) : JobEnd × State :=
  let d := trbOf j
  j.withInput 2 (64 + 3 * (d.kp + 4)) d.c s fun xs s =>
    let blocks := (List.range d.c).map fun r => trbBlock d r ((xs.getD r []).drop 64)
    let tbChecked := d.tb && decide (d.c > 1)
    let n := sumOf (List.range d.c) (fun r =>
      (blocks.getD r ⟨[], 0, 0, false, false, false, 0⟩).iters * (2 * cdiv (d.k r) 32 + 80) + cdiv (3 * (d.k r + 4)) 32 + 16) + 64
    (decodeEnd j blocks false tbChecked (crcBits 0 (blocks.flatMap Decoded.bits) == 0) d.maxIter n
      [MRT_TRB_CB_CNT j.e, MRT_TRB_CB_FAIL_CNT j.e, MRT_TRB_ITER_CNT j.e, MRT_TRB_MAXIT_CNT j.e], s)

/-- TRB_DECODE. -/
def execTrbDecode (e : Fin 5) (s : State) : Host.Outcome State Fault Refusal :=
  .next (s.after (s.runJob (53 + e.val) 8 1 0 trbPlan trbWork))

/-! ## HARQ and rate matching -/

structure Hq where
  turbo : Bool
  drm : Bool
  isNew : Bool
  bg2 : Bool
  scr : Bool
  rv : Nat
  qm : Nat
  nl : Nat
  c : Nat
  tag : Nat
  k : Nat
  g : Nat
  cInit : Nat
  cm : Nat
  zf : Nat
  ncb : Nat
  r0 : Nat
  ctot : Nat
  deriving DecidableEq, Repr

def hqOf (j : Job) : Hq :=
  let op := j.f 0 31 24
  ⟨op % 2 == 1, decide (op ≥ 2), bitOf (j.w 0) 23, bitOf (j.w 0) 21, bitOf (j.w 0) 20, j.f 0 19 18, j.f 0 17 14, j.f 0 13 11 + 1,
    j.f 0 10 3 + 1, j.f 1 63 48, j.f 1 46 32, j.f 1 31 0, j.f 2 62 32, j.f 2 31 25, j.f 2 24 16, j.f 2 15 0, j.f 3 63 56,
    j.f 3 55 48 + 1⟩

/-- K of code block r, in the codeword's numbering. -/
def Hq.kOf (h : Hq) (r : Nat) : Nat := if h.turbo then turboK h.k h.cm r else h.k

/-- N_cb of code block r. -/
def Hq.ncbOf (h : Hq) (r : Nat) : Nat :=
  let full := if h.turbo then turboKw (h.kOf r) else (if h.bg2 then 50 else 66) * h.zf
  if h.ncb = 0 then full else min h.ncb full

/-- E_r of R222. -/
def Hq.bits (h : Hq) (r : Nat) : Nat := cbBits h.g h.ctot (max 1 (h.nl * h.qm)) r

/-- Filler of code block r of a turbo codeword. -/
def Hq.fill (h : Hq) (r : Nat) : Nat := if h.turbo ∧ r = 0 then h.zf else 0

def Hq.map (h : Hq) (r : Nat) : CbMap :=
  if h.turbo then turboMap (h.kOf r) (h.fill r) (h.ncbOf r) h.rv (h.bits r)
  else ldpcMap h.bg2 h.zf h.k (h.ncbOf r) h.rv (max 1 h.qm) (h.bits r)

/-- Code blocks of the job. -/
def Hq.blocks (h : Hq) : List Nat := (List.range h.c).map fun i => h.r0 + i

/-- Bits or LLRs of the job, and the codeword position of its first. -/
def Hq.total (h : Hq) : Nat := sumOf h.blocks h.bits
def Hq.start (h : Hq) : Nat := sumOf (List.range h.r0) h.bits

/-- The widest bank stream of the job. -/
def Hq.bankBytes (h : Hq) : Nat := 64 + ceilTo ((h.blocks.map h.ncbOf).foldl max 0) 64

/-- R223, R224. [log 67] -/
def hqPlan (j : Job) : Plan :=
  let h := hqOf j
  let w0 := if h.drm then (if h.turbo then [(47, 22), (20, 3)] else [(47, 3)])
    else if h.turbo then [(47, 24), (20, 3)] else [(47, 24), (21, 3)]
  let inBytes := if h.drm then h.total else if h.turbo then cdiv (3 * (h.k + 4)) 8 else cdiv (h.ncbOf 0) 8
  let name (w : Nat) : Nat := j.w w % 32
  let banks := if !h.drm then j.w 5 == 0 && j.w 6 == 0
    else brefClean (j.w 5) && brefClean (j.w 6) && (if h.isNew then j.w 5 == 0 else name 4 != name 5)
  let feed := if h.turbo then 64 + 3 * (h.k + 4) else h.bankBytes
  ⟨clearOutside (j.w 0) w0 && !bitOf (j.w 1) 47 && !bitOf (j.w 2) 63 && (h.turbo || h.cm == 0) && !bitOf (j.w 3) 5 &&
      brefClean (j.w 4) && [1, 2, 4, 6, 8, 10].contains h.qm && banks,
    [⟨3, if h.drm then 1 else h.c, inBytes⟩, ⟨4, if h.drm then h.c else 1, if h.drm then h.bankBytes else cdiv h.total 8⟩] ++
      (if h.drm ∧ !h.isNew then [⟨5, h.c, h.bankBytes⟩] else []) ++ (if h.drm ∧ j.w 6 ≠ 0 then [⟨6, h.c, feed⟩] else []),
    decide (h.r0 + h.c ≤ h.ctot) && h.g % (max 1 (h.nl * h.qm)) == 0 &&
      (if h.turbo then turboFits h.ctot h.k h.cm h.zf
       else h.zf != 0 && h.zf == liftingFor h.bg2 h.k && blocksOk h.bg2 h.ctot h.k && decide (1 ≤ h.k) &&
        decide (h.ncb ≤ (if h.bg2 then 50 else 66) * h.zf))⟩

/-- The scrambling bits of the job's place in the codeword, first bit lowest; 0 without scrambling. -/
def Hq.scrambling (h : Hq) : Nat :=
  if h.scr then goldBits h.total (goldAdvance (1600 + h.start) (1, h.cInit)) else 0

/-- The bit of a circular-buffer position in an encoder's stream. [log 68] -/
def Hq.source (h : Hq) (r p : Nat) : Nat :=
  if h.turbo then match turboPos (h.kOf r) (h.fill r) p with
    | some (i, x) => i * (h.kOf r + 4) + x
    | none => 0
  else p

/-- [log 68] -/
def rmWork (j : Job) (s : State) : JobEnd × State :=
  let h := hqOf j
  j.withInput 3 (if h.turbo then cdiv (3 * (h.k + 4)) 8 else cdiv (h.ncbOf 0) 8) h.c s fun xs s =>
    let sent := h.blocks.flatMap fun r =>
      let v := ofBytes (xs.getD (r - h.r0) [])
      (h.map r).sel.map fun p => v / 2 ^ h.source r p % 2
    (.done 0 (cdiv h.total 128 + 16 * h.c + 64) h.c
      [(j.stream 4 0, bytesOfBits (bitList h.total (Nat.xor (joinLanes 1 sent) h.scrambling)))] [], s)

/-- HQ_RM_LDPC. -/
def execHqRmLdpc (e : Fin 9) (s : State) : Host.Outcome State Fault Refusal :=
  .next (s.after (s.runJob (58 + e.val) 9 4 0 hqPlan rmWork))

/-- HQ_RM_TURBO. -/
def execHqRmTurbo (e : Fin 9) (s : State) : Host.Outcome State Fault Refusal :=
  .next (s.after (s.runJob (58 + e.val) 9 4 1 hqPlan rmWork))

/-- A code block's old bank: its LLRs, span and transmissions where it counts (R228). [log 69] -/
structure OldBank where
  llrs : List Byte
  span : Nat
  count : Nat
  miss : Bool
  deriving DecidableEq, Repr

/-- The header's words of code block r, but for span and count. -/
def Hq.header (h : Hq) (r : Nat) : Nat × Nat :=
  (h.tag * 2 ^ 48, h.kOf r * 2 ^ 32 + (if h.turbo then 0 else h.zf * 2 ^ 16) + h.ncbOf r)

/-- The old bank of a code block, read through the Bay's cache (R228, R230). [log 69] -/
def Job.oldBank (j : Job) (h : Hq) (r : Nat) (s : State) : Except Nat OldBank × State :=
  if h.isNew then (.ok ⟨[], 0, 0, false⟩, s)
  else
    let a := j.stream 5 (r - h.r0)
    match s.harqRead j.e j.agent a (harqTouched a 64) (a + 64) with
    | (.error x, s) => (.error x, s)
    | (.ok hd, s) =>
      let w0 := wordAt hd 0
      let w1 := wordAt hd 1
      let mine := h.header r
      if bitsOf w0 63 48 * 2 ^ 48 ≠ mine.1 ∨ bitsOf w1 46 32 * 2 ^ 32 + bitsOf w1 24 16 * 2 ^ 16 + bitsOf w1 15 0 ≠ mine.2 then
        (.ok ⟨[], 0, 0, true⟩, s)
      else
        let span := min (bitsOf w0 31 0) (h.ncbOf r)
        if span = 0 then (.ok ⟨[], 0, bitsOf (wordAt hd 2) 7 0, false⟩, s)
        else match s.harqRead j.e j.agent (a + 64) (harqTouched (a + 64) span) (a + 64 + span) with
          | (.error x, s) => (.error x, s)
          | (.ok bs, s) => (.ok ⟨bs, span, bitsOf (wordAt hd 2) 7 0, false⟩, s)

def Job.oldBanks (j : Job) (h : Hq) : List Nat → State → Except Nat (List OldBank) × State
  | [], s => (.ok [], s)
  | r :: rest, s =>
    match j.oldBank h r s with
    | (.error a, s) => (.error a, s)
    | (.ok b, s) => match j.oldBanks h rest s with
      | (.ok bs, s) => (.ok (b :: bs), s)
      | (.error a, s) => (.error a, s)

/-- The new bank of a code block (R226 to R228): its bytes, its combined LLRs, and the clamps. -/
def Hq.newBank (h : Hq) (r : Nat) (old : OldBank) (received : List Int) : List Byte × List Int × Nat :=
  let m := h.map r
  let sums := (List.range received.length).foldl (fun (acc : List Int) i =>
    let p := m.sel.getD i 0
    acc.set p (acc.getD p 0 + received.getD i 0)) (List.replicate m.ncb (0 : Int))
  let comb := (List.range m.ncb).map fun p =>
    llr127 ((match old.llrs[p]? with | some b => llrOf b | none => 0) + sums.getD p 0)
  let span := min m.ncb (ceilTo (max old.span m.stop) (if h.turbo then 64 else max 1 h.zf))
  let hd := h.header r
  let body := (comb.take span).map fun x => BitVec.ofInt 8 x.1
  let bytes := toBytes 8 (hd.1 + span) ++ toBytes 8 hd.2 ++ toBytes 8 (min 255 (old.count + 1)) ++ List.replicate 40 0 ++ body
  (bytes ++ List.replicate (ceilTo bytes.length 64 - bytes.length) 0, comb.map Prod.fst, comb.countP fun x => x.2)

/-- The turbo decoder's feed: the header, then d0, d1 and d2 in full (R226). -/
def Hq.turboFeed (h : Hq) (r : Nat) (bank : List Byte) (comb : List Int) : List Byte :=
  let d := h.kOf r + 4
  let put (acc : List Byte) (p : Nat) : List Byte := match turboPos (h.kOf r) (h.fill r) p with
    | some (i, x) => acc.set (i * d + x) (BitVec.ofInt 8 (comb.getD p 0))
    | none => acc
  bank.take 64 ++ (List.range (h.ncbOf r)).foldl put (List.replicate (3 * d) 0)

def drmWork (j : Job) (s : State) : JobEnd × State :=
  let h := hqOf j
  j.withInput 3 h.total 1 s fun xs s =>
    match j.oldBanks h h.blocks s with
    | (.error a, s) => (.bad .inputError 0x02 a, s)
    | (.ok olds, s) =>
      let scr := h.scrambling
      let llrs := (List.range h.total).map fun i =>
        let l := llrOf ((xs.getD 0 []).getD i 0)
        if scr / 2 ^ i % 2 = 1 then -l else l
      let made := h.blocks.map fun r =>
        let at_ := sumOf ((List.range (r - h.r0)).map fun i => h.r0 + i) h.bits
        h.newBank r (olds.getD (r - h.r0) ⟨[], 0, 0, false⟩) ((llrs.drop at_).take (h.bits r))
      let misses := olds.countP fun o => o.miss
      let bank (i : Nat) : List Byte × List Int × Nat := made.getD i ([], [], 0)
      let banks := (List.range h.c).map fun i => (j.stream 4 i, (bank i).1)
      let feeds := if j.w 6 = 0 then [] else (List.range h.c).map fun i =>
        (j.stream 6 i, if h.turbo then h.turboFeed (h.r0 + i) (bank i).1 (bank i).2.1 else (bank i).1)
      let x := dramDelay (j.dramBytes 4 h.bankBytes + if h.isNew then 0 else j.dramBytes 5 h.bankBytes) s
      (.done (sumOf made fun m => m.2.2) (cdiv h.total 32 + sumOf made (fun m => cdiv m.1.length 64) + 64 + x.1) (misses * 2 ^ 16 + h.c) (banks ++ feeds) [(MRT_HQ_TAG_MISS_CNT j.e, misses)], x.2)

/-- HQ_DRM_LDPC. -/
def execHqDrmLdpc (e : Fin 9) (s : State) : Host.Outcome State Fault Refusal :=
  .next (s.after (s.runJob (58 + e.val) 9 4 2 hqPlan drmWork))

/-- HQ_DRM_TURBO. -/
def execHqDrmTurbo (e : Fin 9) (s : State) : Host.Outcome State Fault Refusal :=
  .next (s.after (s.runJob (58 + e.val) 9 4 3 hqPlan drmWork))

end Sys2Proof.Machine
end

