-- ==== Sys2Proof/Machine/RafterIssue.lean ====
section
/-! DEFINITION. How a packet of Rafter instructions issues and retires (R114, R115, R118 to R120, R139): its instructions
gather until the last; its causes are found in the order of R139; its memory accesses are made in slot order; then it retires
as one step, or falls asleep in TAKE, TEND, ENQ or WAIT (R89, R97, R131 to R135). -/

namespace Sys2Proof.Machine

/-! ## Accesses of a core -/

def inWindow (a : Nat) : Bool := decide (winBase ≤ a ∧ a < winBase + 0x4000000)

def coreWho (c : Nat) : Requester := .core (Fin.ofNat 72 c)

/-- A read of a core: a vector access to the register window is no register access (R18). [log 48] -/
def State.coreRead (s : State) (c a n : Nat) (vec : Bool) : Except MemErr (List Byte) × State :=
  if inWindow a then
    if vec then (.error .bus, s)
    else match s.hubRead (coreWho c) (a - winBase) n with
      | (some v, s) => (.ok (toBytes n v), s)
      | (none, s) => (.error .bus, s)
  else s.memRead (s.coreAgent c) a n

/-- A write of a core: whether its target took it. [log 48] -/
def State.coreWrite (s : State) (c a : Nat) (bs : List Byte) (vec : Bool) : Bool × State :=
  if inWindow a then
    if vec then (false, s)
    else
      let t := (s.say .none).hubWrite (rules port1) (coreWho c) (a - winBase) bs.length (ofBytes bs)
      (t.answer != .busError, t.say s.answer)
  else
    let (ok, t) := s.memWrite (s.coreAgent c) a bs
    (ok, if ok then t.airStored a bs.length else t)

/-- Chunks that follow each other joined into one access. -/
def joinChunks : List (Nat × Nat) → List (Nat × Nat)
  | [] => []
  | (a, n) :: r => match joinChunks r with
    | (b, m) :: t => if a + n = b then (a, n + m) :: t else (a, n) :: (b, m) :: t
    | [] => [(a, n)]

def joinStores : List (Nat × List Byte) → List (Nat × List Byte)
  | [] => []
  | (a, x) :: r => match joinStores r with
    | (b, y) :: t => if a + x.length = b then (a, x ++ y) :: t else (a, x) :: (b, y) :: t
    | [] => [(a, x)]

/-- The cause of a read answered with an error. -/
def readCause (e : MemErr) (a : Nat) : Cause :=
  match e with
  | .bus => busCause a
  | .unc => eccCause a

/-- The bytes of a load, or the cause at the first access that fails. -/
def State.loadBytes (s : State) (c : Nat) (vec : Bool) : List (Nat × Nat) → List Byte → Except Cause (List Byte) × State
  | [], acc => (.ok acc, s)
  | (a, n) :: r, acc => match s.coreRead c a n vec with
    | (.ok bs, s) => s.loadBytes c vec r (acc ++ bs)
    | (.error e, s) => (.error (readCause e a), s)

/-- The stores of an access; the first that its target refuses is reported as in R136. [log 48] -/
def State.storeBytes (s : State) (c : Nat) (vec : Bool) (ch : List (Nat × List Byte)) : State :=
  let (bad, s) := (joinStores ch).foldl (fun (r : Option Nat × State) x =>
    match r.2.coreWrite c x.1 x.2 vec with
    | (true, s) => (r.1, s)
    | (false, s) => (r.1.or (some x.1), s)) (none, s)
  match bad with
  | some a => s.storeFailed c a
  | none => s

/-- A scatter's elements in order, each with its own report (R158). [log 48] -/
def State.scatterBytes (s : State) (c : Nat) (es : List (Nat × Nat × List Byte)) : State :=
  each es (fun e s => match s.coreWrite c e.2.1 e.2.2 true with
    | (true, s) => s
    | (false, s) => s.storeFailed c e.2.1) s

/-- Register effects of the bytes of a load. -/
def loadEffs (k : Core) (dst : LdDst) (bs : List Byte) : List Eff :=
  let v := ofBytes bs
  match dst with
  | .g r signed => [.setG r (BitVec.ofNat 64 (if signed then wrap 64 (sgn (8 * bs.length) v) else v))]
  | .pair r => [.setG r (BitVec.ofNat 64 v), .setG (r + 1) (BitVec.ofNat 64 (v / 2 ^ 64))]
  | .a r => [.setA r (BitVec.ofNat 48 v)]
  | .v rt n esz js zm =>
    let w := ewidth esz
    let pos := js.zipIdx
    (List.range n).map fun g =>
      .setV (rt + g) (BitVec.ofNat 1024 (joinLanes w ((List.range (ecount w)).map fun j =>
        match pos.lookup j with
        | some p => lane w v (p * n + g)
        | none => if zm then 0 else lane w (k.V (rt + g)) j)))

/-- RFT_VFAULT (R156, R158, R165). [log 42] -/
def State.vfault (s : State) (c j : Nat) (x : Cause) : State :=
  let v := 2 ^ 63 + j % 128 * 2 ^ 56 + x.code * 2 ^ 48 + x.val.getD 0 % 2 ^ 48
  s.setCore c { s.core c with vfault := BitVec.ofNat 64 v }

/-- What AG finds of a gather or scatter element (R127, R152). -/
def Core.elemCause (k : Core) (a eb : Nat) : Option Cause :=
  if a % eb ≠ 0 then some (alignCause a)
  else if inWindow a || !mayUse k.level a eb then some (accessCause a)
  else none

/-- The elements of a gather up to the first that faults (R156, R157). -/
def State.gatherElems (s : State) (c eb : Nat) (k : Core) :
    List (Nat × Nat) → List (Nat × Nat) → List (Nat × Nat) × Option (Nat × Cause) × State
  | [], acc => (acc, none, s)
  | (j, a) :: r, acc => match k.elemCause a eb with
    | some x => (acc, some (j, x), s)
    | none => match s.coreRead c a eb true with
      | (.ok bs, s) => s.gatherElems c eb k r (acc ++ [(j, ofBytes bs)])
      | (.error e, s) => (acc, some (j, readCause e a), s)

/-- An effect with its memory access made: the register effects it leaves, or the cause. -/
def State.access (s : State) (c : Nat) (k : Core) (vec : Bool) (e : Eff) : Except Cause (List Eff) × State :=
  match e with
  | .load ch dst => match s.loadBytes c vec (joinChunks ch) [] with
    | (.ok bs, s) => (.ok (loadEffs k dst bs), s)
    | (.error x, s) => (.error x, s)
  | .store ch => (.ok [], s.storeBytes c vec ch)
  | .gather vd esz es =>
    let w := ewidth esz
    let (got, bad, s) := s.gatherElems c (w / 8) k es []
    let v := BitVec.ofNat 1024 (joinLanes w ((List.range (ecount w)).map fun j => (got.lookup j).getD 0))
    match bad with
    | none => (.ok [.setV vd v], s)
    | some (j, x) =>
      let s := s.vfault c j x
      if got.isEmpty then (.error x, s) else (.ok [.setV vd v, .setRun (min k.vrun.toNat j)], s)
  | .scatter es =>
    match es.find? fun x => (k.elemCause x.2.1 x.2.2.length).isSome with
    | some x => match k.elemCause x.2.1 x.2.2.length with
      | some y => (.error y, s.vfault c x.1 y)
      | none => (.ok [], s)
    | none => (.ok [], s.scatterBytes c es)
  | e => (.ok [e], s)

/-- All effects of one instruction. -/
def State.accesses (s : State) (c : Nat) (k : Core) (vec : Bool) : List Eff → List Eff → Except Cause (List Eff) × State
  | [], acc => (.ok acc, s)
  | e :: r, acc => match s.access c k vec e with
    | (.ok es, s) => s.accesses c k vec r (acc ++ es)
    | (.error x, s) => (.error x, s)

/-! ## Slots and causes (R114, R115, R139) -/

/-- Slot numbers of ECAUSE: 0 S, 1 M0, 2 M1, 3 V. -/
def slotNos (seenM : Bool) : List PktEntry → List (Nat × PktEntry)
  | [] => []
  | e :: r => match e.slot with
    | .s => (0, e) :: slotNos seenM r
    | .m => (if seenM then 2 else 1, e) :: slotNos true r
    | .v => (3, e) :: slotNos seenM r

def rising : List Nat → Bool
  | a :: b :: r => decide (a < b) && rising (b :: r)
  | _ => true

/-- An instruction of a vector memory form: it is governed by a notch mask. -/
def PktEntry.vec (e : PktEntry) : Bool := e.uses.any fun u => decide (regN 0 ≤ u.1 ∧ u.1 ≤ regN 15)

def PktEntry.gathers (e : PktEntry) : Bool := e.effs.any fun x => match x with | .gather _ _ _ => true | .scatter _ => true | _ => false

/-- R114, R115 or R159 is broken. [log 44] -/
def packetBad (es : List (Nat × PktEntry)) (last : Bool) : Bool :=
  let ws := es.flatMap fun e => e.2.writes.eraseDups
  !last || !rising (es.map (·.1)) || ws.eraseDups.length != ws.length || decide ((es.filter fun e => e.2.gathers).length > 1)

/-- Place of a cause in the order of R139. [log 41] -/
def causeKey (slot : Nat) (x : Cause) : Nat :=
  if x.rank < 400 then x.rank * 64 + slot
  else if x.rank < 500 then 400 * 64 + slot * 16 + (x.rank - 400)
  else x.rank * 64 + slot

/-- The first of some causes. [log 41] -/
def firstCause : List (Nat × Cause) → Option (Nat × Cause)
  | [] => none
  | x :: r => match firstCause r with
    | some y => if causeKey y.1 y.2 < causeKey x.1 x.2 then some y else some x
    | none => some x

/-- Fetch causes of a packet of `n` words (R123): an uncorrectable word is captured. -/
def State.fetchCauses (s : State) (c pc n : Nat) : List (Nat × Cause) × State :=
  let k := s.core c
  let words := (List.range n).map fun i => pc + 4 * i
  match words.find? fun a => decide (a < 0x20000) && (s.progRead (progBase + 0x20000 * c + a)).isNone with
  | some a => ([(0, ⟨100, 0x0C, none, none, none⟩)], s.capture (rftPage c) (s.coreBay c) 0x0001 a)
  | none =>
    if words.any fun a => decide (a ≥ 0x20000) || (decide (a ≥ 0x1E000) && k.level != 2) then
      ([(0, ⟨101, 0x05, none, none, some pc⟩)], s)
    else ([], s)

/-! ## Time (R118, R119, R125, R149 to R151, R163) -/

/-- Smallest issue distance of a use from its producer; 1 where the table names none. -/
def distance (cls col : Nat) : Nat :=
  let row (a b d : Nat) : Nat := if col = useData then b else if col = useAddr then d else a
  match cls with
  | 0 => row 1 3 4
  | 1 => row 3 5 6
  | 2 => row 1 2 3
  | 3 => 1
  | 4 => if col = useAddr then 4 else 1
  | 5 => if col = useAcc then 1 else row 3 5 6
  | n => row (n - 10) (n - 10 + 2) (n - 10 + 3)

/-- Cycles a packet with these uses stalls in RR. -/
def Core.stallFor (k : Core) (uses : List (Nat × Nat)) : Nat :=
  uses.foldl (fun n u => match tget? k.board u.1 with
    | some (cls, at_) => max n (at_ + distance cls u.2 - k.cycle.toNat)
    | none => n) 0

/-- Chunks that go on from the start of a circular buffer. -/
def wraps : List (Nat × Nat) → Bool
  | a :: b :: r => decide (b.1 < a.1) || wraps (b :: r)
  | _ => false

def effChunks : Eff → List (Nat × Nat)
  | .load ch _ => ch
  | .store ch => ch.map fun x => (x.1, x.2.length)
  | .gather _ esz es => es.map fun x => (x.2, 2 ^ esz)
  | .scatter es => es.map fun x => (x.2.1, x.2.2.length)
  | _ => []

def gathersEff : Eff → Bool
  | .gather _ _ _ => true
  | .scatter _ => true
  | _ => false

/-- The packet waits for Purlin: a load, or a vector access, beyond the local memories (R150). -/
def PktEntry.remote (e : PktEntry) : Bool :=
  e.effs.any fun x => (match x with | .store _ => e.vec | _ => true) && (effChunks x).any fun ch => decide (ch.1 ≥ 0x120000)

/-- Producer class of a register that an instruction writes: an address register that it post-modifies is ready before its other
results (R118). -/
def PktEntry.produces (e : PktEntry) (w : Nat) : Nat :=
  let posts : Bool := e.effs.any fun x => match x with | .setA r _ => regA r == w | _ => false
  let loads : Bool := e.effs.any fun x => match x with | .load _ (.a r) => regA r == w | _ => false
  if posts && !loads then clsPost else e.cls

/-- The cycles a packet takes before it retires, of which interlock stalls are counted. [log 51] -/
def State.issueTime (s : State) (c n : Nat) (es : List PktEntry) : State :=
  let k := s.core c
  let stall := k.stallFor (es.flatMap PktEntry.uses)
  let half := es.foldl (fun m e => m + e.slots) 0
  let excess := (half - 2 + 1) / 2
  let wrap := es.countP fun e => e.effs.any fun x => !gathersEff x && wraps (effChunks x)
  let edge := bitNat (k.branched && decide (k.pc.toNat % 16 + 4 * n > 16))
  let (f, s) := if es.any PktEntry.remote then s.fresh else (0, s)
  let s := s.bumpBy (RFT_STALL_CNT c) (stall + excess)
  let k := k.cycles (stall + edge)
  let t := k.cycle.toNat
  let board := es.foldl (fun b e => e.writes.foldl (fun b w => tput b w (e.produces w, t)) b) k.board
  s.setCore c { k.cycles (excess + wrap + f % 65536) with board := board }

/-- Dowels of a packet that faults after they have begun (R163). -/
def Core.squashAll (k : Core) (es : List PktEntry) : Core :=
  es.foldl (fun k e => match e.dowel with
    | none => k
    | some (slot, lat) =>
      if slot = 2 ∨ slot = 6 then
        let unit := if slot = 6 then k.hivUnit else k.divUnit
        if unit.any fun j => decide (j.due > k.cycle.toNat) then k.squash 1 0
        else (k.dowelStarts (slot == 6) lat true []).squash 1 lat
      else k.squash 1 lat) k

/-- Dowels of younger packets that have begun are squashed (R163): how many, and their cycles, are free values, since the packets
that a branch or an exception discards are no commands. A DIV or HIV among them keeps its unit busy up to its end. [log 51] -/
def State.squashYounger (s : State) (c : Nat) : State :=
  let (f, s) := s.fresh
  let (g, s) := s.fresh
  let n := f % 10
  if n = 0 then s
  else
    let k := (s.core c).squash n (g % 1024)
    let drain (hiv : Bool) (left : Nat) (k : Core) : Core :=
      if left = 0 ∨ !(if hiv then k.hivUnit else k.divUnit).isEmpty then k else k.dowelStarts hiv left true []
    s.setCore c (drain true (g / 2 ^ 14 % 25) (drain false (g / 2 ^ 10 % 15) k))

/-- An exception of the packet at `epc`; the cycles its entry takes are a free value. [log 41, 42, 51] -/
def State.packetFault (s : State) (c epc : Nat) (x : Nat × Cause) : State :=
  let s := (s.squashYounger c).exception c { x.2 with slot := x.2.slot.or (some x.1) } epc
  let (f, s) := s.fresh
  (s.setCore c ((s.core c).cycles (f % 256))).boundary c

/-! ## Retirement -/

/-- Effects on the core's own state. -/
def State.retireEff (c : Nat) (e : Eff) (s : State) : State :=
  let k := s.core c
  match e with
  | .setG r v => s.setCore c (k.setG r v.toNat)
  | .setA r v => s.setCore c (k.setA r v.toNat)
  | .setV r v => s.setCore c (k.setV r v.toNat)
  | .setN r v => s.setCore c (k.setN r v.toNat)
  | .setM r v => s.setCore c (k.setM r v.toNat)
  | .setRun v => s.setCore c { k with vrun := BitVec.ofNat 8 v }.dirty
  | .setOv => s.setCore c { k with ov := true }
  | .csr n v => s.setCore c (k.csrWrite n v.toNat)
  | .later hiv cyc ws ov =>
    s.setCore c { k.dowelStarts hiv cyc false ws with ov := k.ov || ov }
  | _ => s

/-- The end of a hardware loop's body (R120): where it goes on, and the counts. [log 53] -/
def Core.loopEnd (k : Core) (lastWord : Nat) (skip : Option Nat) : Option Nat × Core :=
  let ends (lv : Nat) : Bool :=
    decide (k.lc.getD lv 0 ≠ 0) && some lv != skip && (k.le.getD lv 0).toNat == lastWord % 2 ^ 17
  let dec (lv : Nat) (k : Core) : Core := { k with lc := k.lc.setIfInBounds lv (k.lc.getD lv 0 - 1) }
  let once (lv : Nat) : Option Nat × Core := (if k.lc.getD lv 0 = 1 then none else some (k.ls.getD lv 0).toNat, dec lv k)
  if ends 0 then
    match once 0 with
    | (some p, k) => (some p, k)
    | (none, k) =>
      if ends 1 then (if k.lc.getD 1 0 = 1 then none else some (k.ls.getD 1 0).toNat, dec 1 k) else (none, k)
  else if ends 1 then once 1
  else (none, k)

/-- Cost and prediction of a branch (R119): the cycles, whether it was mispredicted, and the predictor after it. [log 52] -/
def Core.predict (k : Core) (kind : Nat) (taken : Bool) (target : Nat) : Nat × Bool × Core :=
  match kind with
  | 0 =>
    let i := k.pc.toNat / 4 % 1024
    let p := tget k.predictor i 0
    let guess := p.getLsbD 1
    let q : BitVec 2 := if taken then (if p = 3 then 3 else p + 1) else (if p = 0 then 0 else p - 1)
    let k := { k with predictor := if q = 0 then tdel k.predictor i else tput k.predictor i q }
    if guess = taken then (if taken then 3 else 0, false, k) else (9, true, k)
  | 1 => (3, false, k)
  | 2 => match k.retStack with
    | a :: r => if a.toNat = target then (3, false, { k with retStack := r }) else (9, true, { k with retStack := r })
    | [] => (9, true, k)
  | _ => (9, false, k)

def State.mispredicted (s : State) (c : Nat) : State := (s.squashYounger c).bump (RFT_MISPRED_CNT c)

/-- A level in which ERET goes on: ECAUSE.prev, never above the present one. [log 54] -/
def Core.eretLevel (k : Core) : Nat := min k.level (bitsOf (if k.level = 2 then k.ecauseK.toNat else k.ecauseS.toNat) 25 24)

/-- A write of RFT_MEM_HOLD: the window's cycles follow its retirement (R122). -/
def holdEff : Eff → Bool
  | .csr 2 _ => true
  | _ => false

/-- The packet of `n` words retires: its effects, then the next packet's address (R115, R119, R120, R130). -/
def State.retire (s : State) (c : Nat) (effs : List Eff) (n : Nat) : State :=
  let s := each (effs.filter fun e => !holdEff e) (State.retireEff c) s
  let k := s.core c
  let pc := k.pc.toNat
  let next := (pc + 4 * n) % 2 ^ 48
  let linked := effs.any fun e => match e with | .link => true | _ => false
  let br : Option (Nat × Bool × Nat) := effs.findSome? fun (e : Eff) => match e with | .branch kd t a => some (kd, t, a) | _ => none
  let lp : Option (Nat × Nat × Nat × Nat) := effs.findSome? fun (e : Eff) => match e with | .loop lv m st en => some (lv, m, st, en) | _ => none
  let eret := effs.any fun e => match e with | .eret => true | _ => false
  let (cost, miss, k) := match br with
    | some (kd, t, a) => k.predict kd t a
    | none => (0, false, k)
  let k := if linked then
      { k.setA 15 next with retStack := (BitVec.ofNat 48 next :: k.retStack).take 8 }
    else k
  let k := match lp with
    | some (lv, m, st, en) => { k with
        lc := k.lc.setIfInBounds lv (BitVec.ofNat 16 m), ls := k.ls.setIfInBounds lv (BitVec.ofNat 17 st)
        le := k.le.setIfInBounds lv (BitVec.ofNat 17 en) }
    | none => k
  let taken := match br with | some (_, t, _) => t | none => false
  let (dest, k) := match br, lp with
    | some (_, true, a), _ => (a, k)
    | _, some (lv, 0, _, en) => ((en + 4) % 2 ^ 48, k.loopEnd (pc + 4 * (n - 1)) (some lv) |>.2)
    | _, _ => match k.loopEnd (pc + 4 * (n - 1)) (lp.map fun (l : Nat × Nat × Nat × Nat) => l.1) with
      | (some p, k) => (p, k)
      | (none, k) => (next, k)
  let (dest, k) := if eret then
      (if k.level = 2 then k.epcK.toNat else k.epcS.toNat, { k with priv := BitVec.ofNat 2 k.eretLevel })
    else (dest, k)
  let k := { k.cycles (1 + cost) with pc := BitVec.ofNat 48 dest, instret := k.instret + 1, branched := taken || eret }
  let k := if effs.any fun e => match e with | .isync => true | _ => false then { k with predictor := [], retStack := [] } else k
  let waits := effs.any fun e => match e with | .wait => true | _ => false
  let k := if waits && k.intPend &&& k.intEn = 0 then { k with sleep := .wait } else k
  let s := each (effs.filter holdEff) (State.retireEff c) (s.setCore c k)
  let s := if miss then s.mispredicted c else s
  let call : Option (Nat × Nat) := effs.findSome? fun (e : Eff) => match e with | .call code d => some (code, d) | _ => none
  match call with
  | some (code, d) => s.packetFault c dest (0, ⟨600, code, some d, none, none⟩)
  | none => s.boundary c

/-! ## The memory accesses of a packet (R115) -/

/-- The memory accesses of a packet in slot order, on the state as it goes: the first cause, with its slot and the instruction
that met it, the effects left, and the state with the accesses made. [log 42, 43] -/
def State.memPhase (s : State) (c : Nat) (k : Core) :
    List (Nat × PktEntry) → List Eff → Option (Nat × Cause × PktEntry) × List Eff × State
  | [], acc => (none, acc, s)
  | (slot, e) :: r, acc =>
    match firstCause ((e.causes.filter fun x => decide (400 ≤ x.rank ∧ x.rank < 500)).map fun x => (slot, x)) with
    | some (_, x) => (some (slot, x, e), acc, s)
    | none => match s.accesses c k e.vec e.effs [] with
      | (.ok es, s) => s.memPhase c k r (acc ++ es)
      | (.error x, s) => (some (slot, x, e), acc, s)

/-- The state that a packet's memory cause leaves: what the access that failed has counted and captured, and nothing else of the
packet (R115). [log 42] -/
def State.memFault (s : State) (c : Nat) (k : Core) (es : List PktEntry) (slot : Nat) (x : Cause) (e : PktEntry) : State :=
  let t := (s.accesses c k e.vec e.effs []).2
  let t := if x.rank < 403 ∧ !e.gathers then s else t
  (t.setCore c ((t.core c).squashAll es)).packetFault c k.pc.toNat (slot, x)

/-! ## TAKE, TEND and ENQ -/

/-- The packet sleeps and nothing of it is done until it retires (R115). [log 43] -/
def State.fallAsleep (s : State) (c : Nat) (how : Sleep) (es : List PktEntry) (n : Nat) : State :=
  s.setCore c { s.core c with sleep := how, held := es, heldLen := n }

/-- A packet's accesses are made and it retires with some registers more, or it faults. -/
def State.finishPacket (s : State) (c : Nat) (es : List PktEntry) (n : Nat) (more : List Eff) : State :=
  let k := s.core c
  match s.memPhase c k (slotNos false es) [] with
  | (some (slot, x, e), _, _) => s.memFault c k es slot x e
  | (none, effs, t) => t.retire c (effs ++ more) n

/-- The sleeping packet goes on with some registers more; the cycles it slept are a free value. -/
def State.wakeRetire (s : State) (c : Nat) (more : List Eff) : State :=
  let k := s.core c
  let (f, s) := s.fresh
  let s := s.setCore c { k.cycles (f % 2 ^ 32) with sleep := .no, held := [], heldLen := 0 }
  s.finishPacket c k.held k.heldLen more

/-- Register effects of TAKE (R131). -/
def takeEffs (gd : Nat) (vs : List Nat) : List Eff := (List.range 4).map fun i => .setG (gd + i) (BitVec.ofNat 64 (vs.getD i 0))

/-- TAKE: with run clear the kernel takes the core back to WAIT at K (R143); else the core asks, and sleeps until a task is
handed to it (R89). [log 49] -/
def State.takeStarts (s : State) (c gd : Nat) (es : List PktEntry) (n : Nat) : State :=
  if !s.flag (RFT_RUN c) 0 then
    let (f, s) := s.fresh
    let s := s.setCore c { s.core c with priv := 2, sleep := .wait, pc := BitVec.ofNat 48 (0x1E000 + f % 2048 * 4) }
    (s.setCoreSt c 1).boundary c
  else match s.handToCore c with
    | (some vs, s) => s.finishPacket c es n (takeEffs gd vs)
    | (none, s) => ((s.fallAsleep c (.take gd) es n).setCoreSt c 3).boundary c

/-- The hand-off of a task to a sleeping TAKE (R89): a packet whose memory accesses would fault by then faults instead. [log 43] -/
def State.takeGiven (s : State) (c : Nat) : State :=
  match (s.core c).sleep with
  | .take gd =>
    if s.coreSt c ≠ 3 ∨ !s.islandUp (8 + c / 9) then s
    else match s.memPhase c (s.core c) (slotNos false (s.core c).held) [] with
      | (some _, _, _) =>
        let k := s.core c
        (s.breakStall c).finishPacket c k.held k.heldLen []
      | (none, _, _) => match s.handToCore c with
        | (some vs, s) => (s.setCoreSt c 2).wakeRetire c (takeEffs gd vs)
        | (none, s) => s
  | _ => s

/-- A store error of the task forces its report (R133). -/
def Core.forced (k : Core) : Bool := k.storeErr.getLsbD 61

/-- The report of TEND (R133). -/
def Core.tendReport (k : Core) (st : Nat) : Report :=
  if k.forced then .failed
  else match st with
    | 0 => .finished
    | 1 => .failed
    | 2 => .inputError
    | _ => .descriptor

/-- TEND: a task already taken away ends it at once (R133, R135); else it reports and waits, its packet's accesses made. -/
def State.tendStarts (s : State) (c gd st : Nat) (effs : List Eff) (n : Nat) : State :=
  if (s.core c).taskAbandoned then
    let s := s.setCore c { s.core c with taskAbandoned := false, taskValid := false, abandonPending := none }
    s.retire c (effs ++ [.setG gd 1]) n
  else s.fallAsleep c (.tend gd st) [⟨.s, [], effs, [], [], clsAlu, none, 0⟩] n

/-- The Truss takes the report of a core that waits in TEND. [log 59] -/
def State.tendReports (s : State) (c : Nat) : State :=
  match (s.core c).sleep with
  | .tend _ st => s.report c ((s.core c).tendReport st)
  | _ => s

/-- The Truss acknowledges the report, and TEND retires. -/
def State.tendAcked (s : State) (c : Nat) : State :=
  match (s.core c).sleep with
  | .tend gd _ =>
    let s := s.tendReports c
    let k := s.core c
    let r : BitVec 64 := if k.taskAbandoned then 1 else if k.forced then 2 else 0
    (s.setCore c { k with taskValid := false, taskAbandoned := false, abandonPending := none }).wakeRetire c [.setG gd r]
  | _ => s

/-- ENQ: the Frame is offered, and the core stalls (R97, R134). A descriptor that cannot be read, which includes one where the
core's level may not read (R127), is offered without words, and its queue refuses it. [log 50] -/
def State.enqStarts (s : State) (c gd addr q : Nat) (es : List PktEntry) (n : Nat) : State :=
  let offer (ws : List Nat) (s : State) : State :=
    let e : OnChip := ⟨.core (Fin.ofNat 72 c), q, s.coreBay c, ws, false, none⟩
    ({ s with truss := { s.truss with onChip := s.truss.onChip ++ [e] } }.fallAsleep c (.enq gd) es n).boundary c
  if addr % 64 ≠ 0 ∨ inWindow addr ∨ !mayUse (s.core c).level addr 64 then offer [] s
  else match s.memRead (s.coreAgent c) addr 64 with
    | (.error _, s) => offer [] s
    | (.ok bs, s) => offer ((List.range 8).map (wordAt bs)) s

/-- The core's submission. -/
def State.coreOffer (s : State) (c : Nat) : Option OnChip := s.truss.onChip.find? fun e => e.src == .core (Fin.ofNat 72 c)

/-- The stalled ENQ retires with its Frame's word. -/
def State.enqEnds (s : State) (c : Nat) : State :=
  match (s.core c).sleep, s.coreOffer c with
  | .enq gd, some e => match e.word with
    | some w => (s.dropSubmission c).wakeRetire c [.setG gd w]
    | none => s
  | _, _ => s

/-! ## Issue -/

/-- The packet of a core issues. -/
def State.issue (s : State) (c : Nat) (last : Bool) : State :=
  let k := s.core c
  let n := k.pkt.length
  let es := slotNos false k.pkt
  let pc := k.pc.toNat
  let s := s.setCore c { k with pkt := [] }
  let (fetch, s) := s.fetchCauses c pc n
  let early := fetch ++ (if packetBad es last then [(0, ⟨200, 0x02, none, none, none⟩)] else []) ++
    es.flatMap fun e => (e.2.causes.filter fun x => decide (x.rank < 400)).map fun x => (e.1, x)
  match firstCause early with
  | some x => s.packetFault c pc x
  | none =>
    let s := s.issueTime c n k.pkt
    let k := s.core c
    let sleeper : Option Eff := es.findSome? fun e => e.2.effs.find? fun x => match x with
      | .take _ => true | .enq _ _ _ => true | .tend _ _ => true | _ => false
    let pkt := es.map (·.2)
    match s.memPhase c k es [] with
    | (some (slot, x, e), _, _) => s.memFault c k pkt slot x e
    | (none, effs, t) =>
      match firstCause (es.flatMap fun e => (e.2.causes.filter fun x => decide (x.rank ≥ 500)).map fun x => (e.1, x)) with
      | some x => (s.setCore c ((s.core c).squashAll pkt)).packetFault c pc x
      | none => match sleeper with
        | some (.take gd) => s.takeStarts c gd pkt n
        | some (.tend gd st) => t.tendStarts c gd st effs n
        | some (.enq gd a q) => s.enqStarts c gd a q pkt n
        | _ => t.retire c effs n

/-- A core asleep in WAIT wakes once an enabled interrupt is pending. -/
def State.wakeWait (s : State) (c : Nat) : State :=
  let k := s.core c
  if k.sleep = .wait ∧ k.intPend &&& k.intEn ≠ 0 ∧ s.coreSt c ≠ 4 then
    let (f, s) := s.fresh
    s.setCore c { k.cycles (f % 2 ^ 32) with sleep := .no }
  else s

/-- An instruction of core `c` reaches RR: it joins its packet, which issues with its last instruction, or with a fourth
(R114, R115). A register whose Dowel result is on its way makes it wait (R162). A core that is not running makes nothing of
it. -/
def State.instr (s : State) (c : Nat) (last : Bool) (mk : Core → PktEntry) : State :=
  let s := s.wakeWait c
  if !s.executes c then s
  else
    let k0 := s.core c
    let e0 := mk k0
    let k := k0.drainFor (e0.writes ++ e0.uses.map (·.1))
    let s := s.bumpBy (RFT_STALL_CNT c) (k.cycle.toNat - k0.cycle.toNat)
    let k := { k with pkt := k.pkt ++ [mk k] }
    let s := s.setCore c k
    if last || decide (k.pkt.length ≥ 4) then s.issue c last else s

end Sys2Proof.Machine
end

