-- ==== Sys2Proof/Machine/CoreEvents.lean ====
section
/-! DEFINITION. What happens to a Rafter core beside its instructions (05, R162): hand-offs and acknowledgements, interrupts,
abandons, store errors, external accesses to its memory, hold windows, its start, and results of its Dowels. -/

namespace Sys2Proof.Machine

/-- TAKE_HANDOFF (R89). [log 3] -/
def execTakeHandoff (c : CoreNo) (s : State) : Host.Outcome State Fault Refusal := .next (s.after (s.takeGiven c.val))

/-- TEND_ACK (R133). -/
def execTendAck (c : CoreNo) (s : State) : Host.Outcome State Fault Refusal := .next (s.after (s.tendAcked c.val))

/-- ENQ_RETIRE (R97, R134). -/
def execEnqRetire (c : CoreNo) (s : State) : Host.Outcome State Fault Refusal := .next (s.after (s.enqEnds c.val))

/-- TASK_FINISH_REPORT (R84): a core reports through TEND alone, and what TEND says; an engine is free after its report. [log 59] -/
def execTaskFinishReport (c : Consumer) (rep : Report) (s : State) : Host.Outcome State Fault Refusal :=
  .next (s.after (match c with
    | .core k => match (s.core k.val).sleep with
      | .tend _ st => if rep = (s.core k.val).tendReport st then s.tendReports k.val else s
      | _ => s
    | .engine e =>
      if (tget? s.truss.holding (128 + e.val)).isNone then s else s.engReports e.val rep))

/-- The core stands at a packet boundary at which an interrupt or ABANDON can break in: no instruction of a packet has
arrived, and what sleeps may be broken (R97, R133, R135). -/
def State.atBoundary (s : State) (c : Nat) (abandon : Bool) : Bool :=
  let k := s.core c
  (s.coreSt c == 1 || s.coreSt c == 2 || s.coreSt c == 3) && k.pkt.isEmpty && s.islandUp (8 + c / 9) &&
    (match k.sleep with
    | .tend _ _ => false
    | .enq _ => abandon || (match s.coreOffer c with | some e => !e.taken | none => true)
    | _ => true)

/-- ABANDON is taken (R135). -/
def State.takeAbandon (s : State) (c : Nat) : State :=
  match (s.core c).abandonPending with
  | none => s
  | some why =>
    if !(s.core c).abandonNow || !s.atBoundary c true then s
    else
      let s := s.breakStall c
      let k := s.core c
      let s := s.setCore c { k with abandonPending := none }
      s.packetFault c k.pc.toNat (0, ⟨0, 0x0B, some (abandonDetail why), none, none⟩)

/-- INTERRUPT_TAKEN (R139, R140): at a boundary ABANDON comes before interrupts. [log 3] -/
def execInterruptTaken (c : CoreNo) (s : State) : Host.Outcome State Fault Refusal :=
  .next (s.after (
    let k := s.core c.val
    if k.abandonNow && s.atBoundary c.val true then s.takeAbandon c.val
    else if k.takeable.isEmpty || !s.atBoundary c.val false then s
    else
      let t := (s.breakStall c.val).takeInterrupt c.val k.pc.toNat
      let (f, t) := t.fresh
      t.setCore c.val ((t.core c.val).cycles (f % 2 ^ 32))))

/-- ABANDON_EXCEPTION (R135). -/
def execAbandonException (c : CoreNo) (s : State) : Host.Outcome State Fault Refusal := .next (s.after (s.takeAbandon c.val))

/-- TASK_ABANDON (R135): the held task's deadline plus grace is reached (R91), its Frame is cancelled (R99), or the core is
drained with force (R101). -/
def execTaskAbandon (c : CoreNo) (why : AbandonCause) (s : State) : Host.Outcome State Fault Refusal :=
  .next (s.after (match tget? s.truss.holding c.val with
    | none => s
    | some idx => match why with
      | .grace => s.graceDue idx
      | .cancel => match s.taskAt idx with
        | some (f, _, _) => s.cancelFrame f
        | none => s
      | .drain => (s.takeAway c.val .drain).rerun idx))

/-- STORE_ERROR (R136). -/
def execStoreError (c : CoreNo) (addr : BitVec 48) (s : State) : Host.Outcome State Fault Refusal :=
  .next (s.after (s.storeFailed c.val addr.toNat))

/-- CORE_TIMER_MATCH (R140). -/
def execCoreTimerMatch (c : CoreNo) (s : State) : Host.Outcome State Fault Refusal :=
  .next (s.after (s.setCore c.val (s.core c.val).timerReached))

/-- MEM_HOLD_END (R122). -/
def execMemHoldEnd (c : CoreNo) (s : State) : Host.Outcome State Fault Refusal :=
  .next (s.after (s.setCore c.val (s.core c.val).holdEnds))

/-- MEM_HOLD_DEFERRED_START (R122). -/
def execMemHoldDeferredStart (c : CoreNo) (s : State) : Host.Outcome State Fault Refusal :=
  .next (s.after (s.setCore c.val (s.core c.val).holdStarts))

/-- CORE_START (R143): a core that serves starts once its Bent's island is up. [log 3, 59] -/
def execCoreStart (c : CoreNo) (s : State) : Host.Outcome State Fault Refusal :=
  .next (s.after (if s.coreServes c.val then s.coreStart c.val else s))

/-- DOWEL_RESULT (R162). -/
def execDowelResult (c : CoreNo) (hiv : Bool) (s : State) : Host.Outcome State Fault Refusal :=
  .next (s.after (s.setCore c.val ((s.core c.val).dowelEnds hiv)))

/-- How a request to a core's memory finds its slot (R121, R122): a hold window makes it wait to the window's end, and a
request that has waited 16 cycles takes the next slot, for which the core stalls one cycle. [log 56] -/
def State.externalSlot (s : State) (c waited : Nat) : State :=
  let k := s.core c
  let held := k.holdLeft
  let s := (s.setCore c k.holdEnds).bumpBy (RFT_HOLD_CNT c) held
  if waited + held ≥ 16 then (s.setCore c ((s.core c).cycles 1)).bump (RFT_STEAL_CNT c) else s

/-- EXTERNAL_CORE_ACCESS (R121). No BAR maps a core's memory, so a host's request finds nothing there (R383). [log 56] -/
def execExternalCoreAccess (r : Requester) (c : CoreNo) (off : BitVec 19) (size : AccessSize) (write : Bool) (v : BitVec 64)
    (waited : BitVec 16) (s : State) : Host.Outcome State Fault Refusal :=
  .next (s.after (
    let a := dataBase + 0x80000 * c.val + off.toNat
    let n := sizeBytes size
    if isHost r then s.say .unsupported
    else if (s.accessRefused (s.agent r) (s.place r a n) n a).isSome then
      match s.memRead (s.agent r) a n with
      | (.ok _, t) => t
      | (.error _, t) => t.say .busError
    else
      let t := s.externalSlot c.val waited.toNat
      if write then
        match t.memWrite (t.agent r) a (toBytes n v.toNat) with
        | (true, t) => t.say .none
        | (false, t) => t.say .busError
      else match t.memRead (t.agent r) a n with
        | (.ok bs, t) => t.say (.value (BitVec.ofNat 64 (ofBytes bs)))
        | (.error .bus, t) => t.say .busError
        | (.error .unc, t) => t.say .uncorrectable))

end Sys2Proof.Machine
end

