-- ==== Sys2Proof/Machine/DowelCommands.lean ====
section
/-! DEFINITION. The Dowel instructions (R161). -/

namespace Sys2Proof.Machine

/-- CMR (R161). -/
def execCmr (c : CoreNo) (last : Bool) (f : VForm) (op2 : BitVec 2) (s : State) :
    Host.Outcome State Fault Refusal :=
  .next (s.after (s.instr c.val last (cmrOp op2.toNat f)))

/-- RSQ (R161). -/
def execRsq (c : CoreNo) (last : Bool) (f : VForm) (s : State) :
    Host.Outcome State Fault Refusal :=
  .next (s.after (s.instr c.val last (rsqOp f)))

/-- DIV op2 0 (R161). -/
def execDivSigned (c : CoreNo) (last : Bool) (f : VForm) (s : State) :
    Host.Outcome State Fault Refusal :=
  .next (s.after (s.instr c.val last (divOp divUse (divSignedValue f.s) f)))

/-- DIV op2 1 (R161). -/
def execDivUnsigned (c : CoreNo) (last : Bool) (f : VForm) (s : State) :
    Host.Outcome State Fault Refusal :=
  .next (s.after (s.instr c.val last (divOp divUse divUnsignedValue f)))

/-- DIV op2 2 (R161). -/
def execDivQ31 (c : CoreNo) (last : Bool) (f : VForm) (s : State) :
    Host.Outcome State Fault Refusal :=
  .next (s.after (s.instr c.val last (divOp divUse (divQ31Value f.s) f)))

/-- ATN (R161). -/
def execAtn (c : CoreNo) (last : Bool) (f : VForm) (s : State) :
    Host.Outcome State Fault Refusal :=
  .next (s.after (s.instr c.val last (atnOp f)))

/-- GLD op2 0 (R161). -/
def execGld (c : CoreNo) (last : Bool) (f : VForm) (s : State) :
    Host.Outcome State Fault Refusal :=
  .next (s.after (s.instr c.val last (gldOp false f)))

/-- GLD op2 1 (R161). -/
def execGldInit (c : CoreNo) (last : Bool) (f : VForm) (s : State) :
    Host.Outcome State Fault Refusal :=
  .next (s.after (s.instr c.val last (gldOp true f)))

/-- CRC (R161). -/
def execCrc (c : CoreNo) (last : Bool) (f : VForm) (op2 : BitVec 2) (s : State) :
    Host.Outcome State Fault Refusal :=
  .next (s.after (s.instr c.val last (crcOp op2.toNat f)))

/-- HIV (R161). -/
def execHiv (c : CoreNo) (last : Bool) (f : VForm) (s : State) :
    Host.Outcome State Fault Refusal :=
  .next (s.after (s.instr c.val last (hivOp f)))

/-- LLR (R161). -/
def execLlr (c : CoreNo) (last : Bool) (f : VForm) (op2 : BitVec 2) (s : State) :
    Host.Outcome State Fault Refusal :=
  .next (s.after (s.instr c.val last (llrOp op2.toNat f)))

/-- BRV op2 0 (R161). -/
def execBrvBits (c : CoreNo) (last : Bool) (f : VForm) (s : State) :
    Host.Outcome State Fault Refusal :=
  .next (s.after (s.instr c.val last (brvBitsOp f)))

/-- BRV op2 1 (R161). -/
def execBrvIndex (c : CoreNo) (last : Bool) (f : VForm) (s : State) :
    Host.Outcome State Fault Refusal :=
  .next (s.after (s.instr c.val last (brvIndexOp f)))

/-- BRV op2 2 (R161). -/
def execBrvTranspose (c : CoreNo) (last : Bool) (f : VForm) (s : State) :
    Host.Outcome State Fault Refusal :=
  .next (s.after (s.instr c.val last (brvTransposeOp f)))

/-- LXP op2 0 (R161). -/
def execLxpLog2 (c : CoreNo) (last : Bool) (f : VForm) (s : State) :
    Host.Outcome State Fault Refusal :=
  .next (s.after (s.instr c.val last (lxpLogOp f)))

/-- LXP op2 1 (R161). -/
def execLxpExp2 (c : CoreNo) (last : Bool) (f : VForm) (s : State) :
    Host.Outcome State Fault Refusal :=
  .next (s.after (s.instr c.val last (lxpExpOp f)))

/-- SRT (R161). -/
def execSrt (c : CoreNo) (last : Bool) (f : VForm) (s : State) :
    Host.Outcome State Fault Refusal :=
  .next (s.after (s.instr c.val last (srtOp f)))

end Sys2Proof.Machine
end

