-- ==== Sys2Proof/Machine/HubCommands.lean ====
section
/-! DEFINITION. The commands of the page hub and the Scribe (02), and host accesses through the BARs (R382 to R385). -/

namespace Sys2Proof.Machine

/-- REGISTER_WRITE (R22). -/
def execRegisterWrite (r : Requester) (a : WinAddr) (size : AccessSize) (v : BitVec 64) (s : State) :
    Host.Outcome State Fault Refusal :=
  .next (s.after (s.regWrite r a.toNat (sizeBytes size) v.toNat))

/-- The RC fields of a word set by an event. -/
def State.rcEvent (s : State) (a ev : Nat) : State :=
  let k := s.key a
  s.setReg k ((rcFields a).foldl (fun n f =>
    if bitsOf ev f.hi f.lo = 0 then n else putBits n f.hi f.lo (bitsOf ev f.hi f.lo)) (s.reg k))

/-- RC_READ (R6): of two readers on the same cycle exactly one gets the value, and which one is open; an event of the same
cycle is kept. The answer shown is the first-named reader's. [log 16] -/
def execRcRead (r : Requester) (second : Option Requester) (a : WinAddr) (sameCycleEvent : BitVec 32) (s : State) :
    Host.Outcome State Fault Refusal :=
  .next (s.after (
    let t := match second with
      | none => s.regRead r a.toNat 4
      | some q =>
        let (f, s) := s.fresh
        if f % 2 = 0 then
          let u := s.regRead r a.toNat 4
          (u.regRead q a.toNat 4).say u.answer
        else (s.regRead q a.toNat 4).regRead r a.toNat 4
    t.rcEvent a.toNat sameCycleEvent.toNat))

/-- WIDE_LATCH_READ (R27). -/
def execWideLatchRead (r : Requester) (a : WinAddr) (s : State) : Host.Outcome State Fault Refusal :=
  .next (s.after (s.regRead r a.toNat 4))

/-- WIDE_STAGE_WRITE (R27). -/
def execWideStageWrite (r : Requester) (a : WinAddr) (v : BitVec 32) (s : State) : Host.Outcome State Fault Refusal :=
  .next (s.after (s.write32 r a.toNat v))

/-- WIDE_LATCH_COMMIT (R27). -/
def execWideLatchCommit (r : Requester) (a : WinAddr) (v : BitVec 32) (s : State) : Host.Outcome State Fault Refusal :=
  .next (s.after (s.write32 r a.toNat v))

/-- PG_CTRL with a bit written as 1 and enable as it stands. -/
def State.ctrlWith (s : State) (p bit : Nat) : BitVec 32 := BitVec.ofNat 32 (2 ^ bit + bitNat (s.enabled p))

/-- OWNER_LOCK (R26). -/
def execOwnerLock (r : Requester) (page : PageNo) (s : State) : Host.Outcome State Fault Refusal :=
  .next (s.after (s.write32 r (hdr page.toNat 0x08) (s.ctrlWith page.toNat 31)))

/-- SOFT_RESET (R20). -/
def execSoftReset (r : Requester) (page : PageNo) (s : State) : Host.Outcome State Fault Refusal :=
  .next (s.after (s.write32 r (hdr page.toNat 0x08) (s.ctrlWith page.toNat 1)))

/-- SOFT_RESET_DONE (R20). -/
def execSoftResetDone (page : PageNo) (s : State) : Host.Outcome State Fault Refusal :=
  .next (s.after (s.softResetEnds page.toNat))

/-- Events that a page has, of a word of raw bits. -/
def pageEvents (p bits : Nat) : Nat :=
  match pageInfo p with
  | some i => bits % 2 ^ i.irqs
  | none => 0

/-- IRQ_RAW_CLEAR (R28, R29): a bit that an event sets on the same cycle stays set, and the line with it. -/
def execIrqRawClear (r : Requester) (page : PageNo) (v sameCycleEvent : BitVec 32) (s : State) :
    Host.Outcome State Fault Refusal :=
  .next (s.after (
    let ev := pageEvents page.toNat sameCycleEvent.toNat
    (s.write32 r (hdr page.toNat 0x10) (v &&& ~~~(BitVec.ofNat 32 ev))).raiseBits page.toNat ev))

/-- IRQ_EN_WRITE (R28). -/
def execIrqEnWrite (r : Requester) (page : PageNo) (v : BitVec 32) (s : State) : Host.Outcome State Fault Refusal :=
  .next (s.after (s.write32 r (hdr page.toNat 0x14) v))

/-- IRQ_FORCE (R20, R28). -/
def execIrqForce (r : Requester) (page : PageNo) (v : BitVec 32) (s : State) : Host.Outcome State Fault Refusal :=
  .next (s.after (s.write32 r (hdr page.toNat 0x18) v))

/-- ERR_CAPT_CLEAR (R20). -/
def execErrCaptClear (r : Requester) (page : PageNo) (v : BitVec 32) (s : State) : Host.Outcome State Fault Refusal :=
  .next (s.after (s.write32 r (hdr page.toNat 0x1C) v))

/-- OWNER_CHANGE (R23). -/
def execOwnerChange (r : Requester) (page : PageNo) (v : BitVec 32) (s : State) : Host.Outcome State Fault Refusal :=
  .next (s.after (s.write32 r (hdr page.toNat 0x28) v))

/-! ## The Scribe -/

/-- SCRIBE_DRAIN (R34): the oldest staged entry reaches the ring, and writes held for room go on. -/
def execScribeDrain (s : State) : Host.Outcome State Fault Refusal :=
  .next (s.after ((s.scribeStep).releaseHeld s.hub.held.length))

/-- SCRIBE_FETCH (R38). -/
def execScribeFetch (r : Requester) (n : BayNo) (v : BitVec 32) (s : State) : Host.Outcome State Fault Refusal :=
  .next (s.after (s.write32 r (SCB_RD_SEQ_LO n.val) v))

/-- The four words of an entry (R37); a hidden one holds its sequence and the HIDDEN flag alone (R38). -/
def scribeWords (e : ScribeEntry) (hidden : Bool) : List Nat :=
  if hidden then [2 ^ 55 + e.seq.toNat, 0, 0, 0]
  else
    [e.bay.toNat * 2 ^ 56 + e.flags.toNat * 2 ^ 48 + e.seq.toNat,
     e.requester.toNat * 2 ^ 48 + e.sec.toNat,
     e.page.toNat * 2 ^ 44 + e.offset.toNat * 2 ^ 32 + e.ns.toNat,
     e.new.toNat * 2 ^ 32 + e.old.toNat]

/-- The entry of a sequence number that the ring holds (R35). [log 19] -/
def State.ringEntry (s : State) (q : Nat) : Option ScribeEntry :=
  let head := s.reg SCB_HEAD_SEQ_LO + 2 ^ 32 * s.fld SCB_HEAD_SEQ_HI 15 0
  if 0 < q ∧ q ≤ head ∧ head < q + 4096 then
    match tget? s.hub.ring (q % 4096) with
    | some e => if e.seq.toNat = q then some e else none
    | none => none
  else none

/-- A port sees an entry in full (R38). -/
def State.seesEntry (s : State) (n : Nat) (e : ScribeEntry) : Bool :=
  n == 0 || e.bay.toNat == n || s.owner e.page.toNat == n

/-- Read port `n`'s fetch ends. -/
def State.scribeFetchEnds (s : State) (n : Nat) : State :=
  match s.hub.fetch.find? fun f => f.1 == n with
  | none => s
  | some (_, q) =>
    let s := { s with hub := { s.hub with fetch := s.hub.fetch.filter fun f => f.1 != n } }
    match s.ringEntry q.toNat with
    | none => s.setReg (SCB_RD_STAT n) 2
    | some e =>
      let hidden := !s.seesEntry n e
      let ws := scribeWords e hidden
      let s := each (List.range 4) (fun i s => s.setWide (SCB_RD_DATA n (2 * i)) (ws.getD i 0)) s
      s.setReg (SCB_RD_STAT n) (4 * bitNat hidden)

/-- SCRIBE_FETCH_DONE (R38). [log 19] -/
def execScribeFetchDone (n : BayNo) (s : State) : Host.Outcome State Fault Refusal := .next (s.after (s.scribeFetchEnds n.val))

/-- HEARTBEAT_STALL (R32): 10 ms pass in which the heartbeat stands still. [log 4] -/
def execHeartbeatStall (s : State) : Host.Outcome State Fault Refusal :=
  .next (s.after (
    if !s.ridge.fwRuns then s
    else
      let n := (s.ridge.ticks - s.ridge.beatTick) / 1000000
      let t := { s with ridge := { s.ridge with fwRuns := false } }.setReg PLT_HEARTBEAT n
      (((t.untilTick (t.ridge.ticks + 10000000)).setFld PLT_FW_STAT 3 0 3).raise 8 1)))

/-! ## BAR 0 -/

/-- A 32-bit word of a function's MSI-X table. [log 114] -/
def State.msixWord (s : State) (h fn off : Nat) : Nat :=
  let e := tget s.msix (msixKey h fn (off / 16)) ⟨0, 0, true⟩
  match off % 16 / 4 with
  | 0 => e.addr.toNat % 2 ^ 32
  | 1 => e.addr.toNat / 2 ^ 32
  | 2 => e.data.toNat
  | _ => bitNat e.masked

def State.setMsixWord (s : State) (h fn off v : Nat) : State :=
  let k := msixKey h fn (off / 16)
  let e := tget s.msix k ⟨0, 0, true⟩
  let e : MsixEntry := match off % 16 / 4 with
    | 0 => { e with addr := BitVec.ofNat 64 (putBits e.addr.toNat 31 0 v) }
    | 1 => { e with addr := BitVec.ofNat 64 (putBits e.addr.toNat 63 32 v) }
    | 2 => { e with data := BitVec.ofNat 32 v }
    | _ => { e with masked := bitOf v 0 }
  { s with msix := tput s.msix k e }.msixFlush

/-- A 32-bit word of a function's pending-bit array. -/
def State.pbaWord (s : State) (h fn off : Nat) : Nat :=
  (List.range 32).foldl (fun n i =>
    let v := 8 * off + i
    if v < 256 ∧ s.pba.contains (msixKey h fn v) then n + 2 ^ i else n) 0

/-- A function's own pages of BAR 0: the MSI-X table at 0x6000, the pending bits at 0x7000, which a write leaves. -/
def State.msixAccess (s : State) (h fn off size : Nat) (write : Bool) (v : Nat) : State :=
  let o := off % 4096
  let word (x : Nat) : Nat := if off / 4096 = 6 then s.msixWord h fn x else s.pbaWord h fn x
  if (size ≠ 4 ∧ size ≠ 8) ∨ off % size ≠ 0 then (if write then s.say .posted else s.complete h false)
  else if !write then
    s.say (.value (BitVec.ofNat 64 (word o + if size = 8 then 2 ^ 32 * word (o + 4) else 0)))
  else if off / 4096 ≠ 6 then s.say .posted
  else
    let t := s.setMsixWord h fn o (v % 2 ^ 32)
    (if size = 8 then t.setMsixWord h fn (o + 4) (v / 2 ^ 32 % 2 ^ 32) else t).say .posted

/-- HOST_BAR0_ACCESS (R383): the register window, or the function's MSI-X table and pending bits. -/
def execHostBar0Access (h : HostNo) (fn : FnNo) (off : BitVec 32) (size : AccessSize) (write : Bool) (v : BitVec 64) (s : State) :
    Host.Outcome State Fault Refusal :=
  .next (s.after (
    let who := Requester.host h fn
    let a := off.toNat
    let own := a / 4096 = 6 ∨ a / 4096 = 7
    if a ≥ 0x4000000 ∨ own then
      match s.gateOf who (a / 4096) with
      | .lost => s.say .none
      | .abort => if write then s.say .posted else s.complete h.val true
      | .unsupported => if write then s.say .posted else s.complete h.val false
      | .open =>
        if own then s.msixAccess h.val fn.val a (sizeBytes size) write v.toNat
        else if write then s.say .posted else s.complete h.val false
    else if write then s.regWrite who a (sizeBytes size) v.toNat
    else s.regRead who a (sizeBytes size)))

/-! ## BAR 2 and BAR 4 -/

/-- The gate of BAR 2 and BAR 4, which RETAIN closes (R431); whether the boot ROM has mapped BAR 2 for the host (R408,
R410). [log 20] -/
def State.memGate (s : State) (h : HostNo) (fn : FnNo) (bar2 : Bool) : Gate :=
  if s.life.inReset || s.life.refclkLost || !s.pins.resetN || !s.linkL0 h.val then .lost
  else if !s.life.booted && (s.life.awaitHost || s.fld LCS_BOOT_STAT 3 0 != 0) then
    (if bar2 ∧ s.life.awaitHost ∧ h.val = 0 ∧ fn.val = 0 then .open else .unsupported)
  else if s.flag TRS_STAT 0 || s.devState == 3 || !s.fnOn h.val fn.val then .unsupported
  else .open

/-- The agent of a host access; the boot ROM opens Loft to the host that supplies the image (R410). [log 20] -/
def State.hostAgent (s : State) (h : HostNo) (fn : FnNo) : Agent :=
  { s.agent (.host h fn) with free := !s.life.booted && s.life.awaitHost }

/-- A host read of device memory in parts: data, a Completer Abort, or an uncorrectable error. -/
def State.hostFetch (s : State) (h : HostNo) (fn : FnNo) (acc : List Byte) : List (Nat × Nat) → State
  | [] => s.say (.data acc)
  | (a, n) :: r => match s.memRead (s.hostAgent h fn) a n with
    | (.ok bs, s) => s.hostFetch h fn (acc ++ bs) r
    | (.error .bus, s) => s.complete h.val true
    | (.error .unc, s) => s.say .uncorrectable

/-- A host write of device memory in parts. -/
def State.hostStore (s : State) (h : HostNo) (fn : FnNo) : List (Nat × List Byte) → State
  | [] => s.say .posted
  | (a, bs) :: r => match s.memWrite (s.hostAgent h fn) a bs with
    | (true, s) => (s.airStored a bs.length).hostStore h fn r
    | (false, s) => s.writeError (.host h fn) true

/-- A BAR access to device memory: `parts` gives the device ranges, none where the BAR maps nothing there. -/
def State.hostMem (s : State) (h : HostNo) (fn : FnNo) (bar2 : Bool) (parts : Option (List (Nat × Nat))) (write : Bool)
    (bs : List Byte) : State :=
  match s.memGate h fn bar2, parts with
  | .lost, _ => s.say .none
  | .open, some ps =>
    if write then
      s.hostStore h fn (ps.foldl (fun (r : List (Nat × List Byte) × List Byte) p =>
        (r.1 ++ [(p.1, r.2.take p.2)], r.2.drop p.2)) ([], bs)).1
    else s.hostFetch h fn [] ps
  | _, _ => if write then s.say .posted else s.complete h.val false

/-- The device ranges of a BAR 2 access: Loft, then the Mortise buffers. [log 21] -/
def bar2Parts (off n : Nat) : Option (List (Nat × Nat)) :=
  if off + n > 0x3C00000 then none
  else if off + n ≤ 0x3000000 then some [(loftBase + off, n)]
  else if off ≥ 0x3000000 then some [(bufBase + (off - 0x3000000), n)]
  else some [(loftBase + off, 0x3000000 - off), (bufBase, off + n - 0x3000000)]

/-- The device range of a BAR 4 access. -/
def State.bar4Parts (s : State) (h off n : Nat) : Option (List (Nat × Nat)) :=
  if off + n > 2 ^ s.fld (HST_CFG h) 2 0 * 2 ^ 30 ∨ off + n > s.dramU then none else some [(dramBase + off, n)]

/-- HOST_BAR2_ACCESS (R383, R272). [log 21] -/
def execHostBar2Access (h : HostNo) (fn : FnNo) (off : BitVec 48) (len : BitVec 7) (write : Bool) (v : BitVec 512) (s : State) :
    Host.Outcome State Fault Refusal :=
  .next (s.after (s.hostMem h fn true (bar2Parts off.toNat len.toNat) write (toBytes len.toNat v.toNat)))

/-- HOST_BAR4_ACCESS (R383, R296, R298). -/
def execHostBar4Access (h : HostNo) (fn : FnNo) (off : BitVec 48) (len : BitVec 7) (write : Bool) (v : BitVec 512) (s : State) :
    Host.Outcome State Fault Refusal :=
  .next (s.after (s.hostMem h fn false (s.bar4Parts h.val off.toNat len.toNat) write (toBytes len.toNat v.toNat)))

end Sys2Proof.Machine
end

