-- ==== Sys2Proof/Machine/Transform.lean ====
section
/-! DEFINITION. Numbers the signal engines work on: CI16 samples, roots of unity, results that a rule gives within an
accuracy, and the solution of linear equations in exact arithmetic. -/

namespace Sys2Proof.Machine

/-! ## Samples -/

/-- CI16 sample `k` of a stream. -/
def sampleAt (bs : List Byte) (k : Nat) : Int × Int :=
  let v := ofBytes ((bs.drop (4 * k)).take 4)
  (cre 16 v, cim 16 v)

/-- Parts rounded and saturated to 16 bits: the sample's bytes, and how many parts saturated. -/
def narrowSample (p : Int × Int) (shift : Nat) : List Byte × Nat :=
  let one (x : Int) : Nat × Nat :=
    let r := rnd x shift
    (wrap 16 (satS 16 r), bitNat (satS 16 r != r))
  let a := one p.1
  let b := one p.2
  (toBytes 2 a.1 ++ toBytes 2 b.1, a.2 + b.2)

/-- Samples of one output stream: bytes and saturated parts. -/
def streamOut (n : Nat) (g : Nat → List Byte × Nat) : List Byte × Nat :=
  let r := (List.range n).map g
  ((r.map Prod.fst).flatten, (r.map Prod.snd).foldl (· + ·) 0)

def addI (a b : Int × Int) : Int × Int := (a.1 + b.1, a.2 + b.2)

/-- Σ f(i) for i below `n`. -/
def sumI (n : Nat) (f : Nat → Int × Int) : Int × Int := (List.range n).foldl (fun acc i => addI acc (f i)) (0, 0)

/-! ## Roots of unity -/

/-- Fractional bits of `rootOf`. -/
abbrev rootBits : Nat := 40

/-- e^(j2πk/m) with `rootBits` fractional bits, by the power series of an angle with 64 fractional bits. [log 65] -/
def rootOf (m k : Nat) : Int × Int :=
  let x : Int := 2 * 57952155664616982739 * ((k % m : Nat) : Int) / (m : Int)
  let r := (List.range 56).foldl (fun (acc : Int × Int × Int) (i : Nat) =>
    let (t, c, s) := acc
    let next := t * x / 2 ^ 64 / ((i : Int) + 1)
    match i % 4 with
    | 0 => (next, c + t, s)
    | 1 => (next, c, s + t)
    | 2 => (next, c - t, s)
    | _ => (next, c, s - t)) (2 ^ 64, 0, 0)
  (rnd r.2.1 (64 - rootBits), rnd r.2.2 (64 - rootBits))

def rootTable (m : Nat) : Array (Int × Int) := ((List.range m).map (rootOf m)).toArray

/-- The root of a signed index. -/
def rootAt (t : Array (Int × Int)) (i : Int) : Int × Int := t.getD (i % (t.size : Int)).toNat (0, 0)

/-! ## Results within an accuracy -/

/-- An open deviation of each of `n` numbers, the same for numbers of the same place. -/
def openDeviations (unit : Nat) (key : List Nat) (place : Nat → Nat) (n : Nat) : List Int :=
  (List.range n).map fun i => (((Config.unit unit (place i :: key) + 2 ^ 16) % 2 ^ 17 : Nat) : Int) - 2 ^ 16

/-- Numbers with `bits` fractional bits as an engine rounds them: any integers whose error power is at most 1/`snr` of the
signal's, else within 1 of the nearest ones; zeros stay zeros. [log 65] -/
def nearParts (unit : Nat) (key : List Nat) (place : Nat → Nat) (snr bits : Nat) (vs : List Int) : List Int :=
  let base := vs.map fun v => rnd v bits
  if vs.all (· == 0) then base
  else
    let ds := openDeviations unit (bits :: key) place vs.length
    let cand := List.zipWith (· + ·) base ds
    let err := (List.zipWith (fun c v => (c * 2 ^ bits - v) * (c * 2 ^ bits - v)) cand vs).foldl (· + ·) 0
    let pow := (vs.map fun v => v * v).foldl (· + ·) 0
    if (snr : Int) * err ≤ pow then cand else List.zipWith (fun b d => b + max (-1) (min 1 d)) base ds

def fits16 (xs : List Int) : Bool := xs.all fun x => satS 16 x == x

/-- 16-bit parts as bytes, saturated, and how many were. -/
def parts16 (xs : List Int) : List Byte × Nat :=
  (xs.flatMap fun x => toBytes 2 (wrap 16 (satS 16 x)), xs.countP fun x => satS 16 x != x)

/-- Real and imaginary parts in turn. -/
def partsOf (xs : List (Int × Int)) : List Int := xs.flatMap fun x => [x.1, x.2]

/-! ## Linear equations -/

abbrev Mat : Type := List (List (Int × Int))

def Mat.entry (m : Mat) (i k : Nat) : Int × Int := (m.getD i []).getD k (0, 0)

/-- A matrix by its entries. -/
def matOf (n m : Nat) (f : Nat → Nat → Int × Int) : Mat := (List.range n).map fun i => (List.range m).map (f i)

/-- The product of an n × k and a k × m matrix. -/
def Mat.mul (n k m : Nat) (a b : Mat) : Mat := matOf n m fun i j => sumI k fun x => cmulI (a.entry i x) (b.entry x j)

def Mat.herm (n m : Nat) (a : Mat) : Mat := matOf m n fun i j => conjI true (a.entry j i)

/-- One step of fraction-free Gauss–Jordan elimination: column `k` is cleared in every row but row `k`; the previous pivot
divides exactly. -/
def Mat.sweep (k : Nat) (prev : Int) (m : Mat) : Mat :=
  let row := m.getD k []
  let p := (m.entry k k).1
  (List.range m.length).map fun i =>
    let r := m.getD i []
    if i = k then r
    else List.zipWith (fun x y =>
      let q := cmulI (m.entry i k) y
      ((p * x.1 - q.1) / prev, (p * x.2 - q.2) / prev)) r row

/-- For a positive Hermitian n × n matrix A and a matrix R of m columns: det A, and adj A · R. -/
def Mat.solve (n m : Nat) (a r : Mat) : Int × Mat :=
  let res := (List.range n).foldl (fun (st : Int × Mat) k => ((st.2.entry k k).1, st.2.sweep k st.1))
    (1, List.zipWith (· ++ ·) a r)
  (res.1, matOf n m fun i j => res.2.entry i (n + j))

/-- The adjugate of a positive Hermitian n × n matrix, and its determinant. -/
def Mat.adj (n : Nat) (a : Mat) : Int × Mat := Mat.solve n n a (matOf n n fun i j => if i = j then (1, 0) else (0, 0))

/-- The power of a matrix's entries. -/
def Mat.power (a : Mat) : Int := (a.map fun r => (r.map fun x => x.1 * x.1 + x.2 * x.2).foldl (· + ·) 0).foldl (· + ·) 0

end Sys2Proof.Machine
end

