-- ==== Sys2Proof/Machine/Prach.lean ====
section
/-! DEFINITION. The PRACH detectors (R194 to R199). -/

namespace Sys2Proof.Machine

/-- Units of `Config.unit`. -/
abbrev uPra : Nat := 23
abbrev uPraRec : Nat := 24

structure Pra where
  len : Nat
  n : Nat
  roots : Nat
  maxDet : Nat
  t : Nat
  reps : Nat
  ants : Nat
  set : Nat
  first : Nat
  ncs : Nat
  /-- Least distance of a second peak in bins; 0 in the descriptor means 4. -/
  sep : Nat
  deriving DecidableEq, Repr

def praOf (j : Job) : Pra :=
  let short := j.f 0 23 20 == 1
  ⟨if short then 139 else 839, if short then 256 else 1024, j.f 0 17 12 + 1, j.f 1 47 40 + 1, j.f 1 31 16, j.f 4 11 8 + 1,
    j.f 4 5 0 + 1, j.f 0 19 18, j.f 0 9 0, j.f 1 15 4, if j.f 1 55 48 = 0 then 4 else j.f 1 55 48⟩

/-- R198. -/
def praPlan (j : Job) : Plan :=
  let p := praOf j
  let short := p.len == 139
  ⟨clearOutside (j.w 0) [(47, 12), (9, 0)] && clearOutside (j.w 1) [(55, 40), (31, 4)] &&
      decide (j.f 0 23 20 ≤ 1 ∧ p.set ≤ 2 ∧ p.maxDet ≤ 64 ∧ p.t ≠ 0) &&
      decide (p.first ≤ if short then 137 else 837) && decide (p.ncs ≤ if short then 69 else 419) &&
      brefClean (j.w 2) && brefClean (j.w 3) && clearOutside (j.w 4) [(11, 8), (5, 0)] && j.w 5 == 0 && j.w 6 == 0,
    [⟨2, p.ants * p.reps, 4 * p.len⟩, ⟨3, 1, 32 + 16 * p.maxDet⟩], true⟩

/-! ## Sequences and cyclic shifts -/

/-- The physical root of the job's `i`-th root: logical indices follow one another and wrap. The table for 839 is held in the
engine, not in the rules. [log 131] -/
def Pra.root (p : Pra) (i : Nat) : Nat :=
  let x := (p.first + i) % (p.len - 1)
  if p.len = 139 then (if x % 2 = 0 then x / 2 + 1 else 138 - x / 2) else 1 + Config.unit uPra [0, x] % 838

/-- X_u[k]: the spectrum of the root sequence x_u(m) = e^(−jπ u m (m+1) / L). [log 131] -/
def Pra.spectrum (p : Pra) (roots : Array (Int × Int)) (u k : Nat) : Int × Int :=
  sumI p.len fun m => rootAt roots (-((u * (m * (m + 1) / 2) + m * k : Nat) : Int))

/-- Cyclic shifts of a restricted set of type A for d_u and N_CS. [log 131] -/
def shiftsA (len ncs du : Nat) : List Nat :=
  let build (start group extra shift : Nat) : List Nat :=
    (List.range (shift * group + extra)).map fun v => start * (v / shift) + v % shift * ncs
  if ncs ≤ du ∧ 3 * du < len then
    let shift := du / ncs
    let start := 2 * du + shift * ncs
    build start (len / start) ((len - 2 * du - len / start * start) / ncs) shift
  else if len ≤ 3 * du ∧ 2 * du + ncs ≤ len then
    let shift := (len - 2 * du) / ncs
    let start := len - 2 * du + shift * ncs
    build start (du / start) (min ((du - du / start * start) / ncs) shift) shift
  else []

/-- d_u of a root: its inverse modulo L, or L less that, whichever is smaller. -/
def rootDistance (len u : Nat) : Nat :=
  let q := ((List.range len).find? fun q => q * u % len == 1).getD 0
  if 2 * q < len then q else len - q

/-- C_v of a root in the order of v. Where the clauses named are not stated here, the list is open. [log 131] -/
def Pra.shifts (p : Pra) (u : Nat) : List Nat :=
  if p.set = 0 then (if p.ncs = 0 then [0] else (List.range (p.len / p.ncs)).map (· * p.ncs))
  else if p.set = 1 ∧ p.ncs ≠ 0 then shiftsA p.len p.ncs (rootDistance p.len u)
  else (List.range (Config.unit uPra [1, p.set, p.len, p.ncs, u] % 65)).map fun v => Config.unit uPra [2, p.set, p.len, p.ncs, u, v] % p.len

/-- Preambles in their numbering, root by root, those below 64: the root's index in the job, the first bin of the zone and its
length (R195, R196). [log 131] -/
def Pra.zones (p : Pra) : List (Nat × Nat × Nat) :=
  ((List.range p.roots).flatMap fun i => (p.shifts (p.root i)).map fun c =>
    let a := (p.len - c % p.len) % p.len
    let width := if p.ncs = 0 then p.len else p.ncs
    (i, a * p.n / p.len, (a + width) * p.n / p.len - a * p.n / p.len)).take 64

/-! ## Detection -/

/-- P_u[n] of R195 for every bin: antennas in power, repetitions coherent. -/
def Pra.profile (p : Pra) (roots bins : Array (Int × Int)) (xs : List (List Byte)) (u : Nat) : Array Nat :=
  let spectrum := ((List.range p.len).map (p.spectrum roots u)).toArray
  let sums := (List.range p.ants).map fun a => ((List.range p.len).map fun k =>
    let y := (List.range p.reps).foldl (fun acc r => addI acc (sampleAt (xs.getD (a * p.reps + r) []) k)) (0, 0)
    cmulI y (conjI true (spectrum.getD k (0, 0)))).toArray
  ((List.range p.n).map fun n => (sums.map fun ys =>
    let z := sumI p.len fun k => cmulI (ys.getD k (0, 0)) (rootAt bins ((k * n : Nat) : Int))
    (z.1 * z.1 + z.2 * z.2).toNat).foldl (· + ·) 0).toArray

/-- A detection: preamble, root index, delay, peak, and whether a second peak was captured or collided. -/
structure Peak where
  preamble : Nat
  root : Nat
  delay : Nat
  power : Nat
  captured : Bool
  collided : Bool
  deriving DecidableEq, Repr

/-- R196 for one zone of a profile: its largest bin, the first of equal ones, if it reaches T × ν; then the largest local
maximum at least `sep` bins away that reaches it. `total` is the sum of all bins, so ν is total / (N · roots). [log 131] -/
def Pra.peak (p : Pra) (db total : Nat) (profile : Array Nat) (preamble : Nat) (zone : Nat × Nat × Nat) : Option Peak :=
  let at_ (i : Nat) : Nat := profile.getD ((zone.2.1 + i) % p.n) 0
  let over_ (x : Nat) : Bool := decide (256 * x * p.n * p.roots ≥ p.t * total)
  let bins := List.range zone.2.2
  let top := (bins.map at_).foldl max 0
  match bins.find? fun i => at_ i == top with
  | none => none
  | some i =>
    if !over_ top then none
    else
      let seconds := bins.filter fun k => decide (p.sep ≤ max i k - min i k) && over_ (at_ k) &&
        decide (at_ (k + p.n - 1) ≤ at_ k ∧ at_ (k + 1) ≤ at_ k)
      match seconds.map at_ with
      | [] => some ⟨preamble, zone.1, i, top, false, false⟩
      | x :: r =>
        let second := r.foldl max x
        let captured := decide (top ^ 10 ≥ 10 ^ db * second ^ 10)
        some ⟨preamble, zone.1, i, top, captured, !captured⟩

/-- A power as the output reports it: the scale of the arithmetic is open. [log 131] -/
def shownPower (num den : Nat) : Nat := min 0xFFFFFFFF (num * Config.unit uPraRec [] / (den * 2 ^ 160))

/-- p / ν in Q8.8, saturated; open where ν is 0. -/
def Pra.ratio (p : Pra) (key : List Nat) (total power : Nat) : Nat :=
  if total = 0 then Config.unit uPraRec key % 2 ^ 16 else min 65535 (256 * power * p.n * p.roots / total)

/-- A record of R197. -/
def Pra.record (p : Pra) (key : List Nat) (total : Nat) (x : Peak) : List Byte :=
  toBytes 8 (shownPower x.power 1 * 2 ^ 32 + x.delay * 2 ^ 16 + bitNat x.captured * 2 ^ 9 + bitNat x.collided * 2 ^ 8 + x.preamble) ++
    toBytes 8 (x.root * 2 ^ 16 + p.ratio (x.preamble :: key) total x.power)

/-- Every detection of a job in preamble order, and the sum of all bins of all roots. -/
def Pra.detect (p : Pra) (db : Nat) (xs : List (List Byte)) : List Peak × Nat :=
  let roots := rootTable p.len
  let bins := rootTable p.n
  let profiles := (List.range p.roots).map fun i => p.profile roots bins xs (p.root i)
  let total := (profiles.map fun x => x.foldl (· + ·) 0).foldl (· + ·) 0
  let zones := p.zones
  ((List.range zones.length).filterMap fun i =>
    let z := zones.getD i (0, 0, 0)
    p.peak db total (profiles.getD z.1 #[]) i z, total)

/-- Cycles of R199. -/
def praCycles (p : Pra) : Nat :=
  p.ants * p.reps * p.roots * (p.n / 16 + 24) + p.ants * p.reps * cdiv p.len 8 + 64 * p.roots + 128

def praWork (j : Job) (s : State) : JobEnd × State :=
  let p := praOf j
  j.withInput 2 (4 * p.len) (p.ants * p.reps) s fun xs s =>
    let found := p.detect (s.fld (MRT_PRA_CAPTURE_DB j.e) 4 0) xs
    let shown := found.1.take p.maxDet
    let dropped := found.1.length - shown.length
    let header := toBytes 8 (shownPower found.2 (p.n * p.roots) * 2 ^ 32 + dropped * 2 ^ 16 + shown.length) ++
      toBytes 8 (praCycles p % 2 ^ 32) ++ List.replicate 16 0
    (.done 0 (praCycles p) (shown.length + dropped * 2 ^ 16)
      [(j.stream 3 0, header ++ (shown.map (p.record (keyOf xs) found.2)).flatten)]
      [(MRT_PRA_CAPT_CNT j.e, found.1.countP Peak.captured), (MRT_PRA_COLL_CNT j.e, found.1.countP Peak.collided),
        (MRT_PRA_DET_CNT j.e, shown.length)], s)

/-- PRA_DETECT. -/
def execPraDetect (e : Fin 3) (s : State) : Host.Outcome State Fault Refusal :=
  .next (s.after (s.runJob (25 + e.val) 4 1 0 praPlan praWork))

end Sys2Proof.Machine
end

