-- ==== Sys2Proof/Machine/RidgeCommands.lean ====
section
/-! DEFINITION. The commands of the Ridge (03): corrections and the servo, frequency sources, stamps, pulses, time of day,
captures, carriers and event timers. -/

namespace Sys2Proof.Machine

/-- ADJ_COMMIT (R42): the latch word of RDG_ADJ. -/
def execAdjCommit (r : Requester) (ns : BitVec 32) (s : State) : Host.Outcome State Fault Refusal :=
  .next (s.after (s.write32 r RDG_ADJ_NS ns))

/-- Time passes until the pending slew has been removed (R43). -/
def State.slewDone (s : State) : State :=
  let d := s.ridge.slew
  if d = 0 then s else s.advance (ceilDiv d.natAbs (s.slewPerTick d)).toNat

/-- SLEW_COMPLETE (R43). -/
def execSlewComplete (s : State) : Host.Outcome State Fault Refusal := .next (s.after s.slewDone)

/-- RELOCK (R45). -/
def execRelock (r : Requester) (v : BitVec 32) (s : State) : Host.Outcome State Fault Refusal :=
  .next (s.after (s.write32 r RDG_SERVO_CTL (v ||| 0x80000000)))

/-- RATE_WRITE (R49): the latch word of RDG_RATE. -/
def execRateWrite (r : Requester) (lo : BitVec 32) (s : State) : Host.Outcome State Fault Refusal :=
  .next (s.after (s.write32 r RDG_RATE_LO lo))

/-- PHASE_SOURCE_QUALIFY (R46): in servo mode a source that the servo has selected delivers valid measurements. [log 26, 116] -/
def execPhaseSourceQualify (src : PhaseSource) (s : State) : Host.Outcome State Fault Refusal :=
  .next (s.after (
    if s.manual || !s.ridge.fwRuns || !s.phaseGiven src then s
    else
      let t := { s with ridge := { s.ridge with phaseSource := some src } }
      if t.servo = 0 then t.servoTo 1 none else t))

/-- SERVO_MEASUREMENT (R46): the measured offset, the frequency error, and the rate the servo's loop filter then chooses; an
invalid one is not used. [log 26, 116] -/
def execServoMeasurement (valid : Bool) (sec : BitVec 48) (ns frac : BitVec 32) (freqErr rateAfter : BitVec 40) (s : State) :
    Host.Outcome State Fault Refusal :=
  .next (s.after (
    if valid then
      s.measure (adjValue ns.toNat frac.toNat (sec.toNat % 2 ^ 32) (sec.toNat / 2 ^ 32)) freqErr.toInt rateAfter.toInt
    else s))

/-- PHASE_SOURCE_LOST (R46). -/
def execPhaseSourceLost (s : State) : Host.Outcome State Fault Refusal :=
  .next (s.after (
    let t := { s with ridge := { s.ridge with phaseSource := none } }
    if t.servo = 1 ∧ !t.manual then t.servoTo 0 none else t))

/-- MEASUREMENT_TIMEOUT (R46): 1 s without a valid measurement in LOCKED. -/
def execMeasurementTimeout (s : State) : Host.Outcome State Fault Refusal :=
  .next (s.after (
    if s.servo = 2 ∧ !s.manual then (s.untilTick (s.ridge.lastMeas + 1000000000)).servoTo 3 (some 1) else s))

/-- HOLDOVER_EXPIRY (R46): HOLDOVER has lasted longer than hold_max. -/
def execHoldoverExpiry (s : State) : Host.Outcome State Fault Refusal :=
  .next (s.after (
    if s.servo = 3 then
      (s.untilTick (s.ridge.holdStart + s.fld RDG_HOLD_CFG 31 16 * 3600000000000 + 1)).servoTo 0 none
    else s))

/-- SOURCE_QUALIFY (R52). -/
def execSourceQualify (src : Fin 5) (s : State) : Host.Outcome State Fault Refusal := .next (s.after (s.sourceQualifies src.val))

/-- SOURCE_LOSS (R52). -/
def execSourceLoss (src : Fin 5) (s : State) : Host.Outcome State Fault Refusal := .next (s.after (s.sourceLost src.val))

/-- SOURCE_DISQUALIFY (R52). -/
def execSourceDisqualify (src : Fin 5) (s : State) : Host.Outcome State Fault Refusal :=
  .next (s.after (s.sourceDisqualifies src.val))

/-- DPLL_A_FAIL (R53): the partner in use is logged, and its kind is degraded (R460, R461). [log 116] -/
def execDpllAFail (s : State) : Host.Outcome State Fault Refusal :=
  .next (s.after (
    if s.flag RDG_SRC_STAT 12 then s
    else (((s.setFlag RDG_SRC_STAT 12 true).raise pRdg 6).logFault 10 0 5 6).degrade 10))

/-- TXS_POP (R55). -/
def execTxsPop (r : Requester) (s : State) : Host.Outcome State Fault Refusal := .next (s.after (s.regRead r RDG_TXS_NS 4))

/-- PPS_OUT_EDGE (R58). -/
def execPpsOutEdge (k : Fin 2) (s : State) : Host.Outcome State Fault Refusal := .next (s.after (s.ppsOut k.val))

/-- PPS_IN_EDGE (R59). -/
def execPpsInEdge (j : Fin 2) (rising : Bool) (quarter : Fin 4) (s : State) : Host.Outcome State Fault Refusal :=
  .next (s.after (s.ppsIn j.val rising quarter.val))

/-- TOD_RX_MESSAGE (R59). -/
def execTodRxMessage (bytes : List (BitVec 8)) (sincePulseMs : BitVec 16) (s : State) : Host.Outcome State Fault Refusal :=
  .next (s.after (s.todReceived bytes sincePulseMs.toNat))

/-- TOD_TX_SEND (R60). -/
def execTodTxSend (s : State) : Host.Outcome State Fault Refusal := .next (s.after s.todSend)

/-- EXT_CAPTURE_EDGE (R62). -/
def execExtCaptureEdge (i : Fin 4) (rising : Bool) (quarter : Fin 4) (widthNs : BitVec 32) (s : State) :
    Host.Outcome State Fault Refusal :=
  .next (s.after (s.captureEdge i.val rising quarter.val widthNs.toNat))

/-- CAP_POP (R62). -/
def execCapPop (r : Requester) (i : Fin 4) (s : State) : Host.Outcome State Fault Refusal :=
  .next (s.after (s.regRead r (RDG_CAP_NS i.val) 4))

/-- CARRIER_CONFIG (R65). -/
def execCarrierConfig (r : Requester) (c : CarrierNo) (v : BitVec 32) (s : State) : Host.Outcome State Fault Refusal :=
  .next (s.after (s.write32 r (RDG_CAR_CFG c.val) v))

/-- CARRIER_START (R65). -/
def execCarrierStart (c : CarrierNo) (s : State) : Host.Outcome State Fault Refusal := .next (s.after (s.carStart c.val))

/-- GRID_EVENT (R64). -/
def execGridEvent (c : CarrierNo) (s : State) : Host.Outcome State Fault Refusal := .next (s.after (s.gridBoundary c.val))

/-- TIMER_ARM (R66): a write that sets neither fired nor late. -/
def execTimerArm (r : Requester) (k : Fin 32) (v : BitVec 32) (s : State) : Host.Outcome State Fault Refusal :=
  .next (s.after (s.write32 r (evtCtl k.val) (v &&& 0xAFFFFFFF)))

/-- TIMER_CLEAR_FLAGS (R66): a write of 1 to fired, late or both. -/
def execTimerClearFlags (r : Requester) (k : Fin 32) (v : BitVec 32) (s : State) : Host.Outcome State Fault Refusal :=
  .next (s.after (s.write32 r (evtCtl k.val) (if v &&& 0x50000000 = 0 then v ||| 0x50000000 else v)))

/-- TIMER_FIRE (R66). [log 3] -/
def execTimerFire (k : Fin 32) (s : State) : Host.Outcome State Fault Refusal := .next (s.after (s.timerDue k.val))

end Sys2Proof.Machine
end

