-- ==== Sys2Proof/Machine/ScalarCommands.lean ====
section
/-! DEFINITION. The scalar instructions (R130): each joins its core's packet with what it does to registers and memory. -/

namespace Sys2Proof.Machine

/-- ADD (R130). -/
def execAdd (c : CoreNo) (last : Bool) (f : RForm) (s : State) :
    Host.Outcome State Fault Refusal :=
  .next (s.after (s.instr c.val last (laneOp 64 1 (· + ·) f clsAlu)))

/-- SUB (R130). -/
def execSub (c : CoreNo) (last : Bool) (f : RForm) (s : State) :
    Host.Outcome State Fault Refusal :=
  .next (s.after (s.instr c.val last (laneOp 64 1 (· - ·) f clsAlu)))

/-- ADD.H4 (R130). -/
def execAddH4 (c : CoreNo) (last : Bool) (f : RForm) (s : State) :
    Host.Outcome State Fault Refusal :=
  .next (s.after (s.instr c.val last (laneOp 16 4 (· + ·) f clsAlu)))

/-- SUB.H4 (R130). -/
def execSubH4 (c : CoreNo) (last : Bool) (f : RForm) (s : State) :
    Host.Outcome State Fault Refusal :=
  .next (s.after (s.instr c.val last (laneOp 16 4 (· - ·) f clsAlu)))

/-- ADD.W2 (R130). -/
def execAddW2 (c : CoreNo) (last : Bool) (f : RForm) (s : State) :
    Host.Outcome State Fault Refusal :=
  .next (s.after (s.instr c.val last (laneOp 32 2 (· + ·) f clsAlu)))

/-- SUB.W2 (R130). -/
def execSubW2 (c : CoreNo) (last : Bool) (f : RForm) (s : State) :
    Host.Outcome State Fault Refusal :=
  .next (s.after (s.instr c.val last (laneOp 32 2 (· - ·) f clsAlu)))

/-- ADD.Q (R130). -/
def execAddQ (c : CoreNo) (last : Bool) (f : RForm) (s : State) :
    Host.Outcome State Fault Refusal :=
  .next (s.after (s.instr c.val last (pairOp (· + ·) f)))

/-- SUB.Q (R130). -/
def execSubQ (c : CoreNo) (last : Bool) (f : RForm) (s : State) :
    Host.Outcome State Fault Refusal :=
  .next (s.after (s.instr c.val last (pairOp (· - ·) f)))

/-- AND (R130). -/
def execAnd (c : CoreNo) (last : Bool) (f : RForm) (s : State) :
    Host.Outcome State Fault Refusal :=
  .next (s.after (s.instr c.val last (bitOp Nat.land f clsAlu)))

/-- OR (R130). -/
def execOr (c : CoreNo) (last : Bool) (f : RForm) (s : State) :
    Host.Outcome State Fault Refusal :=
  .next (s.after (s.instr c.val last (bitOp Nat.lor f clsAlu)))

/-- XOR (R130). -/
def execXor (c : CoreNo) (last : Bool) (f : RForm) (s : State) :
    Host.Outcome State Fault Refusal :=
  .next (s.after (s.instr c.val last (bitOp Nat.xor f clsAlu)))

/-- ANDN (R130). -/
def execAndn (c : CoreNo) (last : Bool) (f : RForm) (s : State) :
    Host.Outcome State Fault Refusal :=
  .next (s.after (s.instr c.val last (bitOp (fun a b => Nat.land a (2 ^ 64 - 1 - b)) f clsAlu)))

/-- SHL (R130). -/
def execShl (c : CoreNo) (last : Bool) (f : RForm) (s : State) :
    Host.Outcome State Fault Refusal :=
  .next (s.after (s.instr c.val last (fun k => gEntry f.rd.toNat [] (shlValue f.s (k.G f.ra.toNat) (k.G f.rb.toNat % 64)) [f.ra.toNat, f.rb.toNat] clsAlu)))

/-- SHR (R130). -/
def execShr (c : CoreNo) (last : Bool) (f : RForm) (s : State) :
    Host.Outcome State Fault Refusal :=
  .next (s.after (s.instr c.val last (bitOp (fun a b => a / 2 ^ (b % 64)) f clsAlu)))

/-- SAR (R130). -/
def execSar (c : CoreNo) (last : Bool) (f : RForm) (s : State) :
    Host.Outcome State Fault Refusal :=
  .next (s.after (s.instr c.val last (bitOp (fun a b => sarValue a (b % 64)) f clsAlu)))

/-- MIN (R130). -/
def execMin (c : CoreNo) (last : Bool) (f : RForm) (s : State) :
    Host.Outcome State Fault Refusal :=
  .next (s.after (s.instr c.val last (laneOp 64 1 min f clsAlu)))

/-- MAX (R130). -/
def execMax (c : CoreNo) (last : Bool) (f : RForm) (s : State) :
    Host.Outcome State Fault Refusal :=
  .next (s.after (s.instr c.val last (laneOp 64 1 max f clsAlu)))

/-- ABS (R129, R130). -/
def execAbs (c : CoreNo) (last : Bool) (f : RForm) (s : State) :
    Host.Outcome State Fault Refusal :=
  .next (s.after (s.instr c.val last (fun k => gEntry f.rd.toNat [] (satLane 64 f.s ((sgn 64 (k.G f.ra.toNat)).natAbs : Int)) [f.ra.toNat] clsAlu)))

/-- CLRP (R130). -/
def execClrp (c : CoreNo) (last : Bool) (f : RForm) (s : State) :
    Host.Outcome State Fault Refusal :=
  .next (s.after (s.instr c.val last (fun _ => pairEntry f.rd.toNat [] 0 false [] clsAlu)))

/-- MOV (R130). -/
def execMov (c : CoreNo) (last : Bool) (f : RForm) (s : State) :
    Host.Outcome State Fault Refusal :=
  .next (s.after (s.instr c.val last (fun k => gEntry f.rd.toNat [] (k.G f.ra.toNat, false) [f.ra.toNat] clsAlu)))

/-- CMP.cc (R130). -/
def execCmpCc (c : CoreNo) (last : Bool) (f : RForm) (cond : BitVec 6) (s : State) :
    Host.Outcome State Fault Refusal :=
  .next (s.after (s.instr c.val last (fun k => gEntry f.rd.toNat (onBad (decide (cond.toNat > 5)) illegal) (bitNat (compare cond.toNat (k.G f.ra.toNat) (k.G f.rb.toNat)), false)
    [f.ra.toNat, f.rb.toNat] clsAlu)))

/-- ADDI (R130). -/
def execAddi (c : CoreNo) (last : Bool) (f : IForm) (s : State) :
    Host.Outcome State Fault Refusal :=
  .next (s.after (s.instr c.val last (immOp (fun a i => satLane 64 f.s (sgn 64 a + i)) f)))

/-- ANDI (R130). -/
def execAndi (c : CoreNo) (last : Bool) (f : IForm) (s : State) :
    Host.Outcome State Fault Refusal :=
  .next (s.after (s.instr c.val last (immOp (fun a i => (Nat.land a (wrap 64 i), false)) f)))

/-- SHLI (R130). -/
def execShli (c : CoreNo) (last : Bool) (f : IForm) (s : State) :
    Host.Outcome State Fault Refusal :=
  .next (s.after (s.instr c.val last (immOp (fun a i => shlValue f.s a (wrap 6 i)) f)))

/-- SHRI (R130). -/
def execShri (c : CoreNo) (last : Bool) (f : IForm) (s : State) :
    Host.Outcome State Fault Refusal :=
  .next (s.after (s.instr c.val last (immOp (fun a i => (a / 2 ^ wrap 6 i, false)) f)))

/-- SARI (R130). -/
def execSari (c : CoreNo) (last : Bool) (f : IForm) (s : State) :
    Host.Outcome State Fault Refusal :=
  .next (s.after (s.instr c.val last (immOp (fun a i => (sarValue a (wrap 6 i), false)) f)))

/-- MOVZ (R130). -/
def execMovz (c : CoreNo) (last : Bool) (f : WForm) (s : State) :
    Host.Outcome State Fault Refusal :=
  .next (s.after (s.instr c.val last (fun _ => gEntry f.rd.toNat [] (f.imm.toNat * 2 ^ (16 * f.hw.toNat), false) [] clsAlu)))

/-- MOVI (R130). -/
def execMovi (c : CoreNo) (last : Bool) (f : WForm) (s : State) :
    Host.Outcome State Fault Refusal :=
  .next (s.after (s.instr c.val last (fun k => gEntry f.rd.toNat []
    (putBits (k.G f.rd.toNat) (16 * f.hw.toNat + 15) (16 * f.hw.toNat) f.imm.toNat, false) [f.rd.toNat] clsAlu)))

/-- MUL (R130). -/
def execMul (c : CoreNo) (last : Bool) (f : RForm) (s : State) :
    Host.Outcome State Fault Refusal :=
  .next (s.after (s.instr c.val last (bitOp (fun a b => a * b) f clsMul)))

/-- MULH (R130). -/
def execMulh (c : CoreNo) (last : Bool) (f : RForm) (s : State) :
    Host.Outcome State Fault Refusal :=
  .next (s.after (s.instr c.val last (bitOp (fun a b => wrap 64 (sgn 64 a * sgn 64 b / (2 ^ 64 : Nat))) f clsMul)))

/-- MULHU (R130). -/
def execMulhu (c : CoreNo) (last : Bool) (f : RForm) (s : State) :
    Host.Outcome State Fault Refusal :=
  .next (s.after (s.instr c.val last (bitOp (fun a b => a * b / 2 ^ 64) f clsMul)))

/-- MULQ15.H4 (R130). -/
def execMulq15H4 (c : CoreNo) (last : Bool) (f : RForm) (s : State) :
    Host.Outcome State Fault Refusal :=
  .next (s.after (s.instr c.val last (laneOp 16 4 (fun a b => rnd (a * b) 15) f clsMul)))

/-- MULQ31.W2 (R130). -/
def execMulq31W2 (c : CoreNo) (last : Bool) (f : RForm) (s : State) :
    Host.Outcome State Fault Refusal :=
  .next (s.after (s.instr c.val last (laneOp 32 2 (fun a b => rnd (a * b) 31) f clsMul)))

/-- CMAC (R130). -/
def execCmac (c : CoreNo) (last : Bool) (f : RForm) (s : State) :
    Host.Outcome State Fault Refusal :=
  .next (s.after (s.instr c.val last (cmacOp false f)))

/-- CMUL (R130). -/
def execCmul (c : CoreNo) (last : Bool) (f : RForm) (s : State) :
    Host.Outcome State Fault Refusal :=
  .next (s.after (s.instr c.val last (cmacOp true f)))

/-- NARROW (R130). -/
def execNarrow (c : CoreNo) (last : Bool) (f : RForm) (s : State) :
    Host.Outcome State Fault Refusal :=
  .next (s.after (s.instr c.val last (narrowOp f)))

/-- B.cc (R119, R130). -/
def execBCc (c : CoreNo) (last : Bool) (f : BForm) (s : State) :
    Host.Outcome State Fault Refusal :=
  .next (s.after (s.instr c.val last (branchOp f)))

/-- BL (R130). -/
def execBl (c : CoreNo) (last : Bool) (f : BForm) (s : State) :
    Host.Outcome State Fault Refusal :=
  .next (s.after (s.instr c.val last (branchLink f)))

/-- JR (R130). -/
def execJr (c : CoreNo) (last : Bool) (f : RForm) (s : State) :
    Host.Outcome State Fault Refusal :=
  .next (s.after (s.instr c.val last (jumpOp false f)))

/-- JRL (R130). -/
def execJrl (c : CoreNo) (last : Bool) (f : RForm) (s : State) :
    Host.Outcome State Fault Refusal :=
  .next (s.after (s.instr c.val last (jumpOp true f)))

/-- LOOP (R120). -/
def execLoop (c : CoreNo) (last : Bool) (f : LForm) (s : State) :
    Host.Outcome State Fault Refusal :=
  .next (s.after (s.instr c.val last (loopOp f)))

/-- TAKE (R131). -/
def execTake (c : CoreNo) (last : Bool) (f : RForm) (s : State) :
    Host.Outcome State Fault Refusal :=
  .next (s.after (s.instr c.val last (takeOp f)))

/-- TEND (R133). -/
def execTend (c : CoreNo) (last : Bool) (f : RForm) (s : State) :
    Host.Outcome State Fault Refusal :=
  .next (s.after (s.instr c.val last (tendOp f)))

/-- ENQ (R134). -/
def execEnq (c : CoreNo) (last : Bool) (f : RForm) (s : State) :
    Host.Outcome State Fault Refusal :=
  .next (s.after (s.instr c.val last (enqOp f)))

/-- MFC (R130). -/
def execMfc (c : CoreNo) (last : Bool) (f : IForm) (s : State) :
    Host.Outcome State Fault Refusal :=
  .next (s.after (s.instr c.val last (mfcOp f)))

/-- MTC (R130). -/
def execMtc (c : CoreNo) (last : Bool) (f : IForm) (s : State) :
    Host.Outcome State Fault Refusal :=
  .next (s.after (s.instr c.val last (mtcOp f)))

/-- SYSCALL (R137). -/
def execSyscall (c : CoreNo) (last : Bool) (f : IForm) (s : State) :
    Host.Outcome State Fault Refusal :=
  .next (s.after (s.instr c.val last (fun _ => sEntry [] [.call 0x0E (f.imm.toNat % 256)] [] [] clsAlu)))

/-- KCALL (R137). -/
def execKcall (c : CoreNo) (last : Bool) (f : IForm) (s : State) :
    Host.Outcome State Fault Refusal :=
  .next (s.after (s.instr c.val last (fun _ => sEntry [] [.call 0x0F (f.imm.toNat % 256)] [] [] clsAlu)))

/-- BKPT (R138). -/
def execBkpt (c : CoreNo) (last : Bool) (f : IForm) (s : State) :
    Host.Outcome State Fault Refusal :=
  .next (s.after (s.instr c.val last (fun _ => sEntry [⟨500, 0x0D, some (f.imm.toNat % 256), none, none⟩] [] [] [] clsAlu)))

/-- ERET (R130). -/
def execEret (c : CoreNo) (last : Bool) (_f : RForm) (s : State) :
    Host.Outcome State Fault Refusal :=
  .next (s.after (s.instr c.val last (fun k => sEntry (onBad (decide (k.level = 0)) privCause) [.eret] [] [] clsAlu)))

/-- WAIT (R130). -/
def execWait (c : CoreNo) (last : Bool) (_f : RForm) (s : State) :
    Host.Outcome State Fault Refusal :=
  .next (s.after (s.instr c.val last (fun _ => sEntry [] [.wait] [] [] clsAlu)))

/-- ISYNC (R123). -/
def execIsync (c : CoreNo) (last : Bool) (_f : RForm) (s : State) :
    Host.Outcome State Fault Refusal :=
  .next (s.after (s.instr c.val last (fun _ => sEntry [] [.isync] [] [] clsAlu)))

/-- FENCE (R130, R136: stores complete as they are made, so there is none to wait for). -/
def execFence (c : CoreNo) (last : Bool) (_f : RForm) (s : State) :
    Host.Outcome State Fault Refusal :=
  .next (s.after (s.instr c.val last (fun _ => sEntry [] [] [] [] clsAlu)))

/-- NOP (R130). [log 46] -/
def execNop (c : CoreNo) (last : Bool) (other : BitVec 23) (s : State) :
    Host.Outcome State Fault Refusal :=
  .next (s.after (s.instr c.val last (fun _ => sEntry (onBad (decide (other ≠ 0)) illegal) [] [] [] clsAlu)))

/-- LD (R117, R130). -/
def execLd (c : CoreNo) (last : Bool) (f : MForm) (s : State) :
    Host.Outcome State Fault Refusal :=
  .next (s.after (s.instr c.val last (gLoad true f)))

/-- LDU (R117, R130). -/
def execLdu (c : CoreNo) (last : Bool) (f : MForm) (s : State) :
    Host.Outcome State Fault Refusal :=
  .next (s.after (s.instr c.val last (gLoad false f)))

/-- ST (R117, R130). -/
def execSt (c : CoreNo) (last : Bool) (f : MForm) (s : State) :
    Host.Outcome State Fault Refusal :=
  .next (s.after (s.instr c.val last (gStore f)))

/-- LDA (R130). -/
def execLda (c : CoreNo) (last : Bool) (f : MForm) (s : State) :
    Host.Outcome State Fault Refusal :=
  .next (s.after (s.instr c.val last (aLoad f)))

/-- STA (R130). -/
def execSta (c : CoreNo) (last : Bool) (f : MForm) (s : State) :
    Host.Outcome State Fault Refusal :=
  .next (s.after (s.instr c.val last (aStore f)))

/-- ADDA (R124). -/
def execAdda (c : CoreNo) (last : Bool) (f : MForm) (s : State) :
    Host.Outcome State Fault Refusal :=
  .next (s.after (s.instr c.val last (addaOp f)))

/-- MOVA (R130). -/
def execMova (c : CoreNo) (last : Bool) (f : MForm) (s : State) :
    Host.Outcome State Fault Refusal :=
  .next (s.after (s.instr c.val last (movaOp f)))

/-- MOVG (R130). -/
def execMovg (c : CoreNo) (last : Bool) (f : MForm) (s : State) :
    Host.Outcome State Fault Refusal :=
  .next (s.after (s.instr c.val last (movgOp f)))

end Sys2Proof.Machine
end

