-- ==== Sys2Proof/Machine/SignalEngines.lean ====
section
/-! DEFINITION. The signal engines: MRT_FFT (R175 to R180), MRT_BFM (R181 to R186) and MRT_DET (R187 to R193). Results that
the rules give only within an accuracy deviate from the exact ones by values of `Config.unit`. -/

namespace Sys2Proof.Machine

/-- Units of `Config.unit`. -/
abbrev uFft : Nat := 20
abbrev uDet : Nat := 21
abbrev uApply : Nat := 22

/-! ## Beam engines -/

/-- L, A, shift, n_sc, gran and the number of weight groups. -/
structure Bfm where
  l : Nat
  a : Nat
  shift : Nat
  n : Nat
  gran : Nat
  groups : Nat
  sIn : Nat
  sOut : Nat
  deriving DecidableEq, Repr

def bfmOf (precode : Bool) (j : Job) : Bfm :=
  let l := j.f 0 11 8 + 1
  let a := j.f 0 21 16 + 1
  let n := j.f 1 44 32
  let gran := j.f 1 18 16
  ⟨l, a, j.f 0 4 0, n, gran, if gran = 5 then 1 else cdiv n (12 * 2 ^ gran), if precode then l else a, if precode then a else l⟩

/-- R184: fields, reserved bits and references of a Beam Engine job. -/
def bfmPlan (j : Job) : Plan :=
  let b := bfmOf (j.f 0 31 24 == 0) j
  ⟨clearOutside (j.w 0) [(47, 24), (21, 16), (11, 8), (4, 0)] && clearOutside (j.w 1) [(44, 32), (18, 16)] &&
      decide (1 ≤ b.n ∧ b.n ≤ 3300 ∧ b.gran ≤ 5) && brefClean (j.w 2) && brefClean (j.w 3) && brefClean (j.w 4) &&
      j.w 5 == 0 && j.w 6 == 0,
    [⟨2, b.sIn, 4 * b.n⟩, ⟨3, 1, 4 * b.groups * b.a * b.l⟩, ⟨4, b.sOut, 4 * b.n⟩], true⟩

/-- Output sample k of stream o (R183). -/
def bfmSample (b : Bfm) (xs : List (List Byte)) (ws : List Byte) (o k : Nat) : List Byte × Nat :=
  let g := if b.gran = 5 then 0 else k / (12 * 2 ^ b.gran)
  let acc := (List.range b.sIn).foldl (fun (acc : Int × Int) i =>
    let m := cmulI (sampleAt ws ((g * b.sOut + o) * b.sIn + i)) (sampleAt (xs.getD i []) k)
    (acc.1 + m.1, acc.2 + m.2)) (0, 0)
  narrowSample acc b.shift

/-- Cycles at 1.2 GHz of moving bytes at `gbs` GB/s, `dram` of them at the most that a half of DRAM sustains. [log 63] -/
def moveCycles (bytes dram gbs : Nat) : Nat := cdiv (((bytes - dram) * 111 + dram * gbs) * 12) (gbs * 1110)

/-- Cycles of R185: compute at 512 per cycle, 512 GB/s in and 256 GB/s out; for bytes in DRAM its own rate, which the two
delays leave open. [log 63] -/
def bfmCycles (b : Bfm) (dramIn dramOut delayIn delayOut : Nat) : Nat :=
  max (cdiv (b.n * b.a * b.l) 512)
    (max (moveCycles (4 * b.n * b.sIn + 4 * b.groups * b.a * b.l) dramIn 512 + delayIn)
      (moveCycles (4 * b.n * b.sOut) dramOut 256 + delayOut))

def bfmWork (precode : Bool) (j : Job) (s : State) : JobEnd × State :=
  let b := bfmOf precode j
  let weights := 4 * b.groups * b.a * b.l
  j.withInput 2 (4 * b.n) b.sIn s fun xs s =>
    j.withInput 3 weights 1 s fun ws s =>
      let outs := (List.range b.sOut).map fun o => streamOut b.n (bfmSample b xs (ws.getD 0 []) o)
      let dramIn := j.dramBytes 2 (4 * b.n * b.sIn) + j.dramBytes 3 weights
      let dramOut := j.dramBytes 4 (4 * b.n * b.sOut)
      let x := dramDelay dramIn s
      let y := dramDelay dramOut x.2
      (.done ((outs.map Prod.snd).foldl (· + ·) 0) (bfmCycles b dramIn dramOut x.1 y.1) (b.groups % 2 ^ 16)
        ((List.range b.sOut).map fun o => (j.stream 4 o, (outs.getD o ([], 0)).1)) [], y.2)

/-- BFM_PRECODE. -/
def execBfmPrecode (e : Fin 9) (s : State) : Host.Outcome State Fault Refusal :=
  .next (s.after (s.runJob e.val 1 2 0 bfmPlan (bfmWork true)))

/-- BFM_COMBINE. -/
def execBfmCombine (e : Fin 9) (s : State) : Host.Outcome State Fault Refusal :=
  .next (s.after (s.runJob e.val 1 2 1 bfmPlan (bfmWork false)))

/-! ## Detection engines -/

structure Det where
  l : Nat
  r : Nat
  gsz : Nat
  n : Nat
  groups : Nat
  symbols : Nat
  /-- Bytes of a weight record (R189). -/
  recLen : Nat
  deriving DecidableEq, Repr

def detOf (j : Job) : Det :=
  let l := j.f 0 19 16 + 1
  let r := j.f 0 15 12 + 1
  let n := j.f 1 44 32
  let gsz := j.f 0 9 8
  ⟨l, r, gsz, n, cdiv n (12 * 2 ^ gsz), j.f 1 3 0 + 1, 64 * cdiv (4 + 4 * r * l) 64⟩

/-- R192. -/
def detPlan (j : Job) : Plan :=
  let d := detOf j
  let op := j.f 0 31 24
  let base := clearOutside (j.w 0) [(47, 24), (19, 12), (9, 8)] && decide (d.gsz ≤ 2 ∧ d.l ≤ d.r ∧ 1 ≤ d.n ∧ d.n ≤ 3300) &&
    brefClean (j.w 2) && brefClean (j.w 3) && brefClean (j.w 4) && j.w 6 == 0
  if op = 2 then
    ⟨base && clearOutside (j.w 1) [(44, 32), (3, 0)] && decide (d.symbols ≤ 14) && j.w 5 == 0,
      [⟨2, d.r * d.symbols, 4 * d.n⟩, ⟨3, d.groups, d.recLen⟩, ⟨4, d.l * d.symbols, 4 * d.n⟩], true⟩
  else
    ⟨base && clearOutside (j.w 1) [(44, 32)] && brefClean (j.w 5),
      [⟨2, d.groups, 4 * d.r * d.l⟩, ⟨3, d.groups, if op = 0 then 4 * d.r else 4 * d.r * d.r⟩, ⟨4, d.groups, d.recLen⟩,
        ⟨5, d.groups, 2 * d.l⟩], true⟩

/-- The covariance of R188 as a matrix. -/
def covariance (r : Nat) (bs : List Byte) : List (List (Int × Int)) :=
  let word (i : Nat) : Nat := ofBytes ((bs.drop (4 * i)).take 4)
  let upper (i k : Nat) : Int × Int :=
    let n := (List.range i).foldl (fun n x => n + (r - 1 - x)) 0 + (k - i - 1)
    (sgn 32 (word (r + 2 * n)), sgn 32 (word (r + 2 * n + 1)))
  (List.range r).map fun i => (List.range r).map fun k =>
    if i = k then ((word i : Int), 0) else if i < k then upper i k else conjI true (upper k i)

/-- The inverse of the noise matrix as a matrix over a positive number: diag(v) / 4, or the covariance at the same scale;
a power of 0 is taken as 1 (R188). [log 65] -/
def noiseInverse (irc : Bool) (r : Nat) (noise : List Byte) : Mat × Int :=
  if irc then
    let x := Mat.adj r (covariance r noise)
    (x.2.map fun row => row.map fun y => (4 * y.1, 4 * y.2), x.1)
  else
    let v (i : Nat) : Int := ((max 1 (ofBytes ((noise.drop (4 * i)).take 4)) : Nat) : Int)
    let p := (List.range r).foldl (fun acc i => acc * v i) 1
    (matOf r r fun i j => if i = j then (4 * p / v i, 0) else (0, 0), p)

/-- The exact filter of R189 in fractions: with B / P = Hᴴ N⁻¹ H + I, the matrix B, its determinant, P · adj B's diagonal,
adj B, and adj B · Hᴴ N⁻¹ P. Row l of W is the last over det B − P · (adj B)_ll. -/
structure DetSolve where
  b : Mat
  det : Int
  diag : List Int
  adj : Mat
  rows : Mat
  deriving DecidableEq, Repr

def detSolve (irc : Bool) (d : Det) (h noise : List Byte) : DetSolve :=
  let hm := matOf d.r d.l fun r l => sampleAt h (r * d.l + l)
  let n := noiseInverse irc d.r noise
  let hn := Mat.mul d.l d.r d.r (hm.herm d.r d.l) n.1
  let hh := Mat.mul d.l d.r d.l hn hm
  let b := matOf d.l d.l fun i k => addI (hh.entry i k) (if i = k then (n.2, 0) else (0, 0))
  let x := Mat.solve d.l (d.l + d.r) b (matOf d.l (d.l + d.r) fun i k =>
    if k < d.l then (if i = k then (1, 0) else (0, 0)) else hn.entry i (k - d.l))
  ⟨b, x.1, (List.range d.l).map fun i => n.2 * (x.2.entry i i).1, matOf d.l d.l x.2.entry,
    matOf d.l d.r fun i k => x.2.entry i (d.l + k)⟩

/-- det B − P · (adj B)_ll: the layer's gain, times det B. -/
def DetSolve.gain (x : DetSolve) (l : Nat) : Int := x.det - x.diag.getD l 0

/-- The condition number of the matrix inverted is above 10^3, so that R189 gives no accuracy. [log 65] -/
def DetSolve.ill (x : DetSolve) : Bool := decide (x.b.power * x.adj.power > 1000000 * (x.det * x.det))

/-- Fractional bits of the exact filter before it is rounded. -/
abbrev detBits : Nat := 96

/-- Parts of the exact filter, layer by layer; 0 for a layer without gain. -/
def DetSolve.filter (x : DetSolve) : List Int :=
  (List.range x.rows.length).flatMap fun l =>
    (partsOf (x.rows.getD l [])).map fun v => if x.gain l = 0 then 0 else v * 2 ^ detBits / x.gain l

/-- A weight record and its SINR values (R189): ŵ = W · 2^(27 − e) within −55 dB, at the least e from −16 to 15 at which the
entries fit, and the floor of the SINR or 1 more. What the rule leaves open is open: all of it above the condition number
stated, and the weights of a layer without gain, whose bias correction divides by 0. A covariance that is not positive
definite gives zeros (R190). [log 6, 65] -/
def detRecord (irc : Bool) (d : Det) (h noise : List Byte) : List Byte × List Byte × Bool :=
  let key := [bitNat irc, d.r, d.l, ofBytes h, ofBytes noise]
  let n := 4 * d.r * d.l
  let made (e : Nat) (ws sinr : List Byte) : List Byte × List Byte × Bool :=
    (toBytes 4 (wrap 8 ((e : Int) - 16)) ++ ws ++ List.replicate (d.recLen - 4 - n) 0, sinr, false)
  if irc && !positive (covariance d.r noise) then (List.replicate d.recLen 0, List.replicate (2 * d.l) 0, true)
  else
    let x := detSolve irc d h noise
    let free := Config.unit uDet key
    if x.ill then made (free % 32) (toBytes n (free / 32)) (toBytes (2 * d.l) (free / 2 ^ (8 * n + 5)))
    else
      let near (e : Nat) : List Int := nearParts uDet key id 316228 (detBits - 43 + e) x.filter
      let e := ((List.range 32).find? fun e => fits16 (near e)).getD 31
      let ws := (parts16 (near e)).1
      made e ((List.range d.l).flatMap fun l =>
          let open' := toBytes (4 * d.r) (Config.unit uDet (l :: key))
          if x.gain l = 0 then open' else (ws.drop (4 * d.r * l)).take (4 * d.r))
        ((List.range d.l).flatMap fun l =>
          toBytes 2 (min 65535 ((16 * x.gain l / x.diag.getD l 1).toNat + Config.unit uDet ((d.l + l) :: key) % 2)))

def detBuild (irc : Bool) (j : Job) (s : State) : JobEnd × State :=
  let d := detOf j
  j.withInput 2 (4 * d.r * d.l) d.groups s fun hs s =>
    j.withInput 3 (if irc then 4 * d.r * d.r else 4 * d.r) d.groups s fun ns s =>
      let recs := (List.range d.groups).map fun g => detRecord irc d (hs.getD g []) (ns.getD g [])
      let m := max d.r d.l
      let c := if m ≤ 2 then 8 else if m ≤ 4 then 24 else if m ≤ 8 then 96 else 480
      (.done 0 (d.groups * c + 64) ((recs.filter fun x => x.2.2).length % 2 ^ 16)
        ((List.range d.groups).flatMap fun g =>
          let x := recs.getD g ([], [], false)
          [(j.stream 4 g, x.1), (j.stream 5 g, x.2.1)]) [], s)

/-- Output sample k of layer l (R191); an exponent above 15 leaves the shift open. [log 65] -/
def applySample (d : Det) (xs recs : List (List Byte)) (l k : Nat) : List Byte × Nat :=
  let rec' := recs.getD (k / (12 * 2 ^ d.gsz)) []
  let e := sgn 8 (ofBytes (rec'.take 1))
  let acc := (List.range d.r).foldl (fun (acc : Int × Int) r =>
    let m := cmulI (sampleAt (rec'.drop 4) (l * d.r + r)) (sampleAt (xs.getD r []) k)
    (acc.1 + m.1, acc.2 + m.2)) (0, 0)
  if e > 15 then (toBytes 4 (Config.unit uApply [ofBytes rec', l, wrap 64 acc.1, wrap 64 acc.2]), 0)
  else narrowSample acc (15 - e).toNat

def detApplyWork (j : Job) (s : State) : JobEnd × State :=
  let d := detOf j
  j.withInput 2 (4 * d.n) (d.r * d.symbols) s fun xs s =>
    j.withInput 3 d.recLen d.groups s fun recs s =>
      let outs := (List.range (d.l * d.symbols)).map fun o =>
        streamOut d.n (applySample d ((xs.drop (o / d.l * d.r)).take d.r) recs (o % d.l))
      (.done ((outs.map Prod.snd).foldl (· + ·) 0) (d.symbols * (cdiv (d.n * d.r * d.l) 64 + 2 * d.groups) + 48) 0
        ((List.range (d.l * d.symbols)).map fun o => (j.stream 4 o, (outs.getD o ([], 0)).1)) [], s)

/-- DET_W_MMSE. -/
def execDetWMmse (e : Fin 9) (s : State) : Host.Outcome State Fault Refusal :=
  .next (s.after (s.runJob (9 + e.val) 2 3 0 detPlan (detBuild false)))

/-- DET_W_IRC. -/
def execDetWIrc (e : Fin 9) (s : State) : Host.Outcome State Fault Refusal :=
  .next (s.after (s.runJob (9 + e.val) 2 3 1 detPlan (detBuild true)))

/-- DET_APPLY. -/
def execDetApply (e : Fin 9) (s : State) : Host.Outcome State Fault Refusal :=
  .next (s.after (s.runJob (9 + e.val) 2 3 2 detPlan detApplyWork))

/-! ## FFT engines -/

structure Fft where
  op : Nat
  n : Nat
  nsc : Nat
  slot : Nat
  first : Nat
  symbols : Nat
  streams : Nat
  half : Bool
  dc : Bool
  block : Bool
  shift : Nat
  /-- Window length W in samples; 0 for none. -/
  win : Nat
  /-- Prefix of each symbol in units of Tu/2,048. -/
  cps : List Nat
  perSlot : Nat
  deriving DecidableEq, Repr

/-- N of a size code (R175). -/
def fftSize (c : Nat) : Nat := if c ≤ 8 then 16 * 2 ^ c else if c = 9 then 1536 else 3072

/-- The job with its CP table as the engine's registers hold it (R176). -/
def fftOf (s : State) (j : Job) : Fft :=
  let n := fftSize (j.f 0 23 20)
  let t := j.f 0 19 16 % 8
  let op := j.f 0 31 24
  let cp := s.reg (MRT_FFT_CP j.e t)
  let rule := s.reg (MRT_FFT_CP_RULE j.e t)
  let slot := j.f 1 31 29
  let first := j.f 0 7 4
  let symbols := j.f 1 23 20 + 1
  let long := slot % 2 ^ bitsOf rule 9 8 == 0
  ⟨op, n, if j.f 1 44 32 = 0 then n else j.f 1 44 32, slot, first, symbols, j.f 4 5 0 + 1, bitOf (j.w 1) 11,
    bitOf (j.w 1) 10, bitOf (j.w 1) 8, j.f 1 7 4, 8 * j.f 0 13 10,
    (List.range symbols).map fun i =>
      if op ≥ 2 then 0 else if long && bitOf rule (16 + first + i) then bitsOf cp 31 16 else bitsOf cp 15 0, bitsOf rule 3 0⟩

/-- Prefix of symbol i in samples. -/
def Fft.cp (f : Fft) (i : Nat) : Nat := f.cps.getD i 0 * f.n / 2048

/-- Samples of one stream on the time side. -/
def Fft.samples (f : Fft) : Nat :=
  (List.range f.symbols).foldl (fun t i => t + f.n + f.cp i) 0 + if f.op = 1 then f.win else 0

/-- R179. -/
def fftPlan (s : State) (j : Job) : Plan :=
  let f := fftOf s j
  let whole := f.cps.all fun c => c * f.n % 2048 == 0
  ⟨clearOutside (j.w 0) [(47, 10), (7, 4)] && clearOutside (j.w 1) [(44, 32), (31, 29), (23, 20), (11, 4)] &&
      decide (j.f 0 23 20 ≤ 10 ∧ j.f 0 19 16 ≤ 7 ∧ j.f 0 13 10 ≤ 8 ∧ j.f 1 44 32 ≤ f.n ∧ j.f 1 9 8 ≤ 1 ∧ f.shift ≤ 12) &&
      decide (f.first + f.symbols ≤ f.perSlot) && whole && (f.op == 1 || f.win == 0) &&
      (f.win == 0 || (List.range f.symbols).all fun i => decide (f.win ≤ f.cp i)) &&
      brefClean (j.w 2) && brefClean (j.w 3) && clearOutside (j.w 4) [(5, 0)] &&
      (if f.block then brefClean (j.w 5) && j.w 5 != 0 else j.w 5 == 0) && j.w 6 == 0,
    [⟨2, f.streams, 4 * f.samples⟩, ⟨3, f.streams, 4 * f.nsc * f.symbols⟩] ++
      (if f.block then [⟨5, 1, f.symbols * f.streams⟩] else []), true⟩

/-- The FFT bin of frequency-side index `i` (R178). -/
def Fft.bin (f : Fft) (i : Nat) : Int := (i : Int) - (f.nsc / 2 : Nat) + bitNat (f.dc && decide (f.nsc / 2 ≤ i))

/-- The phase of index `i` at sample `n` of the useful symbol, in turns of 1/(2N): with half a spacing more where half is 1,
running on through prefix and suffix (R178). [log 65] -/
def Fft.turn (f : Fft) (i : Nat) (n : Int) : Int := (2 * f.bin i + bitNat f.half) * n

/-- X[k] of R175 for index `i`, with `rootBits` fractional bits. -/
def Fft.forwardAt (f : Fft) (roots xs : Array (Int × Int)) (i : Nat) : Int × Int :=
  sumI f.n fun n => cmulI (xs.getD n (0, 0)) (rootAt roots (-f.turn i n))

/-- x[n] of R175, for any n from the prefix to the suffix, with `rootBits` fractional bits. -/
def Fft.inverseAt (f : Fft) (roots xs : Array (Int × Int)) (n : Int) : Int × Int :=
  sumI f.nsc fun i => cmulI (xs.getD i (0, 0)) (rootAt roots (f.turn i n))

/-- One symbol scaled and narrowed within R178: its exponent, how many parts saturated, and its samples. Under block
scaling the exponent is the least at which every part fits. `place` says which samples are one value. [log 6, 65] -/
def Fft.narrow (f : Fft) (key : List Nat) (place : Nat → Nat) (bits : Nat) (vs : List (Int × Int)) : Nat × Nat × List Byte :=
  let near (shift : Nat) : List Int :=
    nearParts uFft key (fun i => 2 * place (i / 2) + i % 2) 31622777 (bits + shift) (partsOf vs)
  let e := if f.block then ((List.range 13).find? fun e => fits16 (near e)).getD 12 else 0
  let r := parts16 (near (if f.block then e else f.shift))
  (e, r.2, r.1)

def samplesOf (n : Nat) (bs : List Byte) : Array (Int × Int) := ((List.range n).map (sampleAt bs)).toArray

/-- One stream of a forward job: the samples after each prefix are transformed. -/
def fftForward (f : Fft) (roots : Array (Int × Int)) (bs : List Byte) : List (Nat × Nat × List Byte) :=
  (List.range f.symbols).map fun i =>
    let start := (List.range i).foldl (fun t k => t + f.n + f.cp k) (f.cp i)
    let input := (bs.drop (4 * start)).take (4 * f.n)
    f.narrow [f.n, f.nsc, bitNat f.half, bitNat f.dc, ofBytes input] id rootBits
      ((List.range f.nsc).map (f.forwardAt roots (samplesOf f.n input)))

/-- Coefficient of sample `i` of the rising half of the job's window, Q15 (R177). [log 64] -/
def Fft.rising (f : Fft) (table : List Int) (i : Nat) : Int := table.getD (i * 64 / max 1 f.win) 0

def scaleI (c : Int) (a : Int × Int) : Int × Int := (c * a.1, c * a.2)

/-- One stream of an inverse job: N samples behind a prefix that repeats their end; a window weights the first W samples
and a suffix, which the next symbol adds, or which is written behind the last symbol (R177). [log 64] -/
def fftInverse (f : Fft) (roots : Array (Int × Int)) (table : List Int) (bs : List Byte) : List (Nat × Nat × List Byte) :=
  let value (m : Nat) (n : Int) : Int × Int :=
    f.inverseAt roots (samplesOf f.nsc ((bs.drop (4 * f.nsc * m)).take (4 * f.nsc))) n
  let suffix (m i : Nat) : Int × Int := scaleI (f.rising table (f.win - 1 - i)) (value m ((f.n + i : Nat) : Int))
  (List.range f.symbols).map fun m =>
    let main := (List.range (f.cp m + f.n)).map fun k =>
      let v := scaleI (if k < f.win then f.rising table k else 2 ^ 15) (value m ((k : Int) - f.cp m))
      if k < f.win ∧ 0 < m then addI v (suffix (m - 1) k) else v
    let copied (k : Nat) : Nat := if !f.half ∧ f.win ≤ k ∧ k < f.cp m then k + f.n else k
    f.narrow [f.n, f.nsc, bitNat f.half, bitNat f.dc, f.win, m, ofBytes bs] copied (rootBits + 15)
      (main ++ if m + 1 = f.symbols then (List.range f.win).map (suffix m) else [])

/-- Cycles of R180. -/
def fftCycles (f : Fft) : Nat :=
  let p := if f.n = 1536 ∨ f.n = 3072 then 12 else 16
  f.streams * (List.range f.symbols).foldl (fun t i => t + cdiv f.n p + cdiv (f.cp i) p + 16 * bitNat f.block) 0 + 96

def fftWork (j : Job) (s : State) : JobEnd × State :=
  let f := fftOf s j
  let fwd := f.op == 0 || f.op == 2
  let table : List Int := (List.range 64).map fun i => sgn 16 (s.reg (MRT_FFT_WIN j.e (j.f 0 15 14) (i / 2)) / 2 ^ (16 * (i % 2)))
  let roots := rootTable (2 * f.n)
  let inWord := if fwd then 2 else 3
  let outWord := if fwd then 3 else 2
  j.withInput inWord (if fwd then 4 * f.samples else 4 * f.nsc * f.symbols) f.streams s fun xs s =>
    let res := (List.range f.streams).map fun i =>
      if fwd then fftForward f roots (xs.getD i []) else fftInverse f roots table (xs.getD i [])
    let outs := (List.range f.streams).map fun i => (j.stream outWord i, ((res.getD i []).map fun y => y.2.2).flatten)
    let exps : List Byte := (List.range f.symbols).flatMap fun m =>
      res.map fun r => BitVec.ofNat 8 ((r.getD m (0, 0, [])).1)
    let all := res.flatten
    (.done ((all.map fun y => y.2.1).foldl (· + ·) 0) (fftCycles f)
      (f.symbols * f.streams + 2 ^ 32 * (all.map Prod.fst).foldl max 0)
      (outs ++ if f.block then [(j.stream 5 0, exps)] else []) [], s)

def State.fftJob (s : State) (e op : Nat) : State := s.runJob (18 + e) 3 4 op (fftPlan s) fftWork

/-- FFT_FWD_CP. -/
def execFftFwdCp (e : Fin 7) (s : State) : Host.Outcome State Fault Refusal := .next (s.after (s.fftJob e.val 0))

/-- FFT_INV_CP. -/
def execFftInvCp (e : Fin 7) (s : State) : Host.Outcome State Fault Refusal := .next (s.after (s.fftJob e.val 1))

/-- FFT_FWD. -/
def execFftFwd (e : Fin 7) (s : State) : Host.Outcome State Fault Refusal := .next (s.after (s.fftJob e.val 2))

/-- FFT_INV. -/
def execFftInv (e : Fin 7) (s : State) : Host.Outcome State Fault Refusal := .next (s.after (s.fftJob e.val 3))

end Sys2Proof.Machine
end

