-- ==== Sys2Proof/Machine/TrussCommands.lean ====
section
/-! DEFINITION. The commands of the Truss and the Ledger (04). -/

namespace Sys2Proof.Machine

/-- DOORBELL (R77). -/
def execDoorbell (r : Requester) (q : QueueNo) (p : BitVec 32) (s : State) : Host.Outcome State Fault Refusal :=
  .next (s.after (s.write32 r (TRS_DB q.val) p))

/-- FRAME_FETCH (R78). -/
def execFrameFetch (q : QueueNo) (s : State) : Host.Outcome State Fault Refusal := .next (s.after (s.frameFetch q.val))

/-- FRAME_ACCEPTED (R79). -/
def execFrameAccepted (q : QueueNo) (s : State) : Host.Outcome State Fault Refusal := .next (s.after (s.acceptFrame q.val))

/-- ADMISSION_ROOM (R96). -/
def execAdmissionRoom (q : QueueNo) (s : State) : Host.Outcome State Fault Refusal := .next (s.after (s.admissionRoom q.val))

/-- TASK_DEADLINE (R91). -/
def execTaskDeadline (rec : RecNo) (s : State) : Host.Outcome State Fault Refusal := .next (s.after (s.deadlineDue rec.toNat))

/-- TASK_GRACE_EXPIRY (R91). -/
def execTaskGraceExpiry (rec : RecNo) (s : State) : Host.Outcome State Fault Refusal := .next (s.after (s.graceDue rec.toNat))

/-- CLOSURE_DURABLE (R84). -/
def execClosureDurable (rec : RecNo) (s : State) : Host.Outcome State Fault Refusal :=
  .next (s.after (s.closureDurable rec.toNat))

/-- COMPLETION_DELIVERY (R94). -/
def execCompletionDelivery (q : QueueNo) (s : State) : Host.Outcome State Fault Refusal := .next (s.after (s.deliver q.val))

/-- DELIVERY_RETRY (R94): 10 µs after the delivery failed. -/
def execDeliveryRetry (q : QueueNo) (s : State) : Host.Outcome State Fault Refusal :=
  .next (s.after (
    if (s.q q.val).delay = 6 then (s.untilTick (s.ridge.ticks + 10000)).retryDelivery q.val else s))

/-- CR_CONS_WRITE (R94). -/
def execCrConsWrite (r : Requester) (b : BayNo) (ring : Fin 16) (v : BitVec 32) (s : State) : Host.Outcome State Fault Refusal :=
  .next (s.after (s.write32 r (TRS_CR_CONS b.val ring.val) v))

/-- CR_CTL_WRITE (R94). -/
def execCrCtlWrite (r : Requester) (b : BayNo) (ring : Fin 16) (v : BitVec 32) (s : State) : Host.Outcome State Fault Refusal :=
  .next (s.after (s.write32 r (TRS_CR_CTL b.val ring.val) v))

/-- CANCEL (R99). -/
def execCancel (r : Requester) (q : QueueNo) (seqLow : BitVec 32) (s : State) : Host.Outcome State Fault Refusal :=
  .next (s.after (s.write32 r (TRS_DB_CANCEL q.val) seqLow))

/-- CANCEL_ALL (R99). -/
def execCancelAll (r : Requester) (q : QueueNo) (v : BitVec 32) (s : State) : Host.Outcome State Fault Refusal :=
  .next (s.after (s.write32 r (TRS_DB_CANCEL_ALL q.val) (v ||| 1)))

/-- The word of TRS_DRAIN (R111). -/
def drainWord (c : BitVec 8) (drain force : Bool) : BitVec 32 :=
  BitVec.ofNat 32 (c.toNat + 2 ^ 8 * bitNat drain + 2 ^ 16 * bitNat force)

/-- CONSUMER_DRAIN (R101). -/
def execConsumerDrain (r : Requester) (c : BitVec 8) (force : Bool) (s : State) : Host.Outcome State Fault Refusal :=
  .next (s.after (s.write32 r TRS_DRAIN (drainWord c true force)))

/-- CONSUMER_REJOIN (R101). -/
def execConsumerRejoin (r : Requester) (c : BitVec 8) (force : Bool) (s : State) : Host.Outcome State Fault Refusal :=
  .next (s.after (s.write32 r TRS_DRAIN (drainWord c false force)))

/-- DRAIN_COMPLETE (R101). -/
def execDrainComplete (s : State) : Host.Outcome State Fault Refusal := .next (s.after s.drainDone)

/-- QUEUE_CONFIG (R111): the queue is the one that TRS_QSEL of the view names. -/
def execQueueConfig (r : Requester) (b : BayNo) (v : BitVec 32) (s : State) : Host.Outcome State Fault Refusal :=
  .next (s.after (s.write32 r (TRS_Q_CFG b.val) v))

/-- QUEUE_MOVE (R102). -/
def execQueueMove (q : QueueNo) (s : State) : Host.Outcome State Fault Refusal := .next (s.after (s.queueMove q.val))

/-- A consumer in R82's encoding. -/
def consumerCode : Consumer → Nat
  | .core c => c.val
  | .engine e => 128 + e.val

/-- CONSUMER_FAULT (R84). -/
def execConsumerFault (c : Consumer) (s : State) : Host.Outcome State Fault Refusal :=
  .next (s.after (
    let t := s.consumerFault (consumerCode c)
    match c with
    | .core _ => t
    | .engine e => if (s.eng e.val).task.isSome then t.setEng e.val { t.eng e.val with task := none, report := none } else t))

/-- TRUSS_REBUILD (R104). -/
def execTrussRebuild (s : State) : Host.Outcome State Fault Refusal := .next (s.after s.rebuild)

/-- LEDGER_MIRROR_FAIL (R106). -/
def execLedgerMirrorFail (m : Fin 2) (s : State) : Host.Outcome State Fault Refusal := .next (s.after (s.mirrorFail m.val))

/-- LEDGER_RESYNC (R106). -/
def execLedgerResync (s : State) : Host.Outcome State Fault Refusal := .next (s.after s.resync)

/-- LDG_REGION_WRITE (R112). -/
def execLdgRegionWrite (r : Requester) (b : BayNo) (v : BitVec 32) (s : State) : Host.Outcome State Fault Refusal :=
  .next (s.after (s.write32 r (LDG_REGION b.val) v))

/-- LEDGER_RD_FETCH (R112). -/
def execLedgerRdFetch (r : Requester) (v : BitVec 32) (s : State) : Host.Outcome State Fault Refusal :=
  .next (s.after (s.write32 r LDG_RD_IDX v))

end Sys2Proof.Machine
end

