-- ==== Sys2Proof/Machine/VectorCommands.lean ====
section
/-! DEFINITION. The vector instructions (R148, R154 to R158). -/

namespace Sys2Proof.Machine

/-- VADD (R154). -/
def execVadd (c : CoreNo) (last : Bool) (f : VForm) (s : State) :
    Host.Outcome State Fault Refusal :=
  .next (s.after (s.instr c.val last (vBin vArith clsAlu (fun _ a b => a + b) f)))

/-- VSUB (R154). -/
def execVsub (c : CoreNo) (last : Bool) (f : VForm) (s : State) :
    Host.Outcome State Fault Refusal :=
  .next (s.after (s.instr c.val last (vBin vArith clsAlu (fun _ a b => a - b) f)))

/-- VNEG (R154). -/
def execVneg (c : CoreNo) (last : Bool) (f : VForm) (s : State) :
    Host.Outcome State Fault Refusal :=
  .next (s.after (s.instr c.val last (vUn (fun a => -a) f)))

/-- VABS (R154). -/
def execVabs (c : CoreNo) (last : Bool) (f : VForm) (s : State) :
    Host.Outcome State Fault Refusal :=
  .next (s.after (s.instr c.val last (vUn (fun a => (a.natAbs : Int)) f)))

/-- VMIN (R154). -/
def execVmin (c : CoreNo) (last : Bool) (f : VForm) (s : State) :
    Host.Outcome State Fault Refusal :=
  .next (s.after (s.instr c.val last (vBin vPlain clsAlu (fun _ a b => min a b) f)))

/-- VMAX (R154). -/
def execVmax (c : CoreNo) (last : Bool) (f : VForm) (s : State) :
    Host.Outcome State Fault Refusal :=
  .next (s.after (s.instr c.val last (vBin vPlain clsAlu (fun _ a b => max a b) f)))

/-- VAND (R154). -/
def execVand (c : CoreNo) (last : Bool) (f : VForm) (s : State) :
    Host.Outcome State Fault Refusal :=
  .next (s.after (s.instr c.val last (vBits (fun _ a b => Nat.land a b) f)))

/-- VOR (R154). -/
def execVor (c : CoreNo) (last : Bool) (f : VForm) (s : State) :
    Host.Outcome State Fault Refusal :=
  .next (s.after (s.instr c.val last (vBits (fun _ a b => Nat.lor a b) f)))

/-- VXOR (R154). -/
def execVxor (c : CoreNo) (last : Bool) (f : VForm) (s : State) :
    Host.Outcome State Fault Refusal :=
  .next (s.after (s.instr c.val last (vBits (fun _ a b => Nat.xor a b) f)))

/-- VBIC (R154). -/
def execVbic (c : CoreNo) (last : Bool) (f : VForm) (s : State) :
    Host.Outcome State Fault Refusal :=
  .next (s.after (s.instr c.val last (vBits (fun w a b => Nat.land a (2 ^ w - 1 - b)) f)))

/-- VSHL (R154). -/
def execVshl (c : CoreNo) (last : Bool) (f : VForm) (s : State) :
    Host.Outcome State Fault Refusal :=
  .next (s.after (s.instr c.val last (vShl f)))

/-- VSHR (R154). -/
def execVshr (c : CoreNo) (last : Bool) (f : VForm) (s : State) :
    Host.Outcome State Fault Refusal :=
  .next (s.after (s.instr c.val last (vBits (fun w a b => a / 2 ^ (b % w)) f)))

/-- VSAR (R154). -/
def execVsar (c : CoreNo) (last : Bool) (f : VForm) (s : State) :
    Host.Outcome State Fault Refusal :=
  .next (s.after (s.instr c.val last (vBits (fun w a b => wrap w (sgn w a / (2 ^ (b % w) : Nat))) f)))

/-- VRSAR (R154). -/
def execVrsar (c : CoreNo) (last : Bool) (f : VForm) (s : State) :
    Host.Outcome State Fault Refusal :=
  .next (s.after (s.instr c.val last (vBits (fun w a b => wrap w (rnd (sgn w a) (b % w))) f)))

/-- VQDMULH (R154). -/
def execVqdmulh (c : CoreNo) (last : Bool) (f : VForm) (s : State) :
    Host.Outcome State Fault Refusal :=
  .next (s.after (s.instr c.val last (vBin ⟨true, true, true, true, false, true, [1, 2]⟩ clsMul (fun w a b => rnd (2 * a * b) w) f)))

/-- VCMUL (R154). -/
def execVcmul (c : CoreNo) (last : Bool) (f : VForm) (s : State) :
    Host.Outcome State Fault Refusal :=
  .next (s.after (s.instr c.val last (vCmul f)))

/-- VCMAC (R154). -/
def execVcmac (c : CoreNo) (last : Bool) (f : VForm) (s : State) :
    Host.Outcome State Fault Refusal :=
  .next (s.after (s.instr c.val last (vCmac f)))

/-- VMAC (R154). -/
def execVmac (c : CoreNo) (last : Bool) (f : VForm) (s : State) :
    Host.Outcome State Fault Refusal :=
  .next (s.after (s.instr c.val last (vMac f)))

/-- VMAC2 (R154). -/
def execVmac2 (c : CoreNo) (last : Bool) (f : VForm) (s : State) :
    Host.Outcome State Fault Refusal :=
  .next (s.after (s.instr c.val last (vMac2 f)))

/-- VMCLR (R154). -/
def execVmclr (c : CoreNo) (last : Bool) (f : VForm) (s : State) :
    Host.Outcome State Fault Refusal :=
  .next (s.after (s.instr c.val last (vMclr f)))

/-- VNARROW (R154). -/
def execVnarrow (c : CoreNo) (last : Bool) (f : VForm) (s : State) :
    Host.Outcome State Fault Refusal :=
  .next (s.after (s.instr c.val last (vNarrow f)))

/-- VNARW (R154). -/
def execVnarw (c : CoreNo) (last : Bool) (f : VForm) (s : State) :
    Host.Outcome State Fault Refusal :=
  .next (s.after (s.instr c.val last (vNarw f)))

/-- VMFM (R154). -/
def execVmfm (c : CoreNo) (last : Bool) (f : VForm) (s : State) :
    Host.Outcome State Fault Refusal :=
  .next (s.after (s.instr c.val last (vMfm f)))

/-- VMTM (R154). -/
def execVmtm (c : CoreNo) (last : Bool) (f : VForm) (s : State) :
    Host.Outcome State Fault Refusal :=
  .next (s.after (s.instr c.val last (vMtm f)))

/-- VCMP.EQ (R154). -/
def execVcmpEq (c : CoreNo) (last : Bool) (f : VForm) (s : State) :
    Host.Outcome State Fault Refusal :=
  .next (s.after (s.instr c.val last (vCmp (fun _ a b => a == b) f)))

/-- VCMP.NE (R154). -/
def execVcmpNe (c : CoreNo) (last : Bool) (f : VForm) (s : State) :
    Host.Outcome State Fault Refusal :=
  .next (s.after (s.instr c.val last (vCmp (fun _ a b => a != b) f)))

/-- VCMP.LT (R154). -/
def execVcmpLt (c : CoreNo) (last : Bool) (f : VForm) (s : State) :
    Host.Outcome State Fault Refusal :=
  .next (s.after (s.instr c.val last (vCmp (fun w a b => decide (sgn w a < sgn w b)) f)))

/-- VCMP.LE (R154). -/
def execVcmpLe (c : CoreNo) (last : Bool) (f : VForm) (s : State) :
    Host.Outcome State Fault Refusal :=
  .next (s.after (s.instr c.val last (vCmp (fun w a b => decide (sgn w a ≤ sgn w b)) f)))

/-- VCMP.LTU (R154). -/
def execVcmpLtu (c : CoreNo) (last : Bool) (f : VForm) (s : State) :
    Host.Outcome State Fault Refusal :=
  .next (s.after (s.instr c.val last (vCmp (fun _ a b => decide (a < b)) f)))

/-- VCMP.LEU (R154). -/
def execVcmpLeu (c : CoreNo) (last : Bool) (f : VForm) (s : State) :
    Host.Outcome State Fault Refusal :=
  .next (s.after (s.instr c.val last (vCmp (fun _ a b => decide (a ≤ b)) f)))

/-- VSEL (R154). -/
def execVsel (c : CoreNo) (last : Bool) (f : VForm) (s : State) :
    Host.Outcome State Fault Refusal :=
  .next (s.after (s.instr c.val last (vSel f)))

/-- VDUP (R154). -/
def execVdup (c : CoreNo) (last : Bool) (f : VForm) (s : State) :
    Host.Outcome State Fault Refusal :=
  .next (s.after (s.instr c.val last (vDup f)))

/-- VRADD (R154). -/
def execVradd (c : CoreNo) (last : Bool) (f : VForm) (s : State) :
    Host.Outcome State Fault Refusal :=
  .next (s.after (s.instr c.val last (vRadd f)))

/-- VPERM (R154). -/
def execVperm (c : CoreNo) (last : Bool) (f : VForm) (s : State) :
    Host.Outcome State Fault Refusal :=
  .next (s.after (s.instr c.val last (vPerm f)))

/-- VSPAN (R154). -/
def execVspan (c : CoreNo) (last : Bool) (f : VForm) (s : State) :
    Host.Outcome State Fault Refusal :=
  .next (s.after (s.instr c.val last (vSpan f)))

/-- VLANES (R154). -/
def execVlanes (c : CoreNo) (last : Bool) (f : VForm) (s : State) :
    Host.Outcome State Fault Refusal :=
  .next (s.after (s.instr c.val last (vLanes f)))

/-- MKALL (R154). -/
def execMkall (c : CoreNo) (last : Bool) (f : VForm) (s : State) :
    Host.Outcome State Fault Refusal :=
  .next (s.after (s.instr c.val last (mkAll f)))

/-- MKAND (R154). -/
def execMkand (c : CoreNo) (last : Bool) (f : VForm) (s : State) :
    Host.Outcome State Fault Refusal :=
  .next (s.after (s.instr c.val last (mkBin Nat.land f)))

/-- MKOR (R154). -/
def execMkor (c : CoreNo) (last : Bool) (f : VForm) (s : State) :
    Host.Outcome State Fault Refusal :=
  .next (s.after (s.instr c.val last (mkBin Nat.lor f)))

/-- MKBIC (R154). -/
def execMkbic (c : CoreNo) (last : Bool) (f : VForm) (s : State) :
    Host.Outcome State Fault Refusal :=
  .next (s.after (s.instr c.val last (mkBin (fun a b => Nat.land a (2 ^ 128 - 1 - b)) f)))

/-- MKCNT (R154). -/
def execMkcnt (c : CoreNo) (last : Bool) (f : VForm) (s : State) :
    Host.Outcome State Fault Refusal :=
  .next (s.after (s.instr c.val last (mkCnt f)))

/-- MKTOV (R154). -/
def execMktov (c : CoreNo) (last : Bool) (f : VForm) (s : State) :
    Host.Outcome State Fault Refusal :=
  .next (s.after (s.instr c.val last (mkToV f)))

/-- VTOMK (R154). -/
def execVtomk (c : CoreNo) (last : Bool) (f : VForm) (s : State) :
    Host.Outcome State Fault Refusal :=
  .next (s.after (s.instr c.val last (vToMk f)))

/-- RUNSET (R154). -/
def execRunset (c : CoreNo) (last : Bool) (f : VForm) (s : State) :
    Host.Outcome State Fault Refusal :=
  .next (s.after (s.instr c.val last (runWriteOp noUse 128 [] f)))

/-- RUNMK (R154). -/
def execRunmk (c : CoreNo) (last : Bool) (f : VForm) (s : State) :
    Host.Outcome State Fault Refusal :=
  .next (s.after (s.instr c.val last (runMk f)))

/-- RUNPUT (R154). -/
def execRunput (c : CoreNo) (last : Bool) (f : VForm) (s : State) :
    Host.Outcome State Fault Refusal :=
  .next (s.after (s.instr c.val last (fun k => runWriteOp ⟨true, false, false, false, false, false, []⟩ (min (k.G f.ra.toNat) 128) [regG f.ra.toNat] f k)))

/-- RUNGET (R154). -/
def execRunget (c : CoreNo) (last : Bool) (f : VForm) (s : State) :
    Host.Outcome State Fault Refusal :=
  .next (s.after (s.instr c.val last (runGet f)))

/-- VLD (R148). -/
def execVld (c : CoreNo) (last : Bool) (f : VMForm) (s : State) :
    Host.Outcome State Fault Refusal :=
  .next (s.after (s.instr c.val last (vmLoad 1 f)))

/-- VST (R148). -/
def execVst (c : CoreNo) (last : Bool) (f : VMForm) (s : State) :
    Host.Outcome State Fault Refusal :=
  .next (s.after (s.instr c.val last (vmStore 1 f)))

/-- VSPLIT2 (R155). -/
def execVsplit2 (c : CoreNo) (last : Bool) (f : VMForm) (s : State) :
    Host.Outcome State Fault Refusal :=
  .next (s.after (s.instr c.val last (vmLoad 2 f)))

/-- VSPLIT3 (R155). -/
def execVsplit3 (c : CoreNo) (last : Bool) (f : VMForm) (s : State) :
    Host.Outcome State Fault Refusal :=
  .next (s.after (s.instr c.val last (vmLoad 3 f)))

/-- VSPLIT4 (R155). -/
def execVsplit4 (c : CoreNo) (last : Bool) (f : VMForm) (s : State) :
    Host.Outcome State Fault Refusal :=
  .next (s.after (s.instr c.val last (vmLoad 4 f)))

/-- VWEAVE2 (R155). -/
def execVweave2 (c : CoreNo) (last : Bool) (f : VMForm) (s : State) :
    Host.Outcome State Fault Refusal :=
  .next (s.after (s.instr c.val last (vmStore 2 f)))

/-- VWEAVE3 (R155). -/
def execVweave3 (c : CoreNo) (last : Bool) (f : VMForm) (s : State) :
    Host.Outcome State Fault Refusal :=
  .next (s.after (s.instr c.val last (vmStore 3 f)))

/-- VWEAVE4 (R155). -/
def execVweave4 (c : CoreNo) (last : Bool) (f : VMForm) (s : State) :
    Host.Outcome State Fault Refusal :=
  .next (s.after (s.instr c.val last (vmStore 4 f)))

/-- VGATH (R156). -/
def execVgath (c : CoreNo) (last : Bool) (f : VMForm) (s : State) :
    Host.Outcome State Fault Refusal :=
  .next (s.after (s.instr c.val last (vmGather f)))

/-- VSCAT (R158). -/
def execVscat (c : CoreNo) (last : Bool) (f : VMForm) (s : State) :
    Host.Outcome State Fault Refusal :=
  .next (s.after (s.instr c.val last (vmScatter f)))

end Sys2Proof.Machine
end

