-- ==== Sys2Proof/Machine/Dispatch.lean ====
section
/-! DEFINITION. One arm per command: the meaning it calls. -/

namespace Sys2Proof.Machine

/-- The effect of a command on everything but the queue. -/
def exec (i : Instr) (s : State) : Host.Outcome State Fault Refusal :=
  match i with
  | .registerWrite r a size v => Sys2Proof.Machine.execRegisterWrite r a size v s
  | .rcRead r second a sameCycleEvent => Sys2Proof.Machine.execRcRead r second a sameCycleEvent s
  | .wideLatchRead r a => Sys2Proof.Machine.execWideLatchRead r a s
  | .wideStageWrite r a v => Sys2Proof.Machine.execWideStageWrite r a v s
  | .wideLatchCommit r a v => Sys2Proof.Machine.execWideLatchCommit r a v s
  | .ownerLock r page => Sys2Proof.Machine.execOwnerLock r page s
  | .softReset r page => Sys2Proof.Machine.execSoftReset r page s
  | .softResetDone page => Sys2Proof.Machine.execSoftResetDone page s
  | .irqRawClear r page v sameCycleEvent => Sys2Proof.Machine.execIrqRawClear r page v sameCycleEvent s
  | .irqEnWrite r page v => Sys2Proof.Machine.execIrqEnWrite r page v s
  | .irqForce r page v => Sys2Proof.Machine.execIrqForce r page v s
  | .errCaptClear r page v => Sys2Proof.Machine.execErrCaptClear r page v s
  | .ownerChange r page v => Sys2Proof.Machine.execOwnerChange r page v s
  | .scribeDrain => Sys2Proof.Machine.execScribeDrain s
  | .scribeFetch r n v => Sys2Proof.Machine.execScribeFetch r n v s
  | .scribeFetchDone n => Sys2Proof.Machine.execScribeFetchDone n s
  | .heartbeatStall => Sys2Proof.Machine.execHeartbeatStall s
  | .adjCommit r ns => Sys2Proof.Machine.execAdjCommit r ns s
  | .slewComplete => Sys2Proof.Machine.execSlewComplete s
  | .relock r v => Sys2Proof.Machine.execRelock r v s
  | .rateWrite r lo => Sys2Proof.Machine.execRateWrite r lo s
  | .phaseSourceQualify src => Sys2Proof.Machine.execPhaseSourceQualify src s
  | .servoMeasurement valid sec ns frac freqErr rateAfter => Sys2Proof.Machine.execServoMeasurement valid sec ns frac freqErr rateAfter s
  | .phaseSourceLost => Sys2Proof.Machine.execPhaseSourceLost s
  | .measurementTimeout => Sys2Proof.Machine.execMeasurementTimeout s
  | .holdoverExpiry => Sys2Proof.Machine.execHoldoverExpiry s
  | .sourceQualify src => Sys2Proof.Machine.execSourceQualify src s
  | .sourceLoss src => Sys2Proof.Machine.execSourceLoss src s
  | .sourceDisqualify src => Sys2Proof.Machine.execSourceDisqualify src s
  | .dpllAFail => Sys2Proof.Machine.execDpllAFail s
  | .txsPop r => Sys2Proof.Machine.execTxsPop r s
  | .ppsOutEdge k => Sys2Proof.Machine.execPpsOutEdge k s
  | .ppsInEdge j rising quarter => Sys2Proof.Machine.execPpsInEdge j rising quarter s
  | .todRxMessage bytes sincePulseMs => Sys2Proof.Machine.execTodRxMessage bytes sincePulseMs s
  | .todTxSend => Sys2Proof.Machine.execTodTxSend s
  | .extCaptureEdge j rising quarter widthNs => Sys2Proof.Machine.execExtCaptureEdge j rising quarter widthNs s
  | .capPop r j => Sys2Proof.Machine.execCapPop r j s
  | .carrierConfig r c v => Sys2Proof.Machine.execCarrierConfig r c v s
  | .carrierStart c => Sys2Proof.Machine.execCarrierStart c s
  | .gridEvent c => Sys2Proof.Machine.execGridEvent c s
  | .timerArm r k v => Sys2Proof.Machine.execTimerArm r k v s
  | .timerClearFlags r k v => Sys2Proof.Machine.execTimerClearFlags r k v s
  | .timerFire k => Sys2Proof.Machine.execTimerFire k s
  | .doorbell r q p => Sys2Proof.Machine.execDoorbell r q p s
  | .frameFetch q => Sys2Proof.Machine.execFrameFetch q s
  | .frameAccepted q => Sys2Proof.Machine.execFrameAccepted q s
  | .admissionRoom q => Sys2Proof.Machine.execAdmissionRoom q s
  | .taskDeadline rec => Sys2Proof.Machine.execTaskDeadline rec s
  | .taskGraceExpiry rec => Sys2Proof.Machine.execTaskGraceExpiry rec s
  | .engineRequest e => Sys2Proof.Machine.execEngineRequest e s
  | .taskFinishReport c rep => Sys2Proof.Machine.execTaskFinishReport c rep s
  | .closureDurable rec => Sys2Proof.Machine.execClosureDurable rec s
  | .completionDelivery q => Sys2Proof.Machine.execCompletionDelivery q s
  | .deliveryRetry q => Sys2Proof.Machine.execDeliveryRetry q s
  | .crConsWrite r b ring v => Sys2Proof.Machine.execCrConsWrite r b ring v s
  | .crCtlWrite r b ring v => Sys2Proof.Machine.execCrCtlWrite r b ring v s
  | .cancel r q seqLow => Sys2Proof.Machine.execCancel r q seqLow s
  | .cancelAll r q v => Sys2Proof.Machine.execCancelAll r q v s
  | .consumerDrain r c force => Sys2Proof.Machine.execConsumerDrain r c force s
  | .consumerRejoin r c force => Sys2Proof.Machine.execConsumerRejoin r c force s
  | .drainComplete => Sys2Proof.Machine.execDrainComplete s
  | .queueConfig r b v => Sys2Proof.Machine.execQueueConfig r b v s
  | .queueMove q => Sys2Proof.Machine.execQueueMove q s
  | .consumerFault c => Sys2Proof.Machine.execConsumerFault c s
  | .trussRebuild => Sys2Proof.Machine.execTrussRebuild s
  | .ledgerMirrorFail m => Sys2Proof.Machine.execLedgerMirrorFail m s
  | .ledgerResync => Sys2Proof.Machine.execLedgerResync s
  | .ldgRegionWrite r b v => Sys2Proof.Machine.execLdgRegionWrite r b v s
  | .ledgerRdFetch r v => Sys2Proof.Machine.execLedgerRdFetch r v s
  | .add c last f => Sys2Proof.Machine.execAdd c last f s
  | .sub c last f => Sys2Proof.Machine.execSub c last f s
  | .addH4 c last f => Sys2Proof.Machine.execAddH4 c last f s
  | .subH4 c last f => Sys2Proof.Machine.execSubH4 c last f s
  | .addW2 c last f => Sys2Proof.Machine.execAddW2 c last f s
  | .subW2 c last f => Sys2Proof.Machine.execSubW2 c last f s
  | .addQ c last f => Sys2Proof.Machine.execAddQ c last f s
  | .subQ c last f => Sys2Proof.Machine.execSubQ c last f s
  | .and c last f => Sys2Proof.Machine.execAnd c last f s
  | .or c last f => Sys2Proof.Machine.execOr c last f s
  | .xor c last f => Sys2Proof.Machine.execXor c last f s
  | .andn c last f => Sys2Proof.Machine.execAndn c last f s
  | .shl c last f => Sys2Proof.Machine.execShl c last f s
  | .shr c last f => Sys2Proof.Machine.execShr c last f s
  | .sar c last f => Sys2Proof.Machine.execSar c last f s
  | .min c last f => Sys2Proof.Machine.execMin c last f s
  | .max c last f => Sys2Proof.Machine.execMax c last f s
  | .abs c last f => Sys2Proof.Machine.execAbs c last f s
  | .clrp c last f => Sys2Proof.Machine.execClrp c last f s
  | .mov c last f => Sys2Proof.Machine.execMov c last f s
  | .cmpCc c last f cond => Sys2Proof.Machine.execCmpCc c last f cond s
  | .addi c last f => Sys2Proof.Machine.execAddi c last f s
  | .andi c last f => Sys2Proof.Machine.execAndi c last f s
  | .shli c last f => Sys2Proof.Machine.execShli c last f s
  | .shri c last f => Sys2Proof.Machine.execShri c last f s
  | .sari c last f => Sys2Proof.Machine.execSari c last f s
  | .movz c last f => Sys2Proof.Machine.execMovz c last f s
  | .movi c last f => Sys2Proof.Machine.execMovi c last f s
  | .mul c last f => Sys2Proof.Machine.execMul c last f s
  | .mulh c last f => Sys2Proof.Machine.execMulh c last f s
  | .mulhu c last f => Sys2Proof.Machine.execMulhu c last f s
  | .mulq15H4 c last f => Sys2Proof.Machine.execMulq15H4 c last f s
  | .mulq31W2 c last f => Sys2Proof.Machine.execMulq31W2 c last f s
  | .cmac c last f => Sys2Proof.Machine.execCmac c last f s
  | .cmul c last f => Sys2Proof.Machine.execCmul c last f s
  | .narrow c last f => Sys2Proof.Machine.execNarrow c last f s
  | .bCc c last f => Sys2Proof.Machine.execBCc c last f s
  | .bl c last f => Sys2Proof.Machine.execBl c last f s
  | .jr c last f => Sys2Proof.Machine.execJr c last f s
  | .jrl c last f => Sys2Proof.Machine.execJrl c last f s
  | .loop c last f => Sys2Proof.Machine.execLoop c last f s
  | .take c last f => Sys2Proof.Machine.execTake c last f s
  | .takeHandoff c => Sys2Proof.Machine.execTakeHandoff c s
  | .tend c last f => Sys2Proof.Machine.execTend c last f s
  | .tendAck c => Sys2Proof.Machine.execTendAck c s
  | .enq c last f => Sys2Proof.Machine.execEnq c last f s
  | .enqRetire c => Sys2Proof.Machine.execEnqRetire c s
  | .mfc c last f => Sys2Proof.Machine.execMfc c last f s
  | .mtc c last f => Sys2Proof.Machine.execMtc c last f s
  | .syscall c last f => Sys2Proof.Machine.execSyscall c last f s
  | .kcall c last f => Sys2Proof.Machine.execKcall c last f s
  | .bkpt c last f => Sys2Proof.Machine.execBkpt c last f s
  | .eret c last f => Sys2Proof.Machine.execEret c last f s
  | .wait c last f => Sys2Proof.Machine.execWait c last f s
  | .isync c last f => Sys2Proof.Machine.execIsync c last f s
  | .fence c last f => Sys2Proof.Machine.execFence c last f s
  | .nop c last other => Sys2Proof.Machine.execNop c last other s
  | .ld c last f => Sys2Proof.Machine.execLd c last f s
  | .ldu c last f => Sys2Proof.Machine.execLdu c last f s
  | .st c last f => Sys2Proof.Machine.execSt c last f s
  | .lda c last f => Sys2Proof.Machine.execLda c last f s
  | .sta c last f => Sys2Proof.Machine.execSta c last f s
  | .adda c last f => Sys2Proof.Machine.execAdda c last f s
  | .mova c last f => Sys2Proof.Machine.execMova c last f s
  | .movg c last f => Sys2Proof.Machine.execMovg c last f s
  | .interruptTaken c => Sys2Proof.Machine.execInterruptTaken c s
  | .coreTimerMatch c => Sys2Proof.Machine.execCoreTimerMatch c s
  | .mailboxWrite r c v => Sys2Proof.Machine.execMailboxWrite r c v s
  | .taskAbandon c why => Sys2Proof.Machine.execTaskAbandon c why s
  | .abandonException c => Sys2Proof.Machine.execAbandonException c s
  | .storeError c addr => Sys2Proof.Machine.execStoreError c addr s
  | .externalCoreAccess r c off size write v waited => Sys2Proof.Machine.execExternalCoreAccess r c off size write v waited s
  | .memHoldEnd c => Sys2Proof.Machine.execMemHoldEnd c s
  | .coreRun r c run => Sys2Proof.Machine.execCoreRun r c run s
  | .coreHalt r c halt => Sys2Proof.Machine.execCoreHalt r c halt s
  | .coreStart c => Sys2Proof.Machine.execCoreStart c s
  | .vadd c last f => Sys2Proof.Machine.execVadd c last f s
  | .vsub c last f => Sys2Proof.Machine.execVsub c last f s
  | .vneg c last f => Sys2Proof.Machine.execVneg c last f s
  | .vabs c last f => Sys2Proof.Machine.execVabs c last f s
  | .vmin c last f => Sys2Proof.Machine.execVmin c last f s
  | .vmax c last f => Sys2Proof.Machine.execVmax c last f s
  | .vand c last f => Sys2Proof.Machine.execVand c last f s
  | .vor c last f => Sys2Proof.Machine.execVor c last f s
  | .vxor c last f => Sys2Proof.Machine.execVxor c last f s
  | .vbic c last f => Sys2Proof.Machine.execVbic c last f s
  | .vshl c last f => Sys2Proof.Machine.execVshl c last f s
  | .vshr c last f => Sys2Proof.Machine.execVshr c last f s
  | .vsar c last f => Sys2Proof.Machine.execVsar c last f s
  | .vrsar c last f => Sys2Proof.Machine.execVrsar c last f s
  | .vqdmulh c last f => Sys2Proof.Machine.execVqdmulh c last f s
  | .vcmul c last f => Sys2Proof.Machine.execVcmul c last f s
  | .vcmac c last f => Sys2Proof.Machine.execVcmac c last f s
  | .vmac c last f => Sys2Proof.Machine.execVmac c last f s
  | .vmac2 c last f => Sys2Proof.Machine.execVmac2 c last f s
  | .vmclr c last f => Sys2Proof.Machine.execVmclr c last f s
  | .vnarrow c last f => Sys2Proof.Machine.execVnarrow c last f s
  | .vnarw c last f => Sys2Proof.Machine.execVnarw c last f s
  | .vmfm c last f => Sys2Proof.Machine.execVmfm c last f s
  | .vmtm c last f => Sys2Proof.Machine.execVmtm c last f s
  | .vcmpEq c last f => Sys2Proof.Machine.execVcmpEq c last f s
  | .vcmpNe c last f => Sys2Proof.Machine.execVcmpNe c last f s
  | .vcmpLt c last f => Sys2Proof.Machine.execVcmpLt c last f s
  | .vcmpLe c last f => Sys2Proof.Machine.execVcmpLe c last f s
  | .vcmpLtu c last f => Sys2Proof.Machine.execVcmpLtu c last f s
  | .vcmpLeu c last f => Sys2Proof.Machine.execVcmpLeu c last f s
  | .vsel c last f => Sys2Proof.Machine.execVsel c last f s
  | .vdup c last f => Sys2Proof.Machine.execVdup c last f s
  | .vradd c last f => Sys2Proof.Machine.execVradd c last f s
  | .vperm c last f => Sys2Proof.Machine.execVperm c last f s
  | .vspan c last f => Sys2Proof.Machine.execVspan c last f s
  | .vlanes c last f => Sys2Proof.Machine.execVlanes c last f s
  | .mkall c last f => Sys2Proof.Machine.execMkall c last f s
  | .mkand c last f => Sys2Proof.Machine.execMkand c last f s
  | .mkor c last f => Sys2Proof.Machine.execMkor c last f s
  | .mkbic c last f => Sys2Proof.Machine.execMkbic c last f s
  | .mkcnt c last f => Sys2Proof.Machine.execMkcnt c last f s
  | .mktov c last f => Sys2Proof.Machine.execMktov c last f s
  | .vtomk c last f => Sys2Proof.Machine.execVtomk c last f s
  | .runset c last f => Sys2Proof.Machine.execRunset c last f s
  | .runmk c last f => Sys2Proof.Machine.execRunmk c last f s
  | .runput c last f => Sys2Proof.Machine.execRunput c last f s
  | .runget c last f => Sys2Proof.Machine.execRunget c last f s
  | .vld c last f => Sys2Proof.Machine.execVld c last f s
  | .vst c last f => Sys2Proof.Machine.execVst c last f s
  | .vsplit2 c last f => Sys2Proof.Machine.execVsplit2 c last f s
  | .vsplit3 c last f => Sys2Proof.Machine.execVsplit3 c last f s
  | .vsplit4 c last f => Sys2Proof.Machine.execVsplit4 c last f s
  | .vweave2 c last f => Sys2Proof.Machine.execVweave2 c last f s
  | .vweave3 c last f => Sys2Proof.Machine.execVweave3 c last f s
  | .vweave4 c last f => Sys2Proof.Machine.execVweave4 c last f s
  | .vgath c last f => Sys2Proof.Machine.execVgath c last f s
  | .vscat c last f => Sys2Proof.Machine.execVscat c last f s
  | .cmr c last f op2 => Sys2Proof.Machine.execCmr c last f op2 s
  | .rsq c last f => Sys2Proof.Machine.execRsq c last f s
  | .divSigned c last f => Sys2Proof.Machine.execDivSigned c last f s
  | .divUnsigned c last f => Sys2Proof.Machine.execDivUnsigned c last f s
  | .divQ31 c last f => Sys2Proof.Machine.execDivQ31 c last f s
  | .atn c last f => Sys2Proof.Machine.execAtn c last f s
  | .gld c last f => Sys2Proof.Machine.execGld c last f s
  | .gldInit c last f => Sys2Proof.Machine.execGldInit c last f s
  | .crc c last f op2 => Sys2Proof.Machine.execCrc c last f op2 s
  | .hiv c last f => Sys2Proof.Machine.execHiv c last f s
  | .llr c last f op2 => Sys2Proof.Machine.execLlr c last f op2 s
  | .brvBits c last f => Sys2Proof.Machine.execBrvBits c last f s
  | .brvIndex c last f => Sys2Proof.Machine.execBrvIndex c last f s
  | .brvTranspose c last f => Sys2Proof.Machine.execBrvTranspose c last f s
  | .lxpLog2 c last f => Sys2Proof.Machine.execLxpLog2 c last f s
  | .lxpExp2 c last f => Sys2Proof.Machine.execLxpExp2 c last f s
  | .srt c last f => Sys2Proof.Machine.execSrt c last f s
  | .dowelResult c hiv => Sys2Proof.Machine.execDowelResult c hiv s
  | .fftFwdCp e => Sys2Proof.Machine.execFftFwdCp e s
  | .fftInvCp e => Sys2Proof.Machine.execFftInvCp e s
  | .fftFwd e => Sys2Proof.Machine.execFftFwd e s
  | .fftInv e => Sys2Proof.Machine.execFftInv e s
  | .bfmPrecode e => Sys2Proof.Machine.execBfmPrecode e s
  | .bfmCombine e => Sys2Proof.Machine.execBfmCombine e s
  | .detWMmse e => Sys2Proof.Machine.execDetWMmse e s
  | .detWIrc e => Sys2Proof.Machine.execDetWIrc e s
  | .detApply e => Sys2Proof.Machine.execDetApply e s
  | .praDetect e => Sys2Proof.Machine.execPraDetect e s
  | .lddDecode e => Sys2Proof.Machine.execLddDecode e s
  | .ldeLdpcEnc e => Sys2Proof.Machine.execLdeLdpcEnc e s
  | .ldeTurboEnc e => Sys2Proof.Machine.execLdeTurboEnc e s
  | .plrEncode e => Sys2Proof.Machine.execPlrEncode e s
  | .plrDecode e => Sys2Proof.Machine.execPlrDecode e s
  | .trbDecode e => Sys2Proof.Machine.execTrbDecode e s
  | .hqRmLdpc e => Sys2Proof.Machine.execHqRmLdpc e s
  | .hqRmTurbo e => Sys2Proof.Machine.execHqRmTurbo e s
  | .hqDrmLdpc e => Sys2Proof.Machine.execHqDrmLdpc e s
  | .hqDrmTurbo e => Sys2Proof.Machine.execHqDrmTurbo e s
  | .engineJobFinish e => Sys2Proof.Machine.execEngineJobFinish e s
  | .engineFault e unit => Sys2Proof.Machine.execEngineFault e unit s
  | .engineAbandon e => Sys2Proof.Machine.execEngineAbandon e s
  | .hqCacheInv r j v => Sys2Proof.Machine.execHqCacheInv r j v s
  | .airProducerStore r ch p => Sys2Proof.Machine.execAirProducerStore r ch p s
  | .airMap ch => Sys2Proof.Machine.execAirMap ch s
  | .airDemap ch => Sys2Proof.Machine.execAirDemap ch s
  | .airMeasure ch => Sys2Proof.Machine.execAirMeasure ch s
  | .airLoad ch => Sys2Proof.Machine.execAirLoad ch s
  | .airJobComplete ch => Sys2Proof.Machine.execAirJobComplete ch s
  | .airPurge ch => Sys2Proof.Machine.execAirPurge ch s
  | .airLaneFault demap lane => Sys2Proof.Machine.execAirLaneFault demap lane s
  | .tysTxBuild l f => Sys2Proof.Machine.execTysTxBuild l f s
  | .tysSyncRecognised l f w => Sys2Proof.Machine.execTysSyncRecognised l f w s
  | .tysCapture l f w => Sys2Proof.Machine.execTysCapture l f w s
  | .tysHeaderChecked l w0 w1 w2 crc cfo => Sys2Proof.Machine.execTysHeaderChecked l w0 w1 w2 crc cfo s
  | .tysFrameEnd l => Sys2Proof.Machine.execTysFrameEnd l s
  | .tysJoinStart r v => Sys2Proof.Machine.execTysJoinStart r v s
  | .tysJoinSend => Sys2Proof.Machine.execTysJoinSend s
  | .tysJoinTimeout => Sys2Proof.Machine.execTysJoinTimeout s
  | .tysJoinAbort r v => Sys2Proof.Machine.execTysJoinAbort r v s
  | .tysNrsDetect l f nId2 w cfo => Sys2Proof.Machine.execTysNrsDetect l f nId2 w cfo s
  | .lftWinWrite r w sizeReg v => Sys2Proof.Machine.execLftWinWrite r w sizeReg v s
  | .verifyRead m => Sys2Proof.Machine.execVerifyRead m s
  | .scrubRead m => Sys2Proof.Machine.execScrubRead m s
  | .scrubWriteback g => Sys2Proof.Machine.execScrubWriteback g s
  | .wipeDone m => Sys2Proof.Machine.execWipeDone m s
  | .hostBar0Access h fn off size write v => Sys2Proof.Machine.execHostBar0Access h fn off size write v s
  | .hostBar2Access h fn off len write v => Sys2Proof.Machine.execHostBar2Access h fn off len write v s
  | .hostBar4Access h fn off len write v => Sys2Proof.Machine.execHostBar4Access h fn off len write v s
  | .dramRequest r addr len write data => Sys2Proof.Machine.execDramRequest r addr len write data s
  | .dramReadReturn ch => Sys2Proof.Machine.execDramReadReturn ch s
  | .writeBatchStart ch => Sys2Proof.Machine.execWriteBatchStart ch s
  | .readAgeExpiry ch => Sys2Proof.Machine.execReadAgeExpiry ch s
  | .dramRefresh ch bank => Sys2Proof.Machine.execDramRefresh ch bank s
  | .dramTempRead ch code outOfRange => Sys2Proof.Machine.execDramTempRead ch code outOfRange s
  | .dramRetrain ch ok => Sys2Proof.Machine.execDramRetrain ch ok s
  | .channelFailed ch => Sys2Proof.Machine.execChannelFailed ch s
  | .drcWinWrite r w sizeReg v => Sys2Proof.Machine.execDrcWinWrite r w sizeReg v s
  | .srKeepWrite r h v => Sys2Proof.Machine.execSrKeepWrite r h v s
  | .skidGo r ch v => Sys2Proof.Machine.execSkidGo r ch v s
  | .skidAbort r ch v => Sys2Proof.Machine.execSkidAbort r ch v s
  | .skidResume r ch v => Sys2Proof.Machine.execSkidResume r ch v s
  | .skidSkip r ch v => Sys2Proof.Machine.execSkidSkip r ch v s
  | .skidSwTrig r ch v => Sys2Proof.Machine.execSkidSwTrig r ch v s
  | .skidTrigger ch kind src => Sys2Proof.Machine.execSkidTrigger ch kind src s
  | .skidDescFetch ch => Sys2Proof.Machine.execSkidDescFetch ch s
  | .skidDescEnd ch => Sys2Proof.Machine.execSkidDescEnd ch s
  | .skidSubmitResult ch => Sys2Proof.Machine.execSkidSubmitResult ch s
  | .skidHalt ch addr dir kind more => Sys2Proof.Machine.execSkidHalt ch addr dir kind more s
  | .laneEnable r l v => Sys2Proof.Machine.execLaneEnable r l v s
  | .laneDisable r l v => Sys2Proof.Machine.execLaneDisable r l v s
  | .laneRestart r l v => Sys2Proof.Machine.execLaneRestart r l v s
  | .laneTest r l v => Sys2Proof.Machine.execLaneTest r l v s
  | .laneProtoWrite r l v => Sys2Proof.Machine.execLaneProtoWrite r l v s
  | .tableLoadDone l => Sys2Proof.Machine.execTableLoadDone l s
  | .seqActionSuccess l info => Sys2Proof.Machine.execSeqActionSuccess l info s
  | .seqActionFail l => Sys2Proof.Machine.execSeqActionFail l s
  | .linkDrop l cause => Sys2Proof.Machine.execLinkDrop l cause s
  | .quadPllLoss q => Sys2Proof.Machine.execQuadPllLoss q s
  | .pllRelockAttempt q ok => Sys2Proof.Machine.execPllRelockAttempt q ok s
  | .prbsClear r l v => Sys2Proof.Machine.execPrbsClear r l v s
  | .prbsLockLoss l => Sys2Proof.Machine.execPrbsLockLoss l s
  | .eyeStart r l v => Sys2Proof.Machine.execEyeStart r l v s
  | .eyeDone l => Sys2Proof.Machine.execEyeDone l s
  | .perstChange h asserted => Sys2Proof.Machine.execPerstChange h asserted s
  | .frameReceived p f => Sys2Proof.Machine.execFrameReceived p f s
  | .receiveWindowOpen fg slot symbol => Sys2Proof.Machine.execReceiveWindowOpen fg slot symbol s
  | .receiveWindowClose fg => Sys2Proof.Machine.execReceiveWindowClose fg s
  | .gclAnchor p slot symbol => Sys2Proof.Machine.execGclAnchor p slot symbol s
  | .gclIntervalEnd p => Sys2Proof.Machine.execGclIntervalEnd p s
  | .txSectionsBuild fg => Sys2Proof.Machine.execTxSectionsBuild fg s
  | .txFrameSent p => Sys2Proof.Machine.execTxFrameSent p s
  | .txRingProducer r b ring v => Sys2Proof.Machine.execTxRingProducer r b ring v s
  | .clsWrite r v => Sys2Proof.Machine.execClsWrite r v s
  | .clsRead r v => Sys2Proof.Machine.execClsRead r v s
  | .clsDelete r v => Sys2Proof.Machine.execClsDelete r v s
  | .fgWrite r v => Sys2Proof.Machine.execFgWrite r v s
  | .fgRead r v => Sys2Proof.Machine.execFgRead r v s
  | .fgDelete r v => Sys2Proof.Machine.execFgDelete r v s
  | .gclSwap r p v => Sys2Proof.Machine.execGclSwap r p v s
  | .portCfgWrite r p v => Sys2Proof.Machine.execPortCfgWrite r p v s
  | .fnCfgWrite r h v => Sys2Proof.Machine.execFnCfgWrite r h v s
  | .bayIrqWrite r b v => Sys2Proof.Machine.execBayIrqWrite r b v s
  | .hostWindowRequest r addr len write data => Sys2Proof.Machine.execHostWindowRequest r addr len write data s
  | .hostCompletion h status data => Sys2Proof.Machine.execHostCompletion h status data s
  | .hostCompletionTimeout h => Sys2Proof.Machine.execHostCompletionTimeout h s
  | .functionLevelReset h kind => Sys2Proof.Machine.execFunctionLevelReset h kind s
  | .bayBentsWrite r b v => Sys2Proof.Machine.execBayBentsWrite r b v s
  | .bentMoveDone b => Sys2Proof.Machine.execBentMoveDone b s
  | .bayEngWrite r b cls v => Sys2Proof.Machine.execBayEngWrite r b cls v s
  | .bayReset r b onBay0Page v => Sys2Proof.Machine.execBayReset r b onBay0Page v s
  | .bayResetDone b => Sys2Proof.Machine.execBayResetDone b s
  | .refclkLoss => Sys2Proof.Machine.execRefclkLoss s
  | .crossingHold isl => Sys2Proof.Machine.execCrossingHold isl s
  | .quarantineEntry isl qcause => Sys2Proof.Machine.execQuarantineEntry isl qcause s
  | .islandReset r v => Sys2Proof.Machine.execIslandReset r v s
  | .islandResetDone isl => Sys2Proof.Machine.execIslandResetDone isl s
  | .warmReset pin r v => Sys2Proof.Machine.execWarmReset pin r v s
  | .coldReset powerOn bootSel lcStrap => Sys2Proof.Machine.execColdReset powerOn bootSel lcStrap s
  | .hostBootGo r v => Sys2Proof.Machine.execHostBootGo r v s
  | .hostBootTimeout => Sys2Proof.Machine.execHostBootTimeout s
  | .lcTransitionGo r v => Sys2Proof.Machine.execLcTransitionGo r v s
  | .routerDown n => Sys2Proof.Machine.execRouterDown n s
  | .rerouteComplete => Sys2Proof.Machine.execRerouteComplete s
  | .purlinTimeout r router hostTarget => Sys2Proof.Machine.execPurlinTimeout r router hostTarget s
  | .pllPartnerTakeover isl => Sys2Proof.Machine.execPllPartnerTakeover isl s
  | .pwrDevRequest r v => Sys2Proof.Machine.execPwrDevRequest r v s
  | .pwrIslRequest r v => Sys2Proof.Machine.execPwrIslRequest r v s
  | .powerTransitionDone isl => Sys2Proof.Machine.execPowerTransitionDone isl s
  | .powerEntryAbort cause => Sys2Proof.Machine.execPowerEntryAbort cause s
  | .trimGate isl => Sys2Proof.Machine.execTrimGate isl s
  | .trimUngate rec => Sys2Proof.Machine.execTrimUngate rec s
  | .deviceWake source detail => Sys2Proof.Machine.execDeviceWake source detail s
  | .wakePin k high widthNs => Sys2Proof.Machine.execWakePin k high widthNs s
  | .carrierSleepRequest r v => Sys2Proof.Machine.execCarrierSleepRequest r v s
  | .carrierSleepBoundary c => Sys2Proof.Machine.execCarrierSleepBoundary c s
  | .profileSwitch r v => Sys2Proof.Machine.execProfileSwitch r v s
  | .profileSwitchDone => Sys2Proof.Machine.execProfileSwitchDone s
  | .avsAdjust lowestMv => Sys2Proof.Machine.execAvsAdjust lowestMv s
  | .gaugeSwStart r v => Sys2Proof.Machine.execGaugeSwStart r v s
  | .gaugeTrigger timer => Sys2Proof.Machine.execGaugeTrigger timer s
  | .conversionEnd code owCode quarter => Sys2Proof.Machine.execConversionEnd code owCode quarter s
  | .spareStandIn e => Sys2Proof.Machine.execSpareStandIn e s
  | .coreSpareStart c => Sys2Proof.Machine.execCoreSpareStart c s
  | .faultLogFetch r v => Sys2Proof.Machine.execFaultLogFetch r v s
  | .serviceClear r v => Sys2Proof.Machine.execServiceClear r v s
  | .prbsCheckerLock l => Sys2Proof.Machine.execPrbsCheckerLock l s
  | .quadPllLock q => Sys2Proof.Machine.execQuadPllLock q s
  | .hostConfigWrite h fn w => Sys2Proof.Machine.execHostConfigWrite h fn w s
  | .smbusReadWord addr cmd write => Sys2Proof.Machine.execSmbusReadWord addr cmd write s
  | .jtagTapAccess instr scanIn => Sys2Proof.Machine.execJtagTapAccess instr scanIn s
  | .resetNAssert widthNs => Sys2Proof.Machine.execResetNAssert widthNs s
  | .refclkRestored => Sys2Proof.Machine.execRefclkRestored s
  | .memHoldDeferredStart c => Sys2Proof.Machine.execMemHoldDeferredStart c s

end Sys2Proof.Machine
end

