-- ==== Sys2Proof/Machine/Step.lean ====
section
/-! DEFINITION. One step: the command at the front of the queue takes effect with the queue's rest; on an empty queue
one tick of the Ridge clock passes. -/

namespace Sys2Proof.Machine

/-- DESIGN CHOICE (log 1): the block's own clock runs while no command waits. [log 1, 2] -/
def step (s : State) : Host.Outcome State Fault Refusal :=
  match s.pending with
  | [] => .next (s.after s.idle)
  | c :: r => exec c { s with pending := r }

/-- The state with the command that a table word spells put at the front of its queue. [log 2] -/
def State.withFetchWord (s : State) (nbits w : Nat) : State :=
  match decodeTableWord nbits w with
  | some c => { s with pending := c :: s.pending }
  | none => s

end Sys2Proof.Machine
end

