-- ==== Sys2Proof/Safety.lean ====
section
/-! DEFINITION. The terms of the statements: the invariant of the model, what a command's completion says, what it leaves
unchanged, and when the page hub takes a register write. -/

namespace Sys2Proof.Machine

/-- Memory keys rise strictly, no listed byte is the unlisted one's 0, and no store waits between commands. -/
def State.Inv (s : State) : Prop := Memory.wf s.mem = true ∧ s.wr = []

/-- The command answers a next state, of which `P` holds. -/
def Runs (i : Instr) (s : State) (P : State → Prop) : Prop := ∃ t, exec i s = .next t ∧ P t

/-- Every byte of memory reads as before. -/
def SameMemory (s t : State) : Prop := ∀ a, t.byte a = s.byte a

/-- Every register word but those named holds what it held. -/
def SameRegs (s t : State) (but : List Nat) : Prop := ∀ a, a % 4 = 0 → a ∉ but → t.reg a = s.reg a

/-- Memory and the cores' registers are as before. -/
def SameCompute (s t : State) : Prop := SameMemory s t ∧ t.cores = s.cores

/-- A 32-bit write at `a` reaches the hub: it is neither held nor answered with an error, and the page may be written by the
requester (R18 to R22, R34). -/
structure State.Offered (s : State) (who : Requester) (a : Nat) (i : PageInfo) : Prop where
  gate : s.gateOf who (a / 4096) = .open
  window : onWindow who = true
  aligned : a % 4 = 0
  page : pageInfo (a / 4096) = some i
  up : a % 4096 < 0x100 ∨ s.blockUp i (a / 4096) = true
  room : s.hub.fifo.length < 64 ∧ s.hub.held = []
  owner : s.mayWrite who i a = true
  word : (fieldsAt a).isSome = true

/-- The owning chapter refuses the write of `v` (R22). -/
def State.turnsDown (s : State) (who : Requester) (a v : Nat) : Bool :=
  regRefuse who a v (s.say (takenAnswer who)) ((s.say (takenAnswer who)).preview [(a, v)])

/-- A 32-bit write of `v` at `a` is accepted. -/
structure State.Accepts (s : State) (who : Requester) (a v : Nat) (i : PageInfo) : Prop extends s.Offered who a i where
  allowed : s.turnsDown who a v = false

/-- The owning chapter adds nothing to storing `v` at `a`. -/
def quietWrite (who : Requester) (a v : Nat) : Prop := ∀ x y : State, regEffect port1 who a v x y = y

/-- Page kinds whose registers are all stored at their own offsets, and none of which a lane's line moves. -/
def plainKinds : List PageKind :=
  [.glb, .bnt, .plt0, .rdg0, .rdg1, .rdg2, .rdg3, .rdgCar, .rdgView, .trs0, .ldg0, .rft, .mrt, .fft, .pra, .ldd, .lde, .plr,
   .trb, .hq, .air0, .lft, .pln, .shm, .drc0, .drc1, .skd, .skdCh, .grt1, .grtView, .cmp, .bay, .pur, .gau]

/-- The pages of lanes, whose counts a look at them settles. -/
def laneKinds : List PageKind := [.scf, .peg]

/-- The word is one 32-bit count that a read clears (R6). -/
def isCount (a : Nat) : Prop := ∃ w, fieldsAt a = some [⟨31, 0, .rc, 0, w, .any⟩]

/-- The word a requester has staged for a wide register's word; 0 where it has staged none. -/
def State.stagedWord (s : State) (who : Requester) (a : Nat) : Nat :=
  match (tget s.hub.staged (reqId who) []).find? fun e => e.1 == a with
  | some e => e.2.toNat
  | none => 0

/-- A 32-bit read at `a` reaches the hub and returns its word in full (R18 to R20, R24). -/
structure State.Reads (s : State) (who : Requester) (a : Nat) (i : PageInfo) : Prop where
  gate : s.gateOf who (a / 4096) = .open
  window : onWindow who = true
  aligned : a % 4 = 0
  page : pageInfo (a / 4096) = some i
  up : a % 4096 < 0x100 ∨ s.blockUp i (a / 4096) = true
  full : s.readsFull who i a = true

/-! ## Frames of commands that write memory -/

/-- `a` lies in the doublewords that `n` bytes at `lo` touch: a part of one is written by a merge of the whole (R307). -/
def inSpan (lo n a : Nat) : Prop := lo / 8 * 8 ≤ a ∧ a < (lo + n + 7) / 8 * 8

/-- Every byte of memory outside `P` reads as before, a byte whose stored bits are in error apart: its correction rewrites it
(R280). -/
def SameBytesBut (s t : State) (P : Nat → Prop) : Prop := ∀ a, ¬P a → tget? s.sramErr a = none → t.byte a = s.byte a

/-- Every register word outside the pages named holds what it held. -/
def SamePages (s t : State) (pages : List Nat) : Prop := ∀ a, a % 4 = 0 → a / 4096 ∉ pages → t.reg a = s.reg a

/-- Pages whose counters and captures an access to memory may move: the cores', the Loft's, the DRAM controller's, the
crossings', and the fault log's, which shows a FAILING memory. -/
def memoryPages : List Nat :=
  (List.range 72).map (0x80 + ·) ++ [9, 0x180, 0x188, 0x190, 0x1C0, 0x1C1] ++ (List.range 16).map fun i => 0x4000 * (i + 1) + 3

/-! ## Frames of tasks and their records -/

/-- Task `t`, number `i` of the live Frame `f`, holds record `idx`. -/
structure State.Live (s : State) (idx : Nat) (f : Frame) (i : Nat) (t : Task) : Prop where
  holds : s.taskAt idx = some (f, i, t)
  frame : s.frame? f.id = some f

/-- Task `i` of the live Frame with an ID. -/
def State.taskOf (s : State) (fid i : Nat) : Option Task := (s.frame? fid).bind fun f => f.tasks[i]?

/-- `a` lies in an output buffer of the task, which is undefined where the task ends without status DONE (R90). -/
def Task.inOutputs (t : Task) (a : Nat) : Prop := ∃ o ∈ t.outs, o.1 ≤ a ∧ a < o.1 + o.2

/-- `a` lies in word 7 of an entry of a core's AIR ring, which a purge of the channel completes (R240). -/
def State.inAirRing (s : State) (c a : Nat) : Prop := ∃ k < 16, inSpan (s.airRing c + 64 * k + 56) 8 a

/-- `a` lies in a record of the Frame, in either mirror (R83), in an output buffer of its tasks, or in the AIR ring of a core
that runs one of them. -/
def State.inRecords (s : State) (f : Frame) (a : Nat) : Prop :=
  ∃ t ∈ f.tasks, inSpan (s.wide LDG_M0_LO + 64 * t.idx) 64 a ∨ inSpan (s.wide LDG_M1_LO + 64 * t.idx) 64 a ∨ t.inOutputs a ∨
    (t.consumer < 72 ∧ s.inAirRing t.consumer a)

/-- A mirror in service takes every write of these records (R83). -/
def State.Keeps (s : State) (idxs : List Nat) : Prop :=
  ∃ m < 2, s.flag LDG_STAT m = true ∧ ∀ i ∈ idxs, ∀ bs : List Byte, bs.length = 64 →
    (s.memWrite trussOwn (s.wide (mirrorBase m) + 64 * i) bs).1 = true

/-- Records of a Frame's tasks. -/
def Frame.records (f : Frame) : List Nat := f.tasks.map Task.idx

/-- Registers of AIR and its channels. -/
def airPages : List Nat := (List.range 9).map (0x3A0 + ·) ++ (List.range 72).map fun i => 0x4000 * (i + 1) + 0x3A1

/-- Registers that a task's end may change: the Truss's counters and Ledger status, the view pages' interrupts, an abandoning
engine's status, a purged channel of AIR, and what the record's write moves. -/
def endPages : List Nat :=
  [0x20, 0x30] ++ (List.range 8).map (0x28 + ·) ++ (List.range 67).map (0x100 + ·) ++ airPages ++ memoryPages

/-- A change of task states: memory but the Frame's records, and the registers but those of `endPages`, are as before, and
nothing of the cores' registers but what taking a task away sets. -/
def TaskFrame (s t : State) (f : Frame) : Prop :=
  SameBytesBut s t (s.inRecords f) ∧ SamePages s t endPages ∧
    ∀ c, (t.core c).g = (s.core c).g ∧ (t.core c).a = (s.core c).a ∧ (t.core c).v = (s.core c).v ∧ (t.core c).pc = (s.core c).pc

/-! ## Frames of a core's instructions -/

/-- Core `c` takes up a new packet: it runs, awake; no packet is begun and no slow Dowel's result is on its way; the word at
its pc is fetched without a cause; and no halt is asked for. -/
structure State.Clear (s : State) (c : Nat) : Prop where
  runs : s.executes c = true
  fresh : (s.core c).pkt = []
  units : (s.core c).divUnit = [] ∧ (s.core c).hivUnit = []
  reach : (s.core c).pc.toNat < 0x1E000 ∨ ((s.core c).level = 2 ∧ (s.core c).pc.toNat < 0x20000)
  word : (s.progRead (progBase + 0x20000 * c + (s.core c).pc.toNat)).isSome = true
  resumed : s.flag (RFT_RUN c) 1 = false

/-- The packet after one word that does not branch: the next word, or the start of a loop's body (R120). -/
def State.nextPc (s : State) (c : Nat) : BitVec 48 :=
  match ((s.core c).loopEnd (s.core c).pc.toNat none).1 with
  | some p => BitVec.ofNat 48 p
  | none => (s.core c).pc + 4

/-- A core's registers apart from those that time and the sequence of packets move. -/
def Core.still (k : Core) : Core :=
  { k with
    pc := 0, cycle := 0, instret := 0, intPend := 0, holdLeft := 0, holdEnded := none, lc := Vector.replicate 2 0
    predictor := [], retStack := [], board := [], branched := false }

/-- A packet of one word of core `c` retires and leaves the core's registers as those of `k`: the packet is counted, no
interrupt but the timer's becomes pending, every other core and every register outside the pages named is as before, and of
memory the bytes outside `P`. -/
structure RetiresIn (s t : State) (c : Nat) (k : Core) (P : Nat → Prop) (pages : List Nat) : Prop where
  regs : (t.core c).still = k.still
  count : (t.core c).instret = (s.core c).instret + 1
  pending : (t.core c).intPend &&& 0x1D = k.intPend &&& 0x1D
  others : ∀ d, d ≠ c → t.core d = s.core d
  memory : SameBytesBut s t P
  window : SamePages s t pages

/-- A packet of one word that touches registers alone. -/
def Retires (s t : State) (c : Nat) (k : Core) : Prop := RetiresIn s t c k (fun _ => False) [rftPage c]

/-- A packet of one word that goes on with the next one. -/
def Goes (i : Instr) (s : State) (c : Nat) (k : Core) : Prop :=
  Runs i s fun t => Retires s t c k ∧ (t.core c).pc = s.nextPc c

/-- The instruction, alone in its packet, writes one g register and may set ov. -/
def WritesG (i : Instr) (s : State) (c rd : Nat) (v : BitVec 64) (ov : Bool) : Prop :=
  Goes i s c { s.core c with g := (s.core c).g.setIfInBounds rd v, ov := (s.core c).ov || ov }

/-- The instruction, alone in its packet, writes a g pair and may set ov. -/
def WritesPair (i : Instr) (s : State) (c rd : Nat) (lo hi : BitVec 64) (ov : Bool) : Prop :=
  Goes i s c { s.core c with g := ((s.core c).g.setIfInBounds rd lo).setIfInBounds (rd + 1) hi, ov := (s.core c).ov || ov }

/-- The result of R129 in a lane of `w` bits: with s the nearest value of the lane's range, else the low bits. -/
def satRule (w : Nat) (s : Bool) (x : Int) : BitVec w :=
  BitVec.ofInt w (if s then max (-(2 ^ (w - 1))) (min (2 ^ (w - 1) - 1) x) else x)

/-- The lane's value changed in keeping its low bits. -/
def satOv (w : Nat) (s : Bool) (x : Int) : Bool := !s && decide ((BitVec.ofInt w x).toInt ≠ x)

/-- Lane `i` of `w` bits of a word. -/
def laneOf {n : Nat} (w i : Nat) (v : BitVec n) : BitVec w := v.extractLsb' (w * i) w

/-- No stored bit is in error. -/
def State.NoErrors (s : State) : Prop := s.sramErr = [] ∧ s.progErr = [] ∧ s.dramErr = []

/-- The memory key that an access of core `c` reaches: nothing refuses it, and it lies in one memory. -/
def State.reaches (s : State) (c a n : Nat) : Option Nat :=
  if inWindow a ∨ (s.accessRefused (s.coreAgent c) (s.place (coreWho c) a n) n a).isSome then none
  else match s.place (coreWho c) a n with
    | .sram k => some k
    | .data _ k => some k
    | .prog _ k => some k
    | .dram o => some (dramBase + o)
    | _ => none

/-- The bytes that the chunks of an access hold, where each of them is reached. -/
def State.bytesAt (s : State) (c : Nat) : List (Nat × Nat) → Option (List Byte)
  | [] => some []
  | (a, n) :: r => match s.reaches c a n, s.bytesAt c r with
    | some k, some bs => some (s.bytes k n ++ bs)
    | _, _ => none

/-- Pages that a core's store may move besides its own: the memories' and AIR's, whose channels see what is stored. -/
def storePages (c : Nat) : List Nat :=
  rftPage c :: memoryPages ++ airPages

/-- Core `c` enters level `target` for a cause: what is saved, where it goes on, and what it keeps (R137). -/
structure Enters (s t : State) (c target code : Nat) (irq : Bool) (epc : BitVec 48) : Prop where
  level : (t.core c).level = target
  saved : if target = 2 then
      (t.core c).epcK.toNat = epc.toNat ∧ (t.core c).ieK = false ∧ (t.core c).ieS = (s.core c).ieS ∧
      (t.core c).pc = BitVec.ofNat 48 ((s.core c).evecK.toNat + 64 * code) ∧ (t.core c).epcS = (s.core c).epcS
    else
      (t.core c).epcS.toNat = epc.toNat ∧ (t.core c).ieS = false ∧ (t.core c).ieK = (s.core c).ieK ∧
      (t.core c).pc = BitVec.ofNat 48 ((s.core c).evecS.toNat + 64 * code) ∧ (t.core c).epcK = (s.core c).epcK
  cause : let w := if target = 2 then (t.core c).ecauseK.toNat else (t.core c).ecauseS.toNat
    bitsOf w 7 0 = code ∧ bitOf w 31 = irq ∧ bitsOf w 25 24 = (s.core c).level
  ended : (t.core c).holdLeft = 0
  last : t.fld (RFT_LAST_EXC c) 25 24 = target ∧ t.fld (RFT_LAST_EXC c) 7 0 = code
  kept : (t.core c).g = (s.core c).g ∧ (t.core c).a = (s.core c).a ∧ (t.core c).v = (s.core c).v ∧ (t.core c).n = (s.core c).n ∧
    (t.core c).m = (s.core c).m ∧ (t.core c).cb = (s.core c).cb ∧ (t.core c).cl = (s.core c).cl ∧ (t.core c).ls = (s.core c).ls ∧
    (t.core c).le = (s.core c).le ∧ (t.core c).circ = (s.core c).circ ∧ (t.core c).ov = (s.core c).ov
  others : ∀ d, d ≠ c → t.core d = s.core d
  memory : SameMemory s t

/-- The detail field of the cause that a level holds. -/
def Core.detail (k : Core) : Nat := bitsOf (if k.level = 2 then k.ecauseK.toNat else k.ecauseS.toNat) 15 8

/-! ## Vector instructions -/

/-- Core `c` takes up a new packet, with the vector unit enabled at its level (R153). -/
structure State.VecOn (s : State) (c : Nat) : Prop where
  clear : s.Clear c
  on : (s.core c).level = 2 ∨ ((s.core c).level = 1 ∧ (s.core c).vctl.getLsbD 0 = true) ∨
    ((s.core c).level = 0 ∧ (s.core c).vctl.getLsbD 1 = true)

/-- Element `j` is active under mask `ng`. -/
def Core.onElem (k : Core) (ng : BitVec 3) (j : Nat) : Bool := (k.n.getD ng.toNat 0).getLsbD j

/-- The instruction, alone in its packet, writes one v register, marks the vector state dirty, and may set ov. -/
def WritesV (i : Instr) (s : State) (c rd : Nat) (x : BitVec 1024) (ov : Bool) : Prop :=
  Goes i s c { s.core c with
    v := (s.core c).v.setIfInBounds rd x, vctl := (s.core c).vctl ||| 4, ov := (s.core c).ov || ov }

/-- vd takes the lanes `r` in its active elements of `per` lanes each; an inactive one keeps its value, or is 0 with zm (R145). -/
def WritesLanes (i : Instr) (s : State) (c : Nat) (f : VForm) (w per : Nat) (r : Nat → BitVec w) (ov : Nat → Bool) : Prop :=
  let k := s.core c
  ∃ x : BitVec 1024, (∀ l < 1024 / w, laneOf w l x =
      if k.onElem f.ng (l / per) then r l else if f.zm then 0 else laneOf w l (k.v.getD f.rd.toNat 0)) ∧
    WritesV i s c f.rd.toNat x ((List.range (1024 / w)).any fun l => k.onElem f.ng (l / per) && ov l)

/-- The instruction writes mask `nd` with the bits for which `p` holds. -/
def WritesN (i : Instr) (s : State) (c nd : Nat) (p : Nat → Bool) : Prop :=
  ∃ x : BitVec 128, (∀ j < 128, x.getLsbD j = p j) ∧
    Goes i s c { s.core c with n := (s.core c).n.setIfInBounds nd x, vctl := (s.core c).vctl ||| 4 }

/-- Accumulator `md` takes the values `r` under sat_48 in the lanes of active elements of `per` lanes each; other lanes stay. -/
def AccLanes (k : Core) (f : VForm) (md per : Nat) (r : Nat → Int) (x : BitVec 3072) : Prop :=
  ∀ l < 64, laneOf 48 l x = if k.onElem f.ng (l / per) then satRule 48 f.s (r l) else laneOf 48 l (k.m.getD md 0)

/-- Whether any such lane sets ov. -/
def accOv (k : Core) (f : VForm) (per : Nat) (r : Nat → Int) : Bool :=
  (List.range 64).any fun l => k.onElem f.ng (l / per) && satOv 48 f.s (r l)

/-- Active elements of a width, lowest first. -/
def Core.activeElems (k : Core) (ng : BitVec 3) (w : Nat) : List Nat := (List.range (1024 / w)).filter fun j => k.onElem ng j

/-! ## Engine jobs -/

/-- Engine `e` runs the task it holds and has not reported it, and no stored bit is in error: `j` is what its job descriptor
and buffer block say. -/
def State.JobOf (s : State) (e : Nat) (j : Job) : Prop :=
  s.NoErrors ∧ ∃ (idx : Nat) (f : Frame) (i : Nat) (t : Task) (bs bb : List Byte),
    (s.eng e).task = some idx ∧ (s.eng e).report = none ∧ (s.eng e).changed = [] ∧ s.engSt e = 3 ∧
    s.islandUp (16 + e) = true ∧
    s.taskAt idx = some (f, i, t) ∧ t.job % 64 = 0 ∧ t.job < hostBase ∧ t.buf < hostBase ∧
    (s.memRead ⟨.engine (Fin.ofNat 67 e), f.bay, false⟩ t.job 64).1 = .ok bs ∧
    (s.memRead ⟨.engine (Fin.ofNat 67 e), f.bay, false⟩ t.buf (16 * (t.nIn + t.nOut))).1 = .ok bb ∧
    j.e = e ∧ j.bay = f.bay ∧ j.addr = t.job ∧ (∀ n < 8, j.w n = wordAt bs n) ∧
    j.words.length = 8 ∧ j.ins.length = t.nIn ∧ j.outs.length = t.nOut ∧
    ∀ n < t.nIn + t.nOut, (j.ins ++ j.outs)[n]? = some (bitsOf (wordAt bb (2 * n)) 47 0, bitsOf (wordAt bb (2 * n + 1)) 31 0)

/-- The status block of a job, where its descriptor names one (R172). -/
def Job.status (j : Job) (cycles sat word1 : Nat) : List (Nat × List Byte) :=
  if j.w 7 % 2 ^ 48 = 0 then []
  else [(j.stream 7 0, toBytes 8 (cycles % 2 ^ 32 * 2 ^ 32 + sat % 2 ^ 32) ++ toBytes 8 word1 ++ toBytes 16 0)]

/-- The job has ended with every output written: the outputs in order and the status block last, the report, and what it
counts. `refs` are the references whose lying in DRAM leaves the cycles open (R185, R232). -/
def JobDone (s t : State) (j : Job) (refs : List Nat) (outs : Nat → List (Nat × List Byte)) (sat cycles word1 : Nat)
    (counts : List (Nat × Nat)) : Prop :=
  ∃ c : Nat, cycles ≤ c ∧ (refs.any j.inDram = false → c = cycles) ∧
    (∀ a, t.byte a = ((s.putAll j.agent (outs c ++ j.status c sat word1)).2).byte a) ∧
    (t.eng j.e).report = some .finished ∧ (t.eng j.e).task = (s.eng j.e).task ∧
    t.reg (MRT_SAT_CNT j.e) = min (s.reg (MRT_SAT_CNT j.e) + sat) 0xFFFFFFFF ∧
    (t.eng j.e).cycles = c ∧ t.reg (MRT_LAST_CYC j.e) = s.reg (MRT_LAST_CYC j.e) ∧ t.wide (MRT_BUSY_LO j.e) = (s.wide (MRT_BUSY_LO j.e) + c) % 2 ^ 64 ∧
    (∀ x ∈ counts, t.reg x.1 = min (s.reg x.1 + x.2) 0xFFFFFFFF) ∧
    t.cores = s.cores ∧ t.truss = s.truss ∧ SamePages s t (engPage j.e :: memoryPages)

/-- Where every write is accepted, the command runs the job to its end. -/
def Finishes (i : Instr) (s : State) (j : Job) (refs : List Nat) (outs : Nat → List (Nat × List Byte)) (sat cycles word1 : Nat)
    (counts : List (Nat × Nat)) : Prop :=
  (∀ c, (s.putAll j.agent (outs c ++ j.status c sat word1)).1 = none) →
    Runs i s fun t => JobDone s t j refs outs sat cycles word1 counts

/-- The streams of a reference as the engine reads them. -/
def State.JobReads (s : State) (j : Job) (word bytes n : Nat) (xs : List (List Byte)) : Prop :=
  (j.readStreams word bytes (List.range n) s).1 = .ok xs

/-- The nearest 16-bit number, and whether the value changed. -/
def clip16 (x : Int) : BitVec 16 := satRule 16 true x
def clips16 (x : Int) : Nat := if (clip16 x).toInt = x then 0 else 1

/-- A CI16 sample: I in the low half. -/
def ci16 (re im : Int) : List Byte := toBytes 4 (clip16 im ++ clip16 re).toNat

/-- I or Q of the sample at a byte offset. -/
def ciPart (bs : List Byte) (off : Nat) (q : Bool) : Int :=
  (BitVec.ofNat 16 (ofBytes ((bs.drop (off + if q then 2 else 0)).take 2))).toInt

/-- The sum of `n` complex products, as (I, Q). -/
def sumCi (n : Nat) (w x : Nat → Int × Int) : Int × Int :=
  (((List.range n).map fun i => (w i).1 * (x i).1 - (w i).2 * (x i).2).sum,
   ((List.range n).map fun i => (w i).1 * (x i).2 + (w i).2 * (x i).1).sum)

/-! ## AIR jobs -/

/-- The oldest entry of a running channel is `j`, it has not been run, and no stored bit is in error. -/
def State.AirJobOf (s : State) (j : AirJob) : Prop :=
  s.NoErrors ∧ s.islandUp 2 = true ∧ j.ch < 72 ∧ (s.airCh j.ch).result = none ∧ (s.airCh j.ch).jobs.head? = some j.w

/-- The channel's core holds the task, at the attempt, that the entry names (R239). -/
def State.AirOwned (s : State) (j : AirJob) : Prop :=
  (s.core j.ch).taskValid = true ∧ (s.core j.ch).taskIndex.toNat = j.f 6 23 0 ∧ (s.core j.ch).taskAttempt.toNat = j.f 6 27 24

/-- The entry waits to be completed with a code, a count and cycles; nothing else but memory has changed. -/
def AirEnds (s t : State) (j : AirJob) (code sat cycles : Nat) : Prop :=
  t.airCh j.ch = { s.airCh j.ch with result := some (code, sat, cycles) } ∧ (∀ d, d ≠ j.ch → t.airCh d = s.airCh d) ∧
    t.truss = s.truss ∧ t.cores = s.cores ∧ SamePages s t memoryPages

/-- `a` lies in what the job may write. -/
def AirJob.mayWrite (j : AirJob) (a : Nat) : Prop := ∃ r ∈ j.ranges, inSpan r.1 r.2 a

/-- The codes that the map of a symbol gives: four bits each, or runs up to the one that reaches n_sc (R245). -/
def State.MapCodes (s : State) (j : AirJob) (sym : Nat) (c : List Nat) : Prop :=
  let a := j.addr 2 + sym * j.stride 2
  let ag := s.airAgent j.ch
  if j.dense then ∃ bs, (s.memRead ag a ((j.n + 1) / 2)).1 = .ok bs ∧ c.length = j.n ∧
    ∀ k < j.n, (c)[k]? = some (if k % 2 = 0 then (bs.getD (k / 2) 0).toNat % 16 else (bs.getD (k / 2) 0).toNat / 16)
  else ∃ runs : List (BitVec 16), (∀ i r, runs[i]? = some r → (s.memRead ag (a + 2 * i) 2).1 = .ok (toBytes 2 r.toNat)) ∧
    c = (runs.flatMap fun r => List.replicate (bitsOf r.toNat 11 0 + 1) (bitsOf r.toNat 15 12)) ∧
    j.n ≤ c.length ∧ ((runs.dropLast).map fun r => bitsOf r.toNat 11 0 + 1).sum < j.n

/-- The runs sum to n_sc, and no code of the map is refused. -/
def AirJob.goodMap (j : AirJob) (c : List Nat) : Prop := c.length = j.n ∧ 14 ∉ c ∧ (13 ∈ c → j.layers = 1 ∧ j.op ≠ 2)

/-- The resource elements in the order of R246, and what a job's codes say of the one at a place of that order. -/
def AirJob.order (j : AirJob) : List (Nat × Nat × Nat) :=
  (List.range j.symbols).flatMap fun sym => (List.range j.n).flatMap fun k => (List.range j.layers).map fun l => (sym, k, l)
def reCode (c : Nat → List Nat) (e : Nat × Nat × Nat) : Nat := (c e.1).getD e.2.1 0
def AirJob.codeAt (j : AirJob) (c : Nat → List Nat) (i : Nat) : Nat := reCode c (j.order.getD i (0, 0, 0))
def AirJob.posAt (j : AirJob) (c : Nat → List Nat) (i : Nat) : Nat :=
  j.start + ((j.order.take i).map fun e => codeQm (reCode c e)).sum

/-- Whether R244 turns the element. -/
def AirJob.turned (j : AirJob) (c : Nat → List Nat) (i : Nat) : Bool :=
  j.codeAt c i == 13 && ((j.order.take i).countP (fun e => reCode c e == 13) + j.pi2) % 2 == 1

/-- Where every write is accepted, the job's outputs are written and it waits to be completed as OK. -/
def AirDone (i : Instr) (s : State) (j : AirJob) (outs : List (Nat × List Byte)) (sat : Nat → Prop) (cycles : Nat) : Prop :=
  (s.putAll (s.airAgent j.ch) outs).1 = none → Runs i s fun t =>
    (∀ a, t.byte a = ((s.putAll (s.airAgent j.ch) outs).2).byte a) ∧ ∃ n, sat n ∧ AirEnds s t j 0 n cycles

/-! ## The Girt (14) -/

/-- A classifier key fits a frame that arrives on port `p`: on the port it names, on that port's mate, or on any (R364, R365). -/
def State.keyFits (s : State) (k : BitVec 64) (p : Nat) (f : RxFrame) : Prop :=
  let port := bitsOf k.toNat 63 58
  (port = 63 ∨ (port < 40 ∧ (port = p ∨ s.mate port = some p))) ∧
  (bitsOf k.toNat 57 46 = 0xFFF ∨ bitsOf k.toNat 57 46 = if f.tagged then f.vlan.toNat else 0) ∧
  bitsOf k.toNat 45 44 = f.proto.toNat ∧ bitsOf k.toNat 43 36 = f.msg.toNat ∧ bitsOf k.toNat 15 0 = f.id.toNat

/-- The order of preference of R365. -/
def keyRank (k : BitVec 64) : Nat := 2 * bitNat (bitsOf k.toNat 63 58 == 63) + bitNat (bitsOf k.toNat 57 46 == 0xFFF)

/-- Entry `e`, with key `k` and action `a`, is the one a frame takes. -/
def State.picks (s : State) (p : Nat) (f : RxFrame) (e : Nat) (k a : BitVec 64) : Prop :=
  (e, (k, a)) ∈ s.girt.cls ∧ s.keyFits k p f ∧
    ∀ x ∈ s.girt.cls, x ≠ (e, (k, a)) → s.keyFits x.2.1 p f → keyRank k < keyRank x.2.1

/-- The frame arrives on a port that runs with its lanes ACTIVE, whole, of a size accepted, with room in the port's buffer (R363). -/
structure State.Arrives (s : State) (p : Nat) (f : RxFrame) : Prop where
  port : s.portOn p = true ∧ s.portActive p = true
  whole : f.fcsOk = true ∧ f.bytes.length ≤ 9216
  room : s.ingress p + f.bytes.length ≤ 0x40000

/-- The arrival event of a symbol waits for TYS: the group is a receiving link's, and the record of the symbol's frame lacks
the status that it waits for (R259). -/
def State.WaitsForTys (s : State) (fg slot sym : Nat) : Prop :=
  ∃ l : Fin 4, s.tysFlow fg = some l ∧
    ((slot % 4 = 0 ∧ sym = 2 ∧ tget? s.tys.hdrDone l.val ≠ some (slot / 4)) ∨
      (slot % 4 = 3 ∧ sym = 13 ∧ tget? s.tys.finDone l.val ≠ some (slot / 4)))

/-- A window's arrival event is raised, or waits for TYS (R11, R259). -/
def State.ToldIn (s t : State) (fg slot sym : Nat) : Prop :=
  (s.WaitsForTys fg slot sym → (fg, slot, sym) ∈ t.girt.awaiting) ∧
    (¬s.WaitsForTys fg slot sym → (fg, slot, sym) ∈ t.truss.arrivals)

/-- `w` bits from bit `pos` of bytes in network order. -/
def netBits (bs : List Byte) (pos w : Nat) : Nat := ofBytesBE bs / 2 ^ (8 * bs.length - pos - w) % 2 ^ w

/-- Part `i` of a PRB in a format without compression or with BFP (R374). -/
def prbPart (method width : Nat) (bs : List Byte) (i : Nat) : Int :=
  if method = 0 then sgn 16 (netBits bs (16 * i) 16)
  else (clip16 (sgn width (netBits (bs.drop 1) (width * i) width) * (2 ^ ((bs.headD 0).toNat % 16) : Nat))).toInt

/-- The parts all fit `w` signed bits when rounded by `e` bits. -/
def fitsBfp (w : Nat) (xs : List Int) (e : Nat) : Prop := ∀ x ∈ xs, -(2 ^ (w - 1)) ≤ rnd x e ∧ rnd x e < 2 ^ (w - 1)

/-- A counter that holds at 0xFFFF_FFFF after `n` more. -/
def heldSum (old n : Nat) : Nat := if n = 0 then old else min (old + n) 0xFFFFFFFF

end Sys2Proof.Machine
end

