-- ==== Sys2Proof/Certificates/Slice0/Obligations.lean ====
section
/-! DEFINITION. The statements for the provers. -/

open Sys2Proof Sys2Proof.Machine

/-! ## The step and the invariant -/

/-- A step is the front command's effect with the queue's rest; with no command waiting one tick of the 1 GHz Ridge clock passes
(R39), the crossings that were held go on (R397), and, unless a RETAIN request waits for its check (R427), nothing else changes.
That an empty queue lets time pass is the model's choice (log 1). -/
def Obligations.StepRunsFrontCommand : Prop :=
  (∀ (c : Instr) (s : State), step { s with pending := c :: s.pending } = exec c s) ∧
  ∀ s : State, s.pending = [] → s.wr = [] → s.power.retCheck = none →
    ∃ t, step s = .next t ∧ t.ridge.ticks = s.ridge.ticks + 1 ∧ t.pending = [] ∧
    (∀ i, t.island i = { s.island i with held := false }) ∧ SameRegs s t [] ∧ SameCompute s t ∧ t.truss = s.truss ∧
    (s.ridge.slew = 0 → s.now + ((nsUnit : Int) + s.rate) < 2 ^ 48 * 1000000000 * (nsUnit : Int) → t.now = s.now + ((nsUnit : Int) + s.rate))

/-- Every one of the 375 commands completes in every state, whatever its operands: exec answers a next state, with the queue as
it was and its stores made; no command is refused or ends in a fault. Every step takes effect, the queue loses its front command
and nothing else, and memory keeps its one form: keys rise strictly, no listed byte equals the unlisted one's, and no store is
left over. What each command does is said by the statements of its family.
Model's choices that it rests on: log 1. -/
def Obligations.EveryStepKeepsTheInvariant : Prop :=
  (∀ (c : Instr) (s : State), Runs c s fun t =>
    t.pending = s.pending ∧ t.wr = [] ∧ (Memory.wf s.mem = true → Memory.wf t.mem = true)) ∧
  ∀ s : State, s.Inv → ∃ t, step s = .next t ∧ t.Inv ∧ t.pending = s.pending.tail

/-- The invariant holds at reset, with no command waiting, no byte and no error bit listed, and firmware not yet running.
Model's choices that it rests on: log 9, 11. -/
def Obligations.ResetHasTheInvariant : Prop :=
  State.reset.Inv ∧ State.reset.pending = [] ∧ (∀ a, State.reset.byte a = 0) ∧ State.reset.NoErrors ∧
    State.reset.life.booted = false ∧ State.reset.ridge.fwRuns = false

/-! ## Register pages and the Scribe (02) -/

/-- Header writes: PG_IRQ_EN, PG_IRQ_FORCE, PG_IRQ_RAW (with an event of the same cycle), PG_ERR_CAPT and PG_CTRL (R20, R26,
R28, R29). Who may change PG_OWNER.bay, and what a change does (R23): Bay 0 and firmware on an ownable page; another owner sets
the vector alone; a BNT page's Bay follows the BAY_BENTS masks (R31), so that its bay bits are ignored (log 18); doorbell and TRS
queue pages move at the queue move's point, and a write that names the present owner withdraws a move that waits (R102).
Model's choices that it rests on: log 18, 123.
The conclusion is `exec … = .next t` (`Runs`) for: irqEnWrite, irqForce, irqRawClear, errCaptClear, ownerLock, softReset,
ownerChange. -/
def Obligations.HeaderWritesTakeEffect : Prop :=
  (∀ (s : State) (r : Requester) (page : PageNo) (i : PageInfo) (v ev : BitVec 32),
     let p := page.toNat
     (s.Accepts r (hdr p 0x14) v.toNat i → Runs (.irqEnWrite r page v) s fun t =>
       t.reg (hdr p 0x14) = v.toNat ∧ (t.line p = false → t.out = s.out ∧ t.pba = s.pba ∧ t.bayPend = s.bayPend) ∧
       SameRegs s t [hdr p 0x14, hdr p 0x2C] ∧ SameCompute s t) ∧
     (s.Accepts r (hdr p 0x18) v.toNat i → Runs (.irqForce r page v) s fun t =>
       BitVec.ofNat 32 (t.reg (hdr p 0x10)) = BitVec.ofNat 32 (s.reg (hdr p 0x10)) ||| (if p = 0 then 0 else v) ∧
       SameRegs s t [hdr p 0x10, hdr p 0x2C] ∧ SameCompute s t) ∧
     (s.Accepts r (hdr p 0x10) (v &&& ~~~(BitVec.ofNat 32 (pageEvents p ev.toNat))).toNat i →
       Runs (.irqRawClear r page v ev) s fun t =>
         BitVec.ofNat 32 (t.reg (hdr p 0x10)) =
           (BitVec.ofNat 32 (s.reg (hdr p 0x10)) &&& ~~~v) ||| BitVec.ofNat 32 (pageEvents p ev.toNat) ∧
         SameRegs s t [hdr p 0x10] ∧ SameCompute s t) ∧
     (s.Accepts r (hdr p 0x1C) v.toNat i → Runs (.errCaptClear r page v) s fun t =>
       t.flag (hdr p 0x1C) 31 = (s.flag (hdr p 0x1C) 31 && !v.getLsbD 31) ∧
       t.flag (hdr p 0x1C) 30 = (s.flag (hdr p 0x1C) 30 && !v.getLsbD 30) ∧
       t.fld (hdr p 0x1C) 29 27 = s.fld (hdr p 0x1C) 29 27 ∧ t.fld (hdr p 0x1C) 15 0 = s.fld (hdr p 0x1C) 15 0 ∧
       SameRegs s t [hdr p 0x1C, hdr p 0x2C] ∧ SameCompute s t) ∧
     (s.Accepts r (hdr p 0x08) (s.ctrlWith p 31).toNat i → Runs (.ownerLock r page) s fun t =>
       t.flag (hdr p 0x08) 31 = true ∧ t.enabled p = s.enabled p ∧ t.hub.softReset = s.hub.softReset ∧
       SameRegs s t [hdr p 0x08, hdr p 0x2C] ∧ SameCompute s t) ∧
     (s.Accepts r (hdr p 0x08) (s.ctrlWith p 1).toNat i → Runs (.softReset r page) s fun t =>
       t.hub.softReset.contains p = true ∧ t.enabled p = s.enabled p ∧ t.flag (hdr p 0x08) 31 = s.flag (hdr p 0x08) 31 ∧
       SameRegs s t [hdr p 0x08, hdr p 0x2C] ∧ SameCompute s t)) ∧
  (∀ (s : State) (r : Requester) (page : PageNo) (i : PageInfo) (v : BitVec 32),
     let p := page.toNat
     let b := if i.kind = .bnt then s.owner p else v.toNat % 8
     s.Accepts r (hdr p 0x28) v.toNat i →
     (i.ownable = true → (s.bayOf r = 0 ∨ isPlate r = true) → movesLater i = false → Runs (.ownerChange r page v) s fun t =>
       t.owner p = b ∧ (b ≠ s.owner p → t.locked p = false) ∧ (b = s.owner p → t.locked p = s.locked p) ∧
       t.fld (hdr p 0x28) 23 16 =
         (if s.owner p = 0 ∨ b ≠ s.owner p then bitsOf v.toNat 23 16 else s.fld (hdr p 0x28) 23 16) ∧ SameCompute s t) ∧
     (i.ownable = true → (s.bayOf r = 0 ∨ isPlate r = true) → movesLater i = true → b ≠ s.owner p →
       Runs (.ownerChange r page v) s fun t => (p, b, bitsOf v.toNat 23 16) ∈ t.truss.moves ∧ t.owner p = s.owner p ∧
         t.fld (hdr p 0x28) 23 16 = s.fld (hdr p 0x28) 23 16 ∧ SameCompute s t) ∧
     (i.ownable = true → (s.bayOf r = 0 ∨ isPlate r = true) → movesLater i = true → b = s.owner p →
       Runs (.ownerChange r page v) s fun t => t.truss.moves.all (fun m => m.1 != p) = true ∧ t.owner p = s.owner p ∧
         SameCompute s t) ∧
     (s.bayOf r ≠ 0 → isPlate r = false → Runs (.ownerChange r page v) s fun t =>
       t.owner p = s.owner p ∧ t.locked p = s.locked p ∧ t.fld (hdr p 0x28) 23 16 = bitsOf v.toNat 23 16 ∧ SameCompute s t) ∧
     (i.ownable = false → Runs (.ownerChange r page v) s fun t => t.owner p = s.owner p ∧ SameCompute s t))

/-- An accepted register write of 32 or 64 bits stores its words by their fields' access codes and is recorded, one entry a word
(R5, R22, R33); one that reaches no register changes nothing, one in error is answered so (R18, R19), and one that finds the
staging FIFO full is held (R34). A wide register's non-latch word is staged, and its latch word commits the staged ones (R27).
The end of a soft reset leaves block registers Cold, what the part or its boot fixes apart (R20).
Model's choices that it rests on: log 17.
The conclusion is `exec … = .next t` (`Runs`) for: registerWrite, wideStageWrite, wideLatchCommit, softResetDone. -/
def Obligations.RegisterWritesStoreAndAreRecorded : Prop :=
  ∀ (s : State) (r : Requester) (a : WinAddr) (v : BitVec 64) (w : BitVec 32) (i : PageInfo) (k : Fin 8) (b : BayNo) (h : HostNo)
    (page : PageNo),
    (a.toNat = GLB_SCRATCH k.val → s.Accepts r a.toNat (v.toNat % 2 ^ 32) i → Runs (.registerWrite r a .b4 v) s fun t =>
      t.reg a.toNat = v.toNat % 2 ^ 32 ∧ t.hub.seq = s.hub.seq + 1 ∧ t.reg (hdr 0 0x2C) = t.hub.seq.toNat % 2 ^ 32 ∧
      (∃ e, t.hub.fifo = s.hub.fifo ++ [e] ∧ e.flags = 0 ∧ e.seq = t.hub.seq ∧ e.page = 0 ∧ e.offset.toNat = a.toNat ∧
        e.new = v.setWidth 32 ∧ e.old.toNat = s.reg a.toNat) ∧
      SameRegs s t [a.toNat, hdr 0 0x2C] ∧ SameCompute s t) ∧
    (0x100 ≤ a.toNat % 4096 → i.kind ∈ plainKinds → wideOf a.toNat = none → quietWrite r a.toNat (v.toNat % 2 ^ 32) →
      s.Accepts r a.toNat (v.toNat % 2 ^ 32) i → Runs (.registerWrite r a .b4 v) s fun t =>
        BitVec.ofNat 32 (t.reg a.toNat) = BitVec.ofNat 32
          (newWord (s.locked (a.toNat / 4096)) ((fieldsAt a.toNat).getD []) (s.reg a.toNat) (v.toNat % 2 ^ 32)) ∧
        t.hub.seq = s.hub.seq + 1 ∧
        (∃ e, t.hub.fifo = s.hub.fifo ++ [e] ∧ e.flags = (if s.hitsLock a.toNat (v.toNat % 2 ^ 32) then 2 else 0) ∧
          e.seq = t.hub.seq ∧ e.page.toNat = a.toNat / 4096 ∧ e.offset.toNat = a.toNat % 4096 ∧ e.new = v.setWidth 32 ∧
          e.requester = BitVec.ofNat 16 (reqId r)) ∧
        t.answer = takenAnswer r ∧ SameRegs s t [a.toNat, hdr (a.toNat / 4096) 0x2C] ∧ SameCompute s t) ∧
    (s.gateOf r (a.toNat / 4096) = .open → onWindow r = true → ∀ size,
      let n := sizeBytes size
      (((n ≠ 4 ∧ n ≠ 8) ∨ a.toNat % n ≠ 0 ∨ pageInfo (a.toNat / 4096) = none) → Runs (.registerWrite r a size v) s fun t =>
        t.answer = (if isHost r then .posted else .busError) ∧ SameRegs s t [] ∧ t.hub = s.hub ∧ SameCompute s t) ∧
      ((n = 4 ∨ n = 8) → a.toNat % n = 0 → pageInfo (a.toNat / 4096) = some i →
        (a.toNat % 4096 < 0x100 ∨ s.blockUp i (a.toNat / 4096) = true) →
        (s.hub.held ≠ [] ∨ s.hub.fifo.length + n / 4 > 64 → Runs (.registerWrite r a size v) s fun t =>
          t.hub.held = s.hub.held ++ [⟨r, a, size, v⟩] ∧ t.answer = .held ∧
          t.reg SCB_STALL_CNT = min (s.reg SCB_STALL_CNT + 1) 0xFFFFFFFF ∧ SameRegs s t [SCB_STALL_CNT] ∧ SameCompute s t) ∧
        (s.hub.held = [] → s.hub.fifo.length + n / 4 ≤ 64 → fieldsAt a.toNat = none → (n = 8 → fieldsAt (a.toNat + 4) = none) →
          Runs (.registerWrite r a size v) s fun t =>
            t.answer = takenAnswer r ∧ t.hub = s.hub ∧ SameRegs s t [] ∧ SameCompute s t))) ∧
    (a.toNat = GLB_SCRATCH (2 * (k.val / 2)) → s.hub.fifo.length < 63 → s.Accepts r a.toNat (v.toNat % 2 ^ 32) i → Runs (.registerWrite r a .b8 v) s fun t =>
      t.reg a.toNat = v.toNat % 2 ^ 32 ∧ t.reg (a.toNat + 4) = v.toNat / 2 ^ 32 ∧ t.hub.seq = s.hub.seq + 2 ∧
      (∃ e f, t.hub.fifo = s.hub.fifo ++ [e, f] ∧ e.flags = 16 ∧ f.flags = 0 ∧ e.seq = s.hub.seq + 1 ∧ f.seq = s.hub.seq + 2) ∧
      SameRegs s t [a.toNat, a.toNat + 4, hdr 0 0x2C] ∧ SameCompute s t) ∧
    (∀ latch n, wideOf a.toNat = some (latch, n) → a.toNat ≠ latch → s.Accepts r a.toNat w.toNat i →
      Runs (.wideStageWrite r a w) s fun t =>
        (a.toNat, w) ∈ tget t.hub.staged (reqId r) [] ∧ (i.kind ∉ laneKinds → SameRegs s t [hdr (a.toNat / 4096) 0x2C]) ∧
        SameCompute s t) ∧
    (∀ n, wideOf a.toNat = some (a.toNat, n) → i.kind ∈ plainKinds → quietWrite r a.toNat w.toNat → s.Accepts r a.toNat w.toNat i →
      let new (x y : Nat) : BitVec 32 :=
        BitVec.ofNat 32 (newWord (s.locked (a.toNat / 4096)) ((fieldsAt x).getD []) (s.reg x) y)
      Runs (.wideLatchCommit r a w) s fun t =>
        BitVec.ofNat 32 (t.reg a.toNat) = new a.toNat w.toNat ∧
        (∀ j, 0 < j → j < n → ∀ l, (tget s.hub.staged (reqId r) []).filter (fun e => e.1 == a.toNat + 4 * j) = l →
          (l = [] → t.reg (a.toNat + 4 * j) = s.reg (a.toNat + 4 * j)) ∧
          (∀ e, l = [e] → BitVec.ofNat 32 (t.reg (a.toNat + 4 * j)) = new (a.toNat + 4 * j) e.2.toNat) ∧
          (tget t.hub.staged (reqId r) []).all (fun e => e.1 != a.toNat + 4 * j) = true) ∧
        SameRegs s t (hdr (a.toNat / 4096) 0x2C :: (List.range n).map fun j => a.toNat + 4 * j) ∧ SameCompute s t) ∧
    (a.toNat = BAY_HWIN_LO b.val h.val → s.Accepts r a.toNat w.toNat i → Runs (.wideLatchCommit r a w) s fun t =>
      t.fld a.toNat 31 12 = bitsOf w.toNat 31 12 ∧
      t.reg (a.toNat + 4) = (match (tget s.hub.staged (reqId r) []).reverse.find? fun e => e.1 == a.toNat + 4 with
        | some e => e.2.toNat
        | none => s.reg (a.toNat + 4)) ∧
      (tget t.hub.staged (reqId r) []).all (fun e => e.1 != a.toNat + 4) = true ∧
      SameRegs s t [a.toNat, a.toNat + 4, hdr (a.toNat / 4096) 0x2C] ∧ SameCompute s t) ∧
    (pageInfo page.toNat = some i → i.kind ∈ [PageKind.glb, .bnt, .rdg2, .lft, .pln, .shm, .drc0, .drc1, .air0, .mrt] →
      s.hub.softReset.contains page.toNat = true → Runs (.softResetDone page) s fun t =>
        t.hub.softReset.contains page.toNat = false ∧
        (∀ x, x / 4096 = page.toNat → 0x100 ≤ x % 4096 → perPart.all (fun e => e.1 != x) = true → t.reg x = (coldWord x).toNat) ∧
        (∀ e ∈ perPart, e.1 / 4096 = page.toNat → t.fld e.1 e.2.1 e.2.2 = s.fld e.1 e.2.1 e.2.2) ∧
        (∀ x, x % 4096 < 0x100 → t.reg x = s.reg x) ∧ SameCompute s t)

/-- A write from a requester that may not write the page is refused: counted for its Bay, recorded with the REFUSED flag and
answered; no register, memory or core changes (R22).
Model's choices that it rests on: log 15.
The conclusion is `exec … = .next t` (`Runs`) for: registerWrite. -/
def Obligations.RefusedWriteIsRecordedAndChangesNothing : Prop :=
  ∀ (s : State) (r : Requester) (a : WinAddr) (v : BitVec 64) (i : PageInfo),
    s.gateOf r (a.toNat / 4096) = .open → onWindow r = true → a.toNat % 4 = 0 → pageInfo (a.toNat / 4096) = some i →
    (a.toNat % 4096 < 0x100 ∨ s.blockUp i (a.toNat / 4096) = true) → s.hub.fifo.length < 64 →
    s.hub.held = [] → (fieldsAt a.toNat).isSome = true → s.mayWrite r i a.toNat = false →
    Runs (.registerWrite r a .b4 v) s fun t =>
      t.reg (SCB_REFUSE_CNT (s.bayOf r)) = min (s.reg (SCB_REFUSE_CNT (s.bayOf r)) + 1) 0xFFFFFFFF ∧
      (∃ e, t.hub.fifo = s.hub.fifo ++ [e] ∧ e.flags = 1 ∧ e.seq = s.hub.seq + 1 ∧ e.bay = BitVec.ofNat 3 (s.bayOf r) ∧
        e.requester = BitVec.ofNat 16 (reqId r) ∧ e.page.toNat = a.toNat / 4096 ∧ e.offset.toNat = a.toNat % 4096 ∧
        e.new = v.setWidth 32) ∧
      t.answer = (if isHost r then .posted else .busError) ∧
      (∀ h fn, r = .host h fn → (t.fn h.val fn.val).targetAbort = true ∧ (t.fn h.val fn.val).aerAbort = true) ∧
      SameRegs s t (SCB_REFUSE_CNT (s.bayOf r) :: if i.kind ∈ laneKinds then [a.toNat] else []) ∧ SameCompute s t

/-- A read of an RC count answers it and clears it, an event of the same cycle kept; of two readers one is answered the count
(R6). A latch word's read answers it and keeps the register's other word for that requester (R27).
Model's choices that it rests on: log 16.
The conclusion is `exec … = .next t` (`Runs`) for: rcRead, wideLatchRead. -/
def Obligations.ReadsAnswerClearAndLatch : Prop :=
  ∀ (s : State) (r : Requester) (second : Option Requester) (a : WinAddr) (ev : BitVec 32) (n : BayNo) (h : HostNo) (i : PageInfo),
    s.Reads r a.toNat i →
    (isCount a.toNat → i.kind ∈ plainKinds → second = none → Runs (.rcRead r second a ev) s fun t =>
      t.answer = .value (BitVec.ofNat 64 (s.reg a.toNat)) ∧ t.reg a.toNat = ev.toNat ∧ SameRegs s t [a.toNat] ∧ SameCompute s t) ∧
    (∀ q, isCount a.toNat → i.kind ∈ plainKinds → second = some q → s.Reads q a.toNat i → Runs (.rcRead r second a ev) s fun t =>
      (t.answer = .value (BitVec.ofNat 64 (s.reg a.toNat)) ∨ t.answer = .value 0) ∧ t.reg a.toNat = ev.toNat ∧
      SameRegs s t [a.toNat] ∧ SameCompute s t) ∧
    (∀ m, wideOf a.toNat = some (a.toNat, m) → Runs (.wideLatchRead r a) s fun t =>
      (∃ x, t.answer = .value x) ∧ (∃ k ws, tget? t.hub.snaps (reqId r) = some (k, ws) ∧ ws.length = m - 1) ∧
      (i.kind ∈ plainKinds → a.toNat ≠ RDG_TXS_NS → (∀ j, a.toNat ≠ RDG_CAP_NS j) → SameRegs s t [] ∧ SameCompute s t)) ∧
    (a.toNat = BNT_TAKE_CNT n.val → second = none → Runs (.rcRead r second a ev) s fun t =>
      t.answer = .value (BitVec.ofNat 64 (s.reg a.toNat)) ∧ t.reg a.toNat = ev.toNat ∧ SameRegs s t [a.toNat] ∧ SameCompute s t) ∧
    (∀ q, a.toNat = BNT_TAKE_CNT n.val → second = some q → s.Reads q a.toNat i → Runs (.rcRead r second a ev) s fun t =>
      (t.answer = .value (BitVec.ofNat 64 (s.reg a.toNat)) ∨ t.answer = .value 0) ∧ t.reg a.toNat = ev.toNat ∧
      SameRegs s t [a.toNat] ∧ SameCompute s t) ∧
    (a.toNat = BAY_HWIN_LO n.val h.val → Runs (.wideLatchRead r a) s fun t =>
      t.answer = .value (BitVec.ofNat 64 (s.reg a.toNat)) ∧
      tget? t.hub.snaps (reqId r) = some (a.toNat, [BitVec.ofNat 32 (s.reg (a.toNat + 4))]) ∧
      SameRegs s t [] ∧ SameCompute s t)

/-- The Scribe: the oldest staged entry reaches its slot of the ring and the head (R34, R35); a read port's fetch starts and
ends with the entry in full, masked, or missing (R38); a heartbeat that stands still is reported (R32).
Model's choices that it rests on: log 4, 19, 123.
The conclusion is `exec … = .next t` (`Runs`) for: scribeDrain, scribeFetch, scribeFetchDone, heartbeatStall. -/
def Obligations.ScribeMovesAndReturnsEntries : Prop :=
  ∀ (s : State) (r : Requester) (n : BayNo) (v : BitVec 32) (i : PageInfo) (e : ScribeEntry) (rest : List ScribeEntry)
    (q : BitVec 48),
    (s.hub.fifo = e :: rest → s.hub.held = [] → Runs .scribeDrain s fun t =>
      t.hub.fifo = rest ∧ tget? t.hub.ring (e.seq.toNat % 4096) = some e ∧ t.wide SCB_HEAD_SEQ_LO = e.seq.toNat ∧
      SameRegs s t [SCB_HEAD_SEQ_LO, SCB_HEAD_SEQ_HI] ∧ SameCompute s t) ∧
    (s.Accepts r (SCB_RD_SEQ_LO n.val) v.toNat i → Runs (.scribeFetch r n v) s fun t =>
      t.flag (SCB_RD_STAT n.val) 0 = true ∧ (∃ x, (n.val, x) ∈ t.hub.fetch ∧ x.toNat % 2 ^ 32 = v.toNat) ∧
      t.hub.seq = s.hub.seq ∧ t.hub.fifo = s.hub.fifo ∧ t.reg (hdr 4 0x2C) = s.reg (hdr 4 0x2C) ∧ SameCompute s t) ∧
    (s.hub.fetch.find? (fun f => f.1 == n.val) = some (n.val, q) → Runs (.scribeFetchDone n) s fun t =>
      (match s.ringEntry q.toNat with
        | none => t.reg (SCB_RD_STAT n.val) = 2
        | some x =>
          if s.seesEntry n.val x then
            t.reg (SCB_RD_STAT n.val) = 0 ∧
            t.wide (SCB_RD_DATA n.val 0) = x.bay.toNat * 2 ^ 56 + x.flags.toNat * 2 ^ 48 + x.seq.toNat ∧
            t.wide (SCB_RD_DATA n.val 6) = x.new.toNat * 2 ^ 32 + x.old.toNat
          else
            t.reg (SCB_RD_STAT n.val) = 4 ∧ t.wide (SCB_RD_DATA n.val 0) = 2 ^ 55 + x.seq.toNat ∧
            t.wide (SCB_RD_DATA n.val 2) = 0 ∧ t.wide (SCB_RD_DATA n.val 4) = 0 ∧ t.wide (SCB_RD_DATA n.val 6) = 0) ∧
      (t.hub.fetch.all fun f => f.1 != n.val) = true ∧ SameCompute s t) ∧
    (s.ridge.fwRuns = true → Runs .heartbeatStall s fun t =>
      t.fld PLT_FW_STAT 3 0 = 3 ∧ t.flag (hdr 8 0x10) 1 = true ∧ t.ridge.fwRuns = false ∧
      s.ridge.ticks + 10000000 ≤ t.ridge.ticks ∧ SameCompute s t)

/-! ## The Ridge (03) -/

/-- A committed correction steps where the step is armed, else joins the pending slew within RDG_STEP_LIMIT, else is refused
(R42, R44, R46); slew runs out (R43); a relock arms a step (R45); a rate is written whole (R27, R49).
Model's choices that it rests on: log 4, 23.
The conclusion is `exec … = .next t` (`Runs`) for: adjCommit, slewComplete, relock, rateWrite. -/
def Obligations.CorrectionsStepSlewOrAreRefused : Prop :=
  ∀ (s : State) (r : Requester) (v : BitVec 32) (i : PageInfo),
    let d := adjValue v.toNat (s.stagedWord r RDG_ADJ_FRAC) (s.stagedWord r RDG_ADJ_SEC_LO) (s.stagedWord r RDG_ADJ_SEC_HI)
    let era : Int := 2 ^ 48 * 1000000000 * (nsUnit : Int)
    let p := s.ridge.slew + d
    let fits := p ≤ s.stepLimit ∧ -p ≤ s.stepLimit
    (s.Accepts r RDG_ADJ_NS v.toNat i → s.stepArmed = true → Runs (.adjCommit r v) s fun t =>
      t.now = (s.now + d) % era ∧ t.stepArmed = false ∧ t.ridge.slew = s.ridge.slew ∧ t.flag (hdr 0x10 0x10) 4 = true ∧
      (s.manual = true → t.servo = 2) ∧ (s.manual = false → t.servo = s.servo)) ∧
    (s.Accepts r RDG_ADJ_NS v.toNat i → s.stepArmed = false → fits → Runs (.adjCommit r v) s fun t =>
      t.ridge.slew = p ∧ t.now = s.now ∧ (s.manual = true → t.servo = 2) ∧ (s.manual = false → t.servo = s.servo) ∧
      SameCompute s t) ∧
    (s.Accepts r RDG_ADJ_NS v.toNat i → s.stepArmed = false → ¬fits → Runs (.adjCommit r v) s fun t =>
      t.ridge.slew = s.ridge.slew ∧ t.now = s.now ∧ t.flag RDG_SERVO_STAT 3 = true ∧
      t.wide RDG_JUMP_VAL_LO = wrap 64 (max (-(2 ^ 63 - 1)) (min (2 ^ 63 - 1) (wholeNs d))) ∧
      t.reg RDG_JUMP_CNT = min (s.reg RDG_JUMP_CNT + 1) 0xFFFFFFFF ∧ t.flag (hdr 0x10 0x10) 2 = true ∧
      (2 ≤ s.servo → t.servo = 3 ∧ t.fld RDG_SERVO_STAT 7 4 = 2) ∧
      (s.servo < 2 → t.servo = s.servo ∧ t.fld RDG_SERVO_STAT 7 4 = s.fld RDG_SERVO_STAT 7 4) ∧ SameCompute s t) ∧
    (1 ≤ s.fld RDG_SLEW_MAX 13 0 → Runs .slewComplete s fun t =>
      t.ridge.slew = 0 ∧ s.ridge.ticks ≤ t.ridge.ticks ∧
      t.now % era = (s.now + ((nsUnit : Int) + s.rate) * ((t.ridge.ticks : Int) - s.ridge.ticks) + s.ridge.slew) % era ∧
      SameRegs s t [] ∧ SameCompute s t) ∧
    (s.Accepts r RDG_SERVO_CTL (v ||| 0x80000000).toNat i → Runs (.relock r v) s fun t =>
      t.stepArmed = true ∧ t.ridge.slew = 0 ∧ t.flag RDG_SERVO_STAT 3 = false ∧ t.servo = 1 ∧ t.now = s.now ∧
      t.manual = v.getLsbD 0 ∧ SameCompute s t) ∧
    (s.Accepts r RDG_RATE_LO v.toNat i → Runs (.rateWrite r v) s fun t =>
      t.reg RDG_RATE_LO = v.toNat ∧
      t.reg RDG_RATE_HI = (match (tget s.hub.staged (reqId r) []).reverse.find? fun e => e.1 == RDG_RATE_HI with
        | some e => e.2.toNat % 256
        | none => s.reg RDG_RATE_HI) ∧
      SameRegs s t [RDG_RATE_LO, RDG_RATE_HI, hdr 0x10 0x2C] ∧ SameCompute s t)

/-- The servo's transitions of R46 in servo mode, and the expiry of holdover. A source qualifies where it gives what R46 asks of
it, and a measurement is discarded while no source has qualified.
Model's choices that it rests on: log 26, 27, 122.
The conclusion is `exec … = .next t` (`Runs`) for: phaseSourceQualify, servoMeasurement, phaseSourceLost, measurementTimeout,
holdoverExpiry. -/
def Obligations.ServoMovesAsListed : Prop :=
  ∀ (s : State) (src : PhaseSource) (sec : BitVec 48) (ns frac : BitVec 32) (fe ra : BitVec 40),
    let d := adjValue ns.toNat frac.toNat (sec.toNat % 2 ^ 32) (sec.toNat / 2 ^ 32)
    let p := s.ridge.slew + d
    let fits := p ≤ s.stepLimit ∧ -p ≤ s.stepLimit
    (s.phaseGiven src = false → Runs (.phaseSourceQualify src) s fun t =>
      t.ridge.phaseSource = s.ridge.phaseSource ∧ t.servo = s.servo ∧ SameRegs s t [] ∧ SameCompute s t) ∧
    (s.phaseReady = false → Runs (.servoMeasurement true sec ns frac fe ra) s fun t =>
      t.servo = s.servo ∧ t.now = s.now ∧ t.ridge = s.ridge ∧ SameRegs s t [] ∧ SameCompute s t) ∧
    (s.manual = false → s.ridge.fwRuns = true → s.phaseGiven src = true → Runs (.phaseSourceQualify src) s fun t =>
      t.ridge.phaseSource = some src ∧ (s.servo = 0 → t.servo = 1) ∧ (s.servo ≠ 0 → t.servo = s.servo) ∧ t.now = s.now ∧
      SameCompute s t) ∧
    (s.manual = false → Runs .phaseSourceLost s fun t =>
      t.ridge.phaseSource = none ∧ (s.servo = 1 → t.servo = 0 ∧ t.flag (hdr 0x10 0x10) 3 = true) ∧
      (s.servo ≠ 1 → t.servo = s.servo) ∧ t.now = s.now ∧ SameCompute s t) ∧
    (s.manual = false → s.ridge.fwRuns = true → s.servo = 0 → Runs (.servoMeasurement true sec ns frac fe ra) s fun t =>
      t.servo = 0 ∧ t.now = s.now ∧ t.ridge.slew = s.ridge.slew ∧ SameRegs s t [] ∧ SameCompute s t) ∧
    (s.manual = false → s.ridge.fwRuns = true → s.phaseReady = true → s.servo = 1 → calm fe.toInt = false →
      Runs (.servoMeasurement true sec ns frac fe ra) s fun t =>
        t.servo = 1 ∧ t.ridge.goodRuns = 0 ∧ t.rate = ra.toInt ∧ t.now = s.now ∧ t.ridge.slew = s.ridge.slew ∧ SameCompute s t) ∧
    (s.manual = false → s.ridge.fwRuns = true → s.phaseReady = true → s.servo = 1 → calm fe.toInt = true → 15 ≤ s.ridge.goodRuns →
      (s.stepArmed = true ∨ fits) → Runs (.servoMeasurement true sec ns frac fe ra) s fun t =>
        t.servo = 2 ∧ t.rate = ra.toInt ∧ t.flag (hdr 0x10 0x10) 0 = true ∧ t.stepArmed = false) ∧
    (s.manual = false → s.ridge.fwRuns = true → s.phaseReady = true → (s.servo = 2 ∨ s.servo = 3) → s.stepArmed = false → fits →
      Runs (.servoMeasurement true sec ns frac fe ra) s fun t =>
        t.servo = 2 ∧ t.ridge.slew = p ∧ t.now = s.now ∧ t.rate = ra.toInt ∧ SameCompute s t) ∧
    (s.manual = false → s.ridge.fwRuns = true → s.phaseReady = true → (s.servo = 2 ∨ s.servo = 3) → s.stepArmed = false → ¬fits →
      Runs (.servoMeasurement true sec ns frac fe ra) s fun t =>
        t.servo = 3 ∧ t.fld RDG_SERVO_STAT 7 4 = 2 ∧ t.ridge.slew = s.ridge.slew ∧ t.now = s.now ∧ SameCompute s t) ∧
    (s.manual = false → s.servo = 2 → Runs .measurementTimeout s fun t =>
      t.servo = 3 ∧ t.fld RDG_SERVO_STAT 7 4 = 1 ∧ t.flag (hdr 0x10 0x10) 1 = true ∧ t.stepArmed = s.stepArmed ∧ SameCompute s t) ∧
    (s.servo = 3 → Runs .holdoverExpiry s fun t =>
      t.servo = 0 ∧ t.flag (hdr 0x10 0x10) 3 = true ∧ t.stepArmed = s.stepArmed ∧ SameCompute s t)

/-- Frequency sources qualify, show a loss and disqualify (R52, R264); DPLL B takes over, and the failure is logged (R53, R461); a stamp FIFO's head is popped (R55,
R62); edges are captured (R62).
Model's choices that it rests on: log 4, 29, 124.
The conclusion is `exec … = .next t` (`Runs`) for: sourceQualify, sourceLoss, sourceDisqualify, dpllAFail, txsPop, capPop,
extCaptureEdge. -/
def Obligations.SourcesAndStampsAreKept : Prop :=
  ∀ (s : State) (r : Requester) (i : PageInfo) (src : Fin 5) (k : Fin 4) (rising : Bool) (quarter : Fin 4) (width : BitVec 32),
    let port := s.fld RDG_TXS_SEL 5 0
    let held := s.ridge.cap.getD k.val []
    let chosen := bitOf (s.fld (RDG_CAP_CTL k.val) 1 0) (if rising then 0 else 1)
    ((src.val = 3 → s.flag TYS_FREQ_SEL 16 = true ∧
        -(freqRange : Int) ≤ sgn 32 (s.reg (RDG_SRC_FOFF 3)) ∧ sgn 32 (s.reg (RDG_SRC_FOFF 3)) ≤ freqRange) →
      Runs (.sourceQualify src) s fun t =>
      (t.source src.val).qualified = true ∧ (t.source src.val).lost = false ∧ (t.source src.val).wasLost = false ∧
      (src.val < 4 → t.flag RDG_SRC_STAT (8 + src.val) = true) ∧ SameCompute s t) ∧
    (Runs (.sourceLoss src) s fun t =>
      (t.source src.val).lost = true ∧ (t.source src.val).qualified = (s.source src.val).qualified ∧ SameRegs s t [] ∧ SameCompute s t) ∧
    ((s.source src.val).lost = true ∨ src.val = 3 → Runs (.sourceDisqualify src) s fun t =>
      (t.source src.val).qualified = false ∧ (t.source src.val).wasLost = true ∧
      (src.val < 4 → t.flag RDG_SRC_STAT (8 + src.val) = false) ∧ SameCompute s t) ∧
    (Runs .dpllAFail s fun t =>
      t.flag RDG_SRC_STAT 12 = true ∧
      (s.flag RDG_SRC_STAT 12 = false → t.flag (hdr 0x10 0x10) 6 = true ∧ t.flag (hdr 9 0x10) 0 = true ∧
        t.reg PLT_FLT_HEAD = (s.reg PLT_FLT_HEAD + 1) % 2 ^ 32 ∧ t.flag PLT_FLT_DEGRADED 10 = true) ∧
      t.now = s.now ∧ SameCompute s t) ∧
    (∀ st rest, s.Reads r RDG_TXS_NS i → s.ridge.txs.getD port [] = st :: rest → Runs (.txsPop r) s fun t =>
      t.answer = .value (st.ns.setWidth 64) ∧ t.ridge.txs.getD port [] = rest ∧ t.reg RDG_TXS_FRAC = st.frac.toNat ∧
      t.reg RDG_TXS_SEC_LO = st.sec.toNat % 2 ^ 32 ∧ t.flag RDG_TXS_TAG 31 = true ∧ t.fld RDG_TXS_TAG 15 0 = st.seqId.toNat ∧
      SameCompute s t) ∧
    (s.Reads r RDG_TXS_NS i → s.ridge.txs.getD port [] = [] → Runs (.txsPop r) s fun t =>
      t.flag RDG_TXS_TAG 31 = false ∧ t.ridge.txs = s.ridge.txs ∧ SameCompute s t) ∧
    (∀ st rest, s.Reads r (RDG_CAP_NS k.val) i → held = st :: rest → Runs (.capPop r k) s fun t =>
      t.answer = .value (st.ns.setWidth 64) ∧ t.ridge.cap.getD k.val [] = rest ∧
      t.fld (RDG_CAP_CTL k.val) 7 4 = rest.length % 16 ∧ t.reg (RDG_CAP_FRAC k.val) = st.frac.toNat ∧ SameCompute s t) ∧
    (chosen = true → 10 ≤ width.toNat → held.length < 8 → Runs (.extCaptureEdge k rising quarter width) s fun t =>
      t.ridge.cap.getD k.val [] = held ++ [stampOf (s.now + (quarter.val * (nsUnit / 4) : Nat)) 0 0] ∧
      t.fld (RDG_CAP_CTL k.val) 7 4 = held.length + 1 ∧ SameRegs s t [RDG_CAP_CTL k.val] ∧ SameCompute s t) ∧
    (chosen = true → 10 ≤ width.toNat → 8 ≤ held.length → Runs (.extCaptureEdge k rising quarter width) s fun t =>
      t.flag (RDG_CAP_CTL k.val) 8 = true ∧ t.ridge.cap = s.ridge.cap ∧ SameCompute s t) ∧
    (chosen = false → Runs (.extCaptureEdge k rising quarter width) s fun t =>
      t.ridge.cap = s.ridge.cap ∧ SameRegs s t [] ∧ SameCompute s t)

/-- Pulses leave at whole seconds and carry their advance and width, or are squelched (R58); an input pulse takes its label or
is reported (R59); messages label the next pulse (R59, R61); the sent message names the next second (R60).
Model's choices that it rests on: log 24, 25, 28, 114.
The conclusion is `exec … = .next t` (`Runs`) for: ppsOutEdge, ppsInEdge, todRxMessage, todTxSend. -/
def Obligations.PulsesAndTimeOfDayAgree : Prop :=
  ∀ (s : State) (k : Fin 2) (rising : Bool) (quarter : Fin 4) (bytes : List Byte) (ms : BitVec 16),
    let out := s.reg (RDG_PPSO_CTL k.val)
    let inn := s.reg (RDG_PPSI_CTL k.val)
    (bitOf out 0 = true → (bitOf out 2 = true → s.carOn (bitsOf out 15 8) = true) → ¬(bitOf out 1 = true ∧ s.servo < 2) →
      Runs (.ppsOutEdge k) s fun t =>
        (∃ sec ns frac, t.out = s.out ++
            [.ppsEdge k sec ns frac (BitVec.ofNat 32 (s.reg (RDG_PPSO_DLY k.val))) (10 * bitsOf out 31 16)] ∧
          (bitOf out 2 = false → ns = 0 ∧ frac = 0)) ∧ SameRegs s t [] ∧ SameCompute s t) ∧
    (bitOf out 0 = false → Runs (.ppsOutEdge k) s fun t => t.out = s.out ∧ SameRegs s t [] ∧ SameCompute s t) ∧
    (bitOf out 1 = true → s.servo < 2 → Runs (.ppsOutEdge k) s fun t => t.out = s.out ∧ SameRegs s t [] ∧ SameCompute s t) ∧
    (∀ sec, bitOf inn 0 = true → bitOf inn 1 = !rising → s.ridge.todLabel.getD k.val none = some sec →
      Runs (.ppsInEdge k rising quarter) s fun t =>
        t.ridge.ppsCap.getD k.val none = some (s.now + (quarter.val * (nsUnit / 4) : Nat) -
          sgn 32 (s.reg (RDG_PPSI_DLY k.val)) * (nsUnit / 4 : Nat), sec) ∧
        t.ridge.todLabel.getD k.val none = none ∧ SameRegs s t [] ∧ SameCompute s t) ∧
    (bitOf inn 0 = true → bitOf inn 1 = !rising → s.ridge.todLabel.getD k.val none = none →
      Runs (.ppsInEdge k rising quarter) s fun t =>
        t.flag (hdr 0x10 0x10) 7 = true ∧ t.ridge.ppsCap = s.ridge.ppsCap ∧ SameCompute s t) ∧
    (∀ n, s.fld RDG_TOD_CTL 1 0 = 2 → larviaSecond bytes = some n → 100 ≤ ms.toNat → ms.toNat ≤ 900 →
      Runs (.todRxMessage bytes ms) s fun t =>
        t.ridge.todLabel.getD k.val none = some (BitVec.ofNat 48 n) ∧ SameRegs s t [] ∧ SameCompute s t) ∧
    (∀ u, s.fld RDG_TOD_CTL 1 0 = 1 → nmeaSecond bytes = some u → 100 ≤ ms.toNat → ms.toNat ≤ 900 →
      Runs (.todRxMessage bytes ms) s fun t =>
        t.ridge.todLabel.getD k.val none = some (BitVec.ofInt 48 (u + sgn 16 (s.fld RDG_UTC 15 0))) ∧ SameRegs s t [] ∧
        SameCompute s t) ∧
    (ms.toNat < 100 ∨ 900 < ms.toNat → Runs (.todRxMessage bytes ms) s fun t =>
      t.ridge.todLabel = s.ridge.todLabel ∧ SameRegs s t [] ∧ SameCompute s t) ∧
    (let due := s.ridge.sec.toNat + if s.ridge.ns.toNat > 300000000 then 1 else 0
     let n := if s.ridge.todSent = some due ∧ 300000000 ≤ s.ridge.ns.toNat then due + 1 else due
     s.flag RDG_TOD_CTL 4 = true → Runs .todTxSend s fun t =>
      (∃ bs, t.out = s.out ++ [.tod bs] ∧ larviaSecond bs = some ((n + 1) % 2 ^ 48)) ∧ t.ridge.todSent = some n ∧
      SameRegs s t [] ∧ SameCompute s t)

/-- Carriers are configured, start and pass boundaries (R64, R65); timers are armed, fire and are cleared (R66).
Model's choices that it rests on: log 3, 4, 119, 124.
The conclusion is `exec … = .next t` (`Runs`) for: carrierConfig, carrierStart, gridEvent, timerArm, timerClearFlags,
timerFire. -/
def Obligations.CarriersAndTimersFollowTheGrid : Prop :=
  ∀ (s : State) (r : Requester) (c : CarrierNo) (k : Fin 32) (v : BitVec 32) (i : PageInfo),
    let cfg := RDG_CAR_CFG c.val
    let named := (gridShape (bitsOf v.toNat 2 0) (bitsOf v.toNat 3 3) (bitsOf v.toNat 5 4)).isSome
    let tm := s.timerTime k.val
    (s.Accepts r cfg v.toNat i → s.carOn c.val = true → v.getLsbD 31 = true → Runs (.carrierConfig r c v) s fun t =>
      t.reg cfg = putBits (s.reg cfg) 26 24 (bitsOf v.toNat 26 24) ∧ t.ridge.cars = s.ridge.cars ∧
      SameRegs s t [cfg, hdr (cfg / 4096) 0x2C] ∧ SameCompute s t) ∧
    (s.Accepts r cfg v.toNat i → ¬(s.carOn c.val = true ∧ v.getLsbD 31 = true) → named = false →
      Runs (.carrierConfig r c v) s fun t =>
        t.reg cfg = s.reg cfg ∧ t.ridge.cars = s.ridge.cars ∧ SameRegs s t [hdr (cfg / 4096) 0x2C] ∧ SameCompute s t) ∧
    (s.Accepts r cfg v.toNat i → s.carOn c.val = false → v.getLsbD 31 = true → named = true →
      Runs (.carrierConfig r c v) s fun t =>
        t.carOn c.val = true ∧ t.carBay c.val = bitsOf v.toNat 26 24 ∧ bitsOf (t.reg cfg) 5 0 = bitsOf v.toNat 5 0 ∧
        t.carStarted c.val = false ∧ t.carPos c.val = 0 ∧ SameRegs s t [cfg, hdr (cfg / 4096) 0x2C] ∧ SameCompute s t) ∧
    (s.Accepts r cfg v.toNat i → (s.carOn c.val = true ∨ tget? s.ridge.cars c.val = none) → v.getLsbD 31 = false → named = true →
      Runs (.carrierConfig r c v) s fun t =>
      t.carOn c.val = false ∧ tget? t.ridge.cars c.val = none ∧ bitsOf (t.reg cfg) 5 0 = bitsOf v.toNat 5 0 ∧ SameCompute s t) ∧
    (∀ n, tget? s.ridge.cars c.val = some ⟨false, n⟩ → s.carOn c.val = true → Runs (.carrierStart c) s fun t =>
      tget? t.ridge.cars c.val = some ⟨true, n + 1⟩ ∧ SameRegs s t [] ∧ SameCompute s t) ∧
    (∀ n, tget? s.ridge.cars c.val = some ⟨true, n⟩ → s.carOn c.val = true → Runs (.gridEvent c) s fun t =>
      tget? t.ridge.cars c.val = some ⟨true, n + 1⟩ ∧ SameRegs s t [] ∧ SameCompute s t) ∧
    (s.Accepts r (evtCtl k.val) (v &&& 0xAFFFFFFF).toNat i → Runs (.timerArm r k v) s fun t =>
      t.timerMode k.val = bitsOf v.toNat 1 0 ∧
      (bitsOf v.toNat 1 0 = 0 → (t.timer k.val).armed = false) ∧ (bitsOf v.toNat 1 0 = 3 → (t.timer k.val).armed = true) ∧
      (bitsOf v.toNat 1 0 = 1 → s.now ≤ (tm : Int) * nsUnit → t.timer k.val = ⟨true, tm, 0⟩) ∧
      (bitsOf v.toNat 1 0 = 2 → s.now ≤ (tm : Int) * nsUnit → t.timer k.val = ⟨true, tm, 0⟩) ∧
      (bitsOf v.toNat 1 0 = 1 → (tm : Int) * nsUnit < s.now →
        (t.timer k.val).armed = false ∧ t.flag (evtCtl k.val) 30 = true ∧ t.flag (evtCtl k.val) 28 = true)) ∧
    (let w := if v &&& 0x50000000 = 0 then v ||| 0x50000000 else v
     s.Accepts r (evtCtl k.val) w.toNat i → Runs (.timerClearFlags r k v) s fun t =>
      t.flag (evtCtl k.val) 30 = (s.flag (evtCtl k.val) 30 && !w.getLsbD 30) ∧
      t.flag (evtCtl k.val) 28 = (s.flag (evtCtl k.val) 28 && !w.getLsbD 28) ∧
      t.fld (evtCtl k.val) 19 0 = s.fld (evtCtl k.val) 19 0 ∧ t.ridge.timers = s.ridge.timers ∧
      SameRegs s t [evtCtl k.val, hdr (evtCtl k.val / 4096) 0x2C] ∧ SameCompute s t) ∧
    ((s.timer k.val).armed = true → s.timerMode k.val = 1 → Runs (.timerFire k) s fun t =>
      (t.timer k.val).armed = false ∧ t.flag (evtCtl k.val) 30 = true ∧ t.flag (evtCtl k.val) 28 = s.flag (evtCtl k.val) 28) ∧
    ((s.timer k.val).armed = true → s.timerMode k.val = 2 → Runs (.timerFire k) s fun t =>
      t.timer k.val = { s.timer k.val with nextNs := (s.timer k.val).nextNs + s.timerPeriod k.val } ∧
      t.flag (evtCtl k.val) 30 = true) ∧
    (∀ n, (s.timer k.val).armed = true → s.timerMode k.val = 3 → s.carOn (s.timerCar k.val) = true →
      s.carStarted (s.timerCar k.val) = true → s.badCar k.val = false →
      nextGrid (s.shape (s.timerCar k.val)) (s.fld (evtCtl k.val) 19 16) (s.timer k.val).last = some n →
      Runs (.timerFire k) s fun t => (t.timer k.val).last = n ∧ t.flag (evtCtl k.val) 30 = true)

/-! ## The Truss and the Ledger (04) -/

/-- Doorbells, queue settings, completion ring settings, Ledger regions and the record read port (R77, R94, R111, R112).
Model's choices that it rests on: log 36, 112.
The conclusion is `exec … = .next t` (`Runs`) for: doorbell, queueConfig, crConsWrite, crCtlWrite, ldgRegionWrite,
ledgerRdFetch. -/
def Obligations.TrussRegistersTakeEffect : Prop :=
  ∀ (s : State) (r : Requester) (q : QueueNo) (b : BayNo) (ring : Fin 16) (v : BitVec 32) (i : PageInfo),
    let x := s.q q.val
    let fits := sub32 v.toNat x.fetch ≤ sub32 (add32 x.completed (s.ringSize q.val)) x.fetch
    let sel := s.fld (TRS_QSEL b.val) 9 0
    let cfg := qCfg sel
    let stalled := (s.ringQueues b.val ring.val).any fun k => (s.q k).delay == 3 || (s.q k).delay == 6
    let moving := s.truss.moves.any fun m => m.1 == qPage sel
    let kept (t : State) : Prop := t.truss.frames = s.truss.frames ∧ t.truss.onChip = s.truss.onChip ∧ ∀ k, k ≠ sel → t.q k = s.q k
    let idx := bitsOf v.toNat 23 0
    let from' := s.wide (if s.flag LDG_STAT 0 then LDG_M0_LO else LDG_M1_LO) + 64 * idx
    (s.Accepts r (TRS_DB q.val) v.toNat i → s.flag TRS_STAT 0 = false → fits → Runs (.doorbell r q v) s fun t =>
      t.reg (TRS_DB q.val) = v.toNat ∧ t.truss = s.truss ∧ SameRegs s t [TRS_DB q.val, hdr (qPage q.val) 0x2C] ∧ SameCompute s t) ∧
    (s.Accepts r (TRS_DB q.val) v.toNat i → s.flag TRS_STAT 0 = false → ¬fits → s.flag (hdr (qPage q.val) 0x1C) 31 = false →
      Runs (.doorbell r q v) s fun t =>
        t.reg (TRS_DB q.val) = s.reg (TRS_DB q.val) ∧ t.reg TRS_STALE_CNT = min (s.reg TRS_STALE_CNT + 1) 0xFFFFFFFF ∧
        t.fld (hdr (qPage q.val) 0x1C) 15 0 = 0x0001 ∧ t.wide (hdr (qPage q.val) 0x20) = v.toNat ∧ t.truss = s.truss ∧
        SameCompute s t) ∧
    (s.Accepts r (TRS_DB q.val) v.toNat i → s.flag TRS_STAT 0 = true → Runs (.doorbell r q v) s fun t =>
      t.reg (TRS_DB q.val) = s.reg (TRS_DB q.val) ∧ t.truss = s.truss ∧ SameCompute s t) ∧
    (s.Accepts r (TRS_Q_CFG b.val) v.toNat i → s.qOn sel = true → Runs (.queueConfig r b v) s fun t =>
      t.qOn sel = v.getLsbD 31 ∧ t.qOnchip sel = s.qOnchip sel ∧ t.qKind sel = s.qKind sel ∧
      t.qClass sel = bitsOf v.toNat 26 24 ∧ t.qGrace sel = bitsOf v.toNat 23 20 ∧ t.qMask sel = bitsOf v.toNat 15 0 ∧
      (v.getLsbD 31 = false → (moving = false → t.fld (qStat sel) 2 0 = 5) ∧ t.q sel = { s.q sel with room := 0, delay := 0 }) ∧
      (v.getLsbD 31 = true → t.q sel = s.q sel) ∧ kept t ∧
      SameRegs s t [cfg, qStat sel, hdr (viewPage b.val) 0x2C] ∧ SameCompute s t) ∧
    (s.Accepts r (TRS_Q_CFG b.val) v.toNat i → s.qOn sel = false → v.getLsbD 30 = false ∨ v.getLsbD 29 = true →
      bitsOf v.toNat 19 16 ≤ 9 → Runs (.queueConfig r b v) s fun t =>
        t.qOn sel = v.getLsbD 31 ∧ t.qOnchip sel = v.getLsbD 29 ∧ t.qKind sel = bitsOf v.toNat 19 16 ∧
        t.qClass sel = bitsOf v.toNat 26 24 ∧ t.qGrace sel = bitsOf v.toNat 23 20 ∧ t.qMask sel = bitsOf v.toNat 15 0 ∧
        (v.getLsbD 31 = true → moving = false → (s.q sel).room = 0 → (s.q sel).delay = 0 → t.fld (qStat sel) 2 0 = 0) ∧
        t.truss = s.truss ∧
        SameRegs s t [cfg, qStat sel, hdr (viewPage b.val) 0x2C] ∧ SameCompute s t) ∧
    (∀ bs s1, s.Accepts r (TRS_Q_CFG b.val) v.toNat i → s.qOn sel = false → v.getLsbD 31 = true → v.getLsbD 30 = true →
      v.getLsbD 29 = false → s.memRead (trussFor (s.qBay sel)) (s.cblk sel) 16 = (.ok bs, s1) →
      wordAt bs 0 % 2 ^ 32 = wordAt bs 1 % 2 ^ 32 → Runs (.queueConfig r b v) s fun t =>
        t.qOn sel = true ∧ (t.q sel).fetch = wordAt bs 0 % 2 ^ 32 ∧ (t.q sel).voids = [] ∧
        (t.q sel).nextSeq = (s.q sel).nextSeq ∧ kept t ∧ t.cores = s.cores) ∧
    (s.Accepts r (TRS_CR_CONS b.val ring.val) v.toNat i → Runs (.crConsWrite r b ring v) s fun t =>
      t.reg (TRS_CR_CONS b.val ring.val) = v.toNat ∧
      (stalled = false → t.truss = s.truss ∧ SameRegs s t [TRS_CR_CONS b.val ring.val, hdr (viewPage b.val) 0x2C] ∧
        SameCompute s t)) ∧
    (s.Accepts r (TRS_CR_CTL b.val ring.val) v.toNat i → Runs (.crCtlWrite r b ring v) s fun t =>
      t.flag (TRS_CR_CTL b.val ring.val) 31 = v.getLsbD 31 ∧ t.fld (TRS_CR_CTL b.val ring.val) 7 0 = bitsOf v.toNat 7 0 ∧
      (stalled = false → t.truss = s.truss ∧ SameRegs s t [TRS_CR_CTL b.val ring.val, hdr (viewPage b.val) 0x2C] ∧
        SameCompute s t)) ∧
    (s.Accepts r (LDG_REGION b.val) v.toNat i → Runs (.ldgRegionWrite r b v) s fun t =>
      t.fld (LDG_REGION b.val) 7 0 = bitsOf v.toNat 7 0 ∧ t.fld (LDG_REGION b.val) 24 16 = bitsOf v.toNat 24 16 ∧
      t.truss.frames = s.truss.frames ∧ SameRegs s t [LDG_REGION b.val, hdr 0x30 0x2C] ∧ SameCompute s t) ∧
    (s.Accepts r LDG_RD_IDX v.toNat i → s.recordState idx = 0 ∨ s.recordState idx = 6 →
      Runs (.ledgerRdFetch r v) s fun t =>
        (∀ k : Fin 16, k.val ≠ 1 → t.reg (LDG_RD_DATA k.val) = ofBytes (s.bytes (from' + 4 * k.val) 4)) ∧
        t.reg (LDG_RD_DATA 1) = putBits (ofBytes (s.bytes (from' + 4) 4)) 26 24 (s.recordState idx) ∧
        t.flag LDG_RD_STAT 1 = false ∧ t.flag LDG_STAT 3 = s.flag LDG_STAT 3 ∧ t.truss = s.truss ∧ SameCompute s t)

/-- A Frame at the head of a ring whose turn it is (R80) is refused with its first failing code, is held back for want of room,
or enters OPEN with its records at the region's allocation point (R78, R81, R85), and so it is where it had waited for room
(R96); the words that the codes go by. An on-chip submission is refused by its queue, by its checks, or where its descriptor
could not be read, or waits for room (R97, R134).
Model's choices that it rests on: log 35, 37, 126.
The conclusion is `exec … = .next t` (`Runs`) for: frameFetch, admissionRoom. -/
def Obligations.FramesAreCheckedAndAdmitted : Prop :=
  ∀ (s s1 s2 : State) (q : QueueNo) (c : Instr) (bs : List Byte) (code : Nat) (ts : List Task),
    let n := q.val
    let b := s.qBay n
    let x := s.q n
    let at' := s.ringBase n + 64 * (x.fetch % s.ringSize n)
    let ring (a : Nat) : Prop := inSpan (at' + 56) 8 a ∨ inSpan (s.cblk n) 24 a
    let rgn := s.region b
    let fid := rgn.1 + s.truss.alloc.getD b 0
    let w := (List.range 8).map (wordAt bs)
    let turned : State := { s with truss := { s.truss with rotation := tput s.truss.rotation (s.qClass n) n } }
    let idxs := (List.range ts.length).map fun k => rgn.1 + (s.truss.alloc.getD b 0 + k) % max 1 rgn.2
    let handed (e : OnChip) (w : Nat) (t : State) : Prop :=
      { e with taken := true, word := some (BitVec.ofNat 64 w) } ∈ t.truss.onChip ∧ t.truss.frames = s.truss.frames ∧
      t.reg TRS_REFUSE_CNT = min (s.reg TRS_REFUSE_CNT + 1) 0xFFFFFFFF ∧ t.flag (hdr (viewPage e.bay) 0x10) 1 = true ∧
      SameCompute s t
    (∀ e, (s.truss.onChip.find? fun e => e.queue == n && !e.taken) = some e →
      let fed := s.qOn n && s.qOnchip n && s.qBay n == e.bay
      (fed = false → Runs (.frameFetch q) s (handed e (frameWord true 2 0 s.epoch))) ∧
      (fed = true → e.desc = [] → Runs (.frameFetch q) s (handed e (frameWord true 6 0 s.epoch))) ∧
      (∀ cd us u, fed = true → e.desc ≠ [] → s.admitting n = true → s.checkFrame e.bay n e.desc = (cd, us, u) →
        (cd ≠ 0 → Runs (.frameFetch q) s fun t =>
          { e with taken := true, word := some (BitVec.ofNat 64 (frameWord true cd 0 s.epoch)) } ∈ t.truss.onChip ∧
          t.truss.frames = s.truss.frames ∧ t.cores = s.cores) ∧
        (cd = 0 → u.noRoom e.bay us ≠ 0 → Runs (.frameFetch q) s fun t =>
          t.truss.onChip = s.truss.onChip ∧ t.truss.frames = s.truss.frames ∧ (t.q n).room = u.noRoom e.bay us ∧ t.cores = s.cores))) ∧
    (s.admitting n = true → s.qOnchip n = false → (s.truss.onChip.any fun e => e.queue == n && !e.taken) = false →
    0 < sub32 (s.reg (TRS_DB n)) x.fetch → sub32 (s.reg (TRS_DB n)) x.fetch < 2 ^ 31 → x.voids = [] →
    s.ringTurn n = true → (c = .frameFetch q ∨ (c = .admissionRoom q ∧ x.room ≠ 0)) →
    turned.memRead (trussFor b) at' 64 = (.ok bs, s1) → s1.checkFrame b n w = (code, ts, s2) →
    (code ≠ 0 → Runs c s fun t =>
      t.truss.frames = s.truss.frames ∧ (t.q n).fetch = add32 x.fetch 1 ∧ (t.q n).nextSeq = x.nextSeq ∧
      t.reg TRS_REFUSE_CNT = min (s.reg TRS_REFUSE_CNT + 1) 0xFFFFFFFF ∧ t.flag (hdr (viewPage b) 0x10) 1 = true ∧
      SameBytesBut s t ring ∧ SamePages s t (qStat n / 4096 :: endPages) ∧ t.cores = s.cores) ∧
    (code = 0 → s2.noRoom b ts ≠ 0 → Runs c s fun t =>
      t.truss.frames = s.truss.frames ∧ t.truss.alloc = s.truss.alloc ∧ t.q n = { x with room := s2.noRoom b ts } ∧
      (x.room ≠ s2.noRoom b ts → t.fld (qStat n) 2 0 = s2.noRoom b ts) ∧
      SameBytesBut s t (fun _ => False) ∧ t.cores = s.cores) ∧
    (code = 0 → s2.noRoom b ts = 0 → s.Keeps idxs → Runs c s fun t =>
      (∃ f, t.truss.frames.getLast? = some f ∧ t.truss.frames.length = s.truss.frames.length + 1 ∧
        f.queue = n ∧ f.bay = b ∧ f.id = fid ∧ f.seq = x.nextSeq ∧ f.feed = .ring x.fetch ∧ f.st = .opened ∧
        f.durable = true ∧ f.tasks.length = ts.length ∧
        (∀ k u, f.tasks[k]? = some u → u.idx = rgn.1 + (s.truss.alloc.getD b 0 + k) % max 1 rgn.2) ∧
        SameBytesBut s t fun a => ring a ∨ s.inRecords f a) ∧
      (t.q n).fetch = add32 x.fetch 1 ∧ (t.q n).nextSeq = (x.nextSeq + 1) % 2 ^ 40 ∧
      t.truss.alloc.getD b 0 = (s.truss.alloc.getD b 0 + ts.length) % max 1 rgn.2 ∧ t.cores = s.cores) ∧
    (bitsOf (wordAt bs 0) 63 60 ≠ 0 ∨ bitsOf (wordAt bs 2) 63 40 ≠ 0 ∨ bitsOf (wordAt bs 3) 63 48 ≠ 0 ∨ wordAt bs 4 ≠ 0 ∨
      wordAt bs 5 ≠ 0 ∨ wordAt bs 6 ≠ 0 → code = 1) ∧
    (s.carOn (bitsOf (wordAt bs 2) 39 32) = false ∨ s.carBay (bitsOf (wordAt bs 2) 39 32) ≠ b →
      1 ≤ code ∧ code ≤ 4) ∧
    (bitsOf (wordAt bs 0) 47 0 % 64 ≠ 0 → 1 ≤ code ∧ code ≤ 6))

/-- An OPEN Frame whose records are durable is accepted: its word is issued, and tasks whose deadline has passed end LAPSED
(R79, R91); one whose records are not is not accepted.
Model's choices that it rests on: log 3, 33.
The conclusion is `exec … = .next t` (`Runs`) for: frameAccepted. -/
def Obligations.FramesAreAccepted : Prop :=
  ∀ (s : State) (q : QueueNo) (f : Frame),
    let n := q.val
    let late (t : Task) : Bool := s.reached f.carrier t.dlSlot t.dlSym 0
    let word := frameWord false 0 f.id s.epoch
    ((∀ g ∈ s.truss.frames, g.queue = n → g.st = .opened → g.durable = false) → Runs (.frameAccepted q) s fun u =>
      u.truss = s.truss ∧ SameRegs s u [] ∧ SameCompute s u) ∧
    ((s.truss.frames.find? fun f => f.queue == n && f.st == .opened && f.durable) = some f → s.frame? f.id = some f →
    (∀ t ∈ f.tasks, t.st = .admitted) →
    (s.Keeps f.records → Runs (.frameAccepted q) s fun u =>
      (∃ g, u.frame? f.id = some g ∧ g.st ≠ .opened ∧ g.tasks.length = f.tasks.length) ∧
      (∀ k t, f.tasks[k]? = some t → late t = true → u.taskOf f.id k = some { t with st := .done, status := 1, detail := 0x10 }) ∧
      u.reg TRS_ACCEPT_CNT = min (s.reg TRS_ACCEPT_CNT + 1) 0xFFFFFFFF ∧ u.cores = s.cores) ∧
    (∀ ix, f.feed = .ring ix → f.tasks.any late = false →
      (s.memWrite (trussFor (s.qBay n)) (s.ringBase n + 64 * (ix % s.ringSize n) + 56) (toBytes 8 word)).1 = true →
      Runs (.frameAccepted q) s fun u =>
        (dramBase ≤ s.ringBase n → s.ringBase n + 64 * (ix % s.ringSize n) < hostBase →
          u.bytes (s.ringBase n + 64 * (ix % s.ringSize n) + 56) 8 = toBytes 8 word) ∧
        SameBytesBut s u (inSpan (s.ringBase n + 64 * (ix % s.ringSize n) + 56) 8)) ∧
    (∀ e, (∀ ix, f.feed ≠ .ring ix) → e ∈ s.truss.onChip → e.src = f.feed → e.taken = true → e.word = none →
      Runs (.frameAccepted q) s fun u => { e with word := some (BitVec.ofNat 64 word) } ∈ u.truss.onChip))

/-- Tasks end at their deadline, at deadline plus grace, at their closure, at their consumer's fault and at a cancel, or
rerun, as R84 lists (R84, R91, R99, R103).
Model's choices that it rests on: log 4, 30, 31, 39, 127.
The conclusion is `exec … = .next t` (`Runs`) for: taskDeadline, taskGraceExpiry, closureDurable, consumerFault, cancel,
cancelAll. -/
def Obligations.TasksEndAsListed : Prop :=
  ∀ (s : State) (r : Requester) (rec : RecNo) (q : QueueNo) (seq v : BitVec 32) (c : Consumer) (f : Frame) (i : Nat) (t : Task)
    (p : PageInfo),
    let idx := rec.toNat
    let ends (status detail : Nat) (u : State) : Prop :=
      u.taskOf f.id i = some { t with st := .done, status := status, detail := detail }
    let lapse (u : Task) : Task := if ended u then u else { u with st := .done, status := 5, detail := 0x30 }
    let lapsing := s.reached f.carrier t.dlSlot t.dlSym 0
    let limit := max 1 (s.fld TRS_CTL 3 0)
    (s.Keeps f.records → s.Live idx f i t → f.st ≠ .opened → t.st = .admitted ∨ t.st = .ready → Runs (.taskDeadline rec) s fun u =>
      ends 1 0x10 u ∧ s.ridge.ticks ≤ u.ridge.ticks ∧ TaskFrame s u f) ∧
    (s.Live idx f i t → t.st ≠ .admitted ∧ t.st ≠ .ready → Runs (.taskDeadline rec) s fun u =>
      u.truss = s.truss ∧ u.ridge = s.ridge ∧ SameRegs s u [] ∧ SameCompute s u) ∧
    (s.Keeps f.records → s.Live idx f i t → t.st = .running → consumerExists t.consumer = true → Runs (.taskGraceExpiry rec) s fun u =>
      ends 1 0x11 u ∧ tget? u.truss.holding t.consumer = none ∧
      (t.consumer < 72 → (u.core t.consumer).abandonPending = some .grace) ∧ TaskFrame s u f) ∧
    (s.Live idx f i t → t.st ≠ .running → Runs (.taskGraceExpiry rec) s fun u =>
      u.truss = s.truss ∧ u.ridge = s.ridge ∧ SameRegs s u [] ∧ SameCompute s u) ∧
    (s.Keeps f.records → s.Live idx f i t → t.st = .staged → Runs (.closureDurable rec) s fun u => ends 0 0 u ∧ TaskFrame s u f) ∧
    (s.Live idx f i t → t.st ≠ .staged → Runs (.closureDurable rec) s fun u =>
      u.truss = s.truss ∧ SameRegs s u [] ∧ SameCompute s u) ∧
    (s.Live idx f i t → t.st = .running → t.consumer = consumerCode c → tget? s.truss.holding (consumerCode c) = some idx →
      (lapsing = false → t.attempt < limit → Runs (.consumerFault c) s fun u =>
        u.taskOf f.id i = some { t with st := .ready, attempt := t.attempt + 1 } ∧ tget? u.truss.holding (consumerCode c) = none ∧
        u.reg TRS_RERUN_CNT = min (s.reg TRS_RERUN_CNT + 1) 0xFFFFFFFF ∧ TaskFrame s u f ∧
        (128 ≤ consumerCode c → SameRegs s u [TRS_RERUN_CNT] ∧ SameMemory s u)) ∧
      (s.Keeps f.records → lapsing = false → limit ≤ t.attempt → Runs (.consumerFault c) s fun u => ends 2 1 u ∧ TaskFrame s u f) ∧
      (s.Keeps f.records → lapsing = true → Runs (.consumerFault c) s fun u => ends 1 0x10 u ∧ TaskFrame s u f)) ∧
    (s.Accepts r (TRS_DB_CANCEL q.val) seq.toNat p →
      (s.truss.frames.find? fun f => f.queue == q.val && f.st != .opened && f.seq % 0x100000000 == seq.toNat) = some f →
      s.frame? f.id = some f →
      (s.Keeps f.records → f.st = .sealed ∨ f.st = .running → Runs (.cancel r q seq) s fun u =>
        (∃ g, u.frame? f.id = some g ∧ g.tasks = f.tasks.map lapse ∧ g.st = .committed) ∧
        SameBytesBut s u (s.inRecords f)) ∧
      (f.st = .committed → Runs (.cancel r q seq) s fun u =>
        u.frame? f.id = some { f with late := true } ∧ SameMemory s u ∧ u.cores = s.cores)) ∧
    (s.Accepts r (TRS_DB_CANCEL q.val) seq.toNat p →
      (s.truss.frames.find? fun f => f.queue == q.val && f.st != .opened && f.seq % 0x100000000 == seq.toNat) = none →
      Runs (.cancel r q seq) s fun u =>
        u.reg TRS_STALE_CNT = min (s.reg TRS_STALE_CNT + 1) 0xFFFFFFFF ∧ u.truss = s.truss ∧ SameCompute s u) ∧
    (s.Accepts r (TRS_DB_CANCEL_ALL q.val) (v ||| 1).toNat p → (s.truss.frames.map Frame.id).Nodup →
      Runs (.cancelAll r q v) s fun u => ∀ f ∈ s.truss.frames, f.queue = q.val →
        (f.st = .sealed ∨ f.st = .running → ∃ g, u.frame? f.id = some g ∧ g.st = .committed ∧
          ∀ (k : Nat) (t : Task), f.tasks[k]? = some t → ∃ t', g.tasks[k]? = some t' ∧
            (t' = lapse t ∨ (u.fld LDG_STAT 1 0 = 0 ∧ ended t' = true))) ∧
        (f.st = .committed → u.frame? f.id = some { f with late := true }))

/-- The queue's next committed Frame is delivered: its record in the ring's slot (that of its intent, where it is repeated), the
producer index, and C; or it waits for room, or for a write that failed, and is repeated 10 µs later (R94).
Model's choices that it rests on: log 4, 32, 37.
The conclusion is `exec … = .next t` (`Runs`) for: completionDelivery, deliveryRetry. -/
def Obligations.CompletionsAreDelivered : Prop :=
  ∀ (s s0 : State) (q : QueueNo) (c : Instr) (f : Frame),
    let n := q.val
    let b := s.qBay n
    let r := s.fld (qDepth n) 27 24
    let prod := s.reg (TRS_CR_PROD b r)
    let base := (s.cring b r).1
    let slot := match (s.q n).intent with
      | some (m, r', k) => if m = f.seq ∧ r' = r then k else s.nextSlot b r
      | none => s.nextSlot b r
    let s1 := s0.setQ n { s0.q n with intent := some (f.seq, r, slot) }
    let rest := s.setFrames (s.truss.frames.filter fun g => g.id != f.id)
    let cb := s.wide (TRS_CR_CBLK_LO b r) / 64 * 64
    let writes :=
      (if f.statusVec ≠ 0 then [(f.statusVec, statusVector f)] else []) ++
      [(base + 32 * slot, completionRecord f s.epoch), (cb, toBytes 8 (add32 prod 1))] ++
      (match f.feed with
        | .ring _ => if s.cblk n = 0 then []
          else [(s.cblk n + 8, toBytes 8 (rest.completedIndex n)), (s.cblk n + 16, toBytes 8 s.epoch)]
        | _ => [])
    let touched (a : Nat) : Prop := ∃ w ∈ writes, inSpan w.1 w.2.length a
    (c = .completionDelivery q ∧ s0 = s) ∨
      (c = .deliveryRetry q ∧ (s.q n).delay = 6 ∧ s0 = s.untilTick (s.ridge.ticks + 10000)) →
    s.deliverable n = some f → (s.q n).voids = [] → s.qOn n = true → s.flag (TRS_CR_CTL b r) 31 = true →
    s.ringTaken n b r = false →
    (s.cringFull b r = false → (s1.putAll (trussFor b) writes).1 = none → Runs c s fun t =>
      (∀ g ∈ t.truss.frames, g.id ≠ f.id) ∧ t.reg (TRS_CR_PROD b r) = add32 prod 1 ∧ (t.q n).intent = none ∧
      (t.q n).delay = 0 ∧ (t.q n).delivered = (f.seq + 1) % 2 ^ 40 ∧ (t.q n).completed = rest.completedIndex n ∧
      (∀ k ∈ f.tasks, k.idx ∈ t.truss.closed) ∧ SameBytesBut s t touched ∧ t.cores = s.cores) ∧
    (∀ a, s.cringFull b r = false → (s1.putAll (trussFor b) writes).1 = some a → Runs c s fun t =>
      f ∈ t.truss.frames ∧ t.reg (TRS_CR_PROD b r) = prod ∧ (t.q n).delay = 6 ∧
      ((s.q n).delay ≠ 6 → t.flag (hdr (viewPage b) 0x10) 4 = true) ∧ (t.q n).intent = some (f.seq, r, slot) ∧
      (s.flag (hdr (viewPage b) 0x1C) 31 = false →
        t.fld (hdr (viewPage b) 0x1C) 15 0 = 0x0002 ∧ t.wide (hdr (viewPage b) 0x20) = a % 2 ^ 64) ∧
      SameBytesBut s t touched ∧ t.cores = s.cores) ∧
    (s.cringFull b r = true → Runs c s fun t =>
      t.truss.frames = s.truss.frames ∧ t.q n = { s.q n with delay := 3 } ∧ ((s.q n).delay ≠ 3 → t.flag (hdr (viewPage b) 0x10) 2 = true) ∧
      SameCompute s t)

/-- Drains and rejoins of a consumer, moves of queues, and the Ledger's mirrors (R101, R102, R104, R106).
Model's choices that it rests on: log 4, 34, 125, 128.
The conclusion is `exec … = .next t` (`Runs`) for: consumerDrain, consumerRejoin, drainComplete, queueMove, ledgerMirrorFail,
ledgerResync. -/
def Obligations.CapacityAndMirrorsChange : Prop :=
  ∀ (s : State) (r : Requester) (q : QueueNo) (c : BitVec 8) (force : Bool) (m : Fin 2) (b : BayNo) (p : PageInfo),
    let k := c.toNat
    let exists' := k < 72 ∨ (128 ≤ k ∧ k < 195)
    (s.Accepts r TRS_DRAIN (drainWord c true force).toNat p → exists' → (force = false ∨ tget? s.truss.holding k = none) →
      Runs (.consumerDrain r c force) s fun t =>
        t.truss.drained.contains k = true ∧ k ∉ t.truss.asking ∧ tget? t.truss.lastTag k = none ∧ t.flag TRS_DRAIN 31 = true ∧
        t.truss.holding = s.truss.holding ∧ t.truss.frames = s.truss.frames ∧ SameCompute s t) ∧
    (∀ idx f i u, s.Accepts r TRS_DRAIN (drainWord c true true).toNat p → exists' → tget? s.truss.holding k = some idx →
      s.Live idx f i u → u.st = .running → u.consumer = k → s.reached f.carrier u.dlSlot u.dlSym 0 = false →
      u.attempt < max 1 (s.fld TRS_CTL 3 0) → Runs (.consumerDrain r c true) s fun t =>
        t.taskOf f.id i = some { u with st := .ready, attempt := u.attempt + 1 } ∧ tget? t.truss.holding k = none ∧
        TaskFrame s t f) ∧
    (s.Accepts r TRS_DRAIN (drainWord c false force).toNat p → exists' → Runs (.consumerRejoin r c force) s fun t =>
      t.truss.drained.contains k = false ∧ t.truss.frames = s.truss.frames ∧ t.truss.holding = s.truss.holding ∧
      SameRegs s t [TRS_DRAIN, hdr 0x20 0x2C] ∧ SameCompute s t) ∧
    (∀ d, s.truss.draining = some d → tget? s.truss.holding d = none → Runs .drainComplete s fun t =>
      t.truss.draining = none ∧ t.flag TRS_DRAIN 31 = false ∧ t.flag (hdr 0x20 0x10) 1 = true ∧ SameCompute s t) ∧
    (∀ vec, s.truss.moves = [(qPage q.val, b.val, vec)] → s.qBay q.val ≠ b.val → Runs (.queueMove q) s fun t =>
      t.qBay q.val = b.val ∧ t.locked (qPage q.val) = false ∧ t.qOn q.val = false ∧ t.wide (qSring q.val) = 4 ∧
      t.wide (qCblk q.val) = 0 ∧ t.q q.val = { s.q q.val with fetch := 0, completed := 0, intent := none, room := 0, delay := 0 } ∧
      t.fld (hdr (qPage q.val) 0x28) 23 16 = vec % 256 ∧ t.reg (TRS_DB q.val) = 0 ∧
      t.fld (qStat q.val) 2 0 = 5 ∧ t.truss.frames.map Frame.tasks = s.truss.frames.map Frame.tasks ∧
      t.truss.frames.map Frame.seq = s.truss.frames.map Frame.seq ∧ t.truss.moves = [] ∧
      SameCompute s t) ∧
    (s.fld LDG_STAT 1 0 = 3 → Runs (.ledgerMirrorFail m) s fun t =>
      t.flag LDG_STAT m.val = false ∧ t.flag LDG_STAT (1 - m.val) = true ∧ t.flag LDG_STAT 2 = false ∧
      t.truss = s.truss ∧ SameRegs s t [LDG_STAT, LDG_RESYNC_POS] ∧ SameCompute s t) ∧
    (s.fld LDG_STAT 1 0 = 2 ^ (1 - m.val) → (s.truss.frames.map Frame.id).Nodup → Runs (.ledgerMirrorFail (1 - m)) s fun t =>
      t.fld LDG_STAT 1 0 = 0 ∧ t.flag LDG_STAT 3 = true ∧ t.truss.admits = false ∧
      (∀ f ∈ s.truss.frames, f.st = .sealed ∨ f.st = .running → ∃ g ∈ t.truss.frames, g.id = f.id ∧ g.st = .committed ∧
        ∀ u ∈ g.tasks, ended u = true) ∧
      (∀ f ∈ s.truss.frames, f.st = .opened → ∃ g ∈ t.truss.frames, g.id = f.id ∧ g.st = .opened ∧ ∀ u ∈ g.tasks, ended u = true) ∧
      (∀ f ∈ s.truss.frames, f.st = .sealed ∨ f.st = .running → ∀ u ∈ f.tasks, u.st = .running →
        tget? t.truss.holding u.consumer = none) ∧
      SamePages s t endPages ∧ SameBytesBut s t fun a => ∃ f ∈ s.truss.frames, s.inRecords f a) ∧
    (let pos := if s.flag LDG_STAT 2 then s.reg LDG_RESYNC_POS else 0
     let n := 64 * unitRecords
     let at' := s.wide LDG_M1_LO + 64 * pos
     s.fld LDG_STAT 1 0 = 1 → s.Inv → s.dramErr = [] → dramBase ≤ s.wide LDG_M0_LO →
      s.wide LDG_M0_LO + 0x40000000 ≤ dramBase + s.dramU → pos + unitRecords ≤ 0x1000000 →
      (∀ f ∈ s.truss.frames, ∀ u ∈ f.tasks, pos ≤ u.idx → u.idx < pos + unitRecords → (s.readMirror 0 u.idx).1.isSome = true) →
      Runs .ledgerResync s fun t =>
        (∀ k < n, t.byte (at' + k) = s.byte (s.wide LDG_M0_LO + 64 * pos + k)) ∧
        (∀ a, ¬(at' ≤ a ∧ a < at' + n) → t.byte a = s.byte a) ∧
        (if pos + unitRecords < 0x1000000 then
          t.fld LDG_STAT 1 0 = 1 ∧ t.flag LDG_STAT 2 = true ∧ t.reg LDG_RESYNC_POS = pos + unitRecords
        else t.fld LDG_STAT 1 0 = 3 ∧ t.flag LDG_STAT 2 = false ∧ t.reg LDG_RESYNC_POS = 0) ∧
        t.truss = s.truss ∧ SameRegs s t [LDG_STAT, LDG_RESYNC_POS] ∧ t.cores = s.cores)

/-- The rebuild after a warm reset, whose records read well: unended tasks run again at their next attempt or end; a ring's Frame
that was being admitted is accepted where its records are durable and fetched again where not, an on-chip one is dropped; and
dispatch resumes (R104).
Model's choices that it rests on: log 33, 125.
The conclusion is `exec … = .next t` (`Runs`) for: trussRebuild, st. -/
def Obligations.RebuildResumesAcceptedWork : Prop :=
  ∀ (s : State) (f : Frame),
    let idle (u : State) : Prop :=
      u.flag TRS_STAT 0 = false ∧ u.flag (hdr 0x20 0x10) 0 = true ∧ u.truss.dispatch = true ∧ u.truss.wiped = []
    let late (t : Task) : Bool := s.reached f.carrier t.dlSlot t.dlSym 0
    let wiped (t : Task) : Bool := (taskInputs t).any fun i => decide (0 < i.2) && s.truss.wiped.any (overlaps i)
    s.flag TRS_STAT 0 = true → (∀ e ∈ s.truss.queues, e.2.intent = none) →
    (s.truss.frames = [] → Runs .trussRebuild s fun u =>
      idle u ∧ u.truss.frames = [] ∧ u.truss.holding = [] ∧ u.truss.asking = [] ∧ u.truss.admits = !s.flag LDG_STAT 3 ∧
      SameCompute s u) ∧
    (s.truss.frames = [f] → f.st = .sealed ∨ f.st = .running → s.Keeps f.records → s.dramErr = [] → s.flag LDG_STAT 0 = true →
      (∀ t ∈ f.tasks, (s.readMirror 0 t.idx).1.isSome = true) → Runs .trussRebuild s fun u =>
      idle u ∧ u.truss.holding = [] ∧ u.cores = s.cores ∧
      ∀ k t, f.tasks[k]? = some t →
        (ended t = true → u.taskOf f.id k = some t) ∧
        (ended t = false → late t = true →
          u.taskOf f.id k = some { t with st := .done, attempt := t.attempt + 1, consumer := 0, status := 1, detail := 0x10 }) ∧
        (ended t = false → late t = false → wiped t = true →
          u.taskOf f.id k = some { t with st := .done, attempt := t.attempt + 1, consumer := 0, status := 2, detail := 5 }) ∧
        (ended t = false → late t = false → wiped t = false → u.flag LDG_STAT 3 = false →
          ∃ t', u.taskOf f.id k = some t' ∧ t'.attempt = t.attempt + 1 ∧
            (t'.st = .admitted ∨ t'.st = .ready ∨ (t'.st = .done ∧ t'.status = 1 ∧ t'.detail = 0x12)))) ∧
    (∀ ix, s.truss.frames = [f] → f.st = .opened → f.durable = false → f.feed = .ring ix → Runs .trussRebuild s fun u =>
      idle u ∧ u.truss.frames = [] ∧ (u.q f.queue).nextSeq = f.seq ∧ (u.q f.queue).fetch = ix ∧ u.cores = s.cores) ∧
    (∀ ix, s.truss.frames = [f] → f.st = .opened → f.durable = true → f.feed = .ring ix → Runs .trussRebuild s fun u =>
      idle u ∧ (∃ g, u.frame? f.id = some g ∧ g.st ≠ .opened ∧ g.tasks.map Task.attempt = f.tasks.map Task.attempt)) ∧
    (s.truss.frames = [f] → f.st = .opened → (∀ ix, f.feed ≠ .ring ix) → Runs .trussRebuild s fun u =>
      idle u ∧ u.truss.frames = [] ∧ (u.q f.queue).nextSeq = f.seq ∧ SameMemory s u ∧ u.cores = s.cores)

/-! ## The Rafter core: scalar instructions (05) -/

/-- Sums, shifts, logic, compares, moves and 64-bit products of g registers, under R129 (R130).
Model's choices that it rests on: log 46.
The conclusion is `exec … = .next t` (`Runs`) for: add, sub, and, or, xor, andn, shl, shr, sar, min, max, abs, mov, cmpCc,
addi, andi, shli, shri, sari, movz, movi, mul, mulh, mulhu. -/
def Obligations.ScalarResults : Prop :=
  ∀ (s : State) (c : CoreNo) (f : RForm) (i : IForm) (w : WForm) (cond : BitVec 6), s.Clear c.val →
    let k := s.core c.val
    let a := k.g.getD f.ra.toNat 0
    let b := k.g.getD f.rb.toNat 0
    let d := f.rd.toNat
    let n := b.toNat % 64
    let x := k.g.getD i.ra.toNat 0
    let sum := a.toInt + b.toInt
    let dif := a.toInt - b.toInt
    let m := (i.imm.extractLsb' 0 6).toNat
    WritesG (.add c true f) s c.val d (satRule 64 f.s sum) (satOv 64 f.s sum) ∧
    WritesG (.sub c true f) s c.val d (satRule 64 f.s dif) (satOv 64 f.s dif) ∧
    WritesG (.and c true f) s c.val d (a &&& b) false ∧
    WritesG (.or c true f) s c.val d (a ||| b) false ∧
    WritesG (.xor c true f) s c.val d (a ^^^ b) false ∧
    WritesG (.andn c true f) s c.val d (a &&& ~~~b) false ∧
    WritesG (.shl c true f) s c.val d (satRule 64 f.s (a.toInt * 2 ^ n)) (satOv 64 f.s (a.toInt * 2 ^ n)) ∧
    WritesG (.shr c true f) s c.val d (a >>> n) false ∧
    WritesG (.sar c true f) s c.val d (a.sshiftRight n) false ∧
    WritesG (.min c true f) s c.val d (if a.slt b then a else b) false ∧
    WritesG (.max c true f) s c.val d (if a.slt b then b else a) false ∧
    WritesG (.abs c true f) s c.val d (satRule 64 f.s a.toInt.natAbs) (satOv 64 f.s a.toInt.natAbs) ∧
    WritesG (.mov c true f) s c.val d a false ∧
    (cond.toNat ≤ 5 → WritesG (.cmpCc c true f cond) s c.val d
      (if (match cond.toNat with
        | 0 => a == b
        | 1 => a != b
        | 2 => a.slt b
        | 3 => a.sle b
        | 4 => a.ult b
        | _ => a.ule b) then 1 else 0) false) ∧
    WritesG (.addi c true i) s c.val i.rd.toNat (satRule 64 i.s (x.toInt + i.imm.toInt)) (satOv 64 i.s (x.toInt + i.imm.toInt)) ∧
    WritesG (.andi c true i) s c.val i.rd.toNat (x &&& i.imm.signExtend 64) false ∧
    WritesG (.shli c true i) s c.val i.rd.toNat (satRule 64 i.s (x.toInt * 2 ^ m)) (satOv 64 i.s (x.toInt * 2 ^ m)) ∧
    WritesG (.shri c true i) s c.val i.rd.toNat (x >>> m) false ∧
    WritesG (.sari c true i) s c.val i.rd.toNat (x.sshiftRight m) false ∧
    WritesG (.movz c true w) s c.val w.rd.toNat (w.imm.zeroExtend 64 <<< (16 * w.hw.toNat)) false ∧
    (∃ v : BitVec 64, laneOf 16 w.hw.toNat v = w.imm ∧
      (∀ j : Fin 4, j.val ≠ w.hw.toNat → laneOf 16 j.val v = laneOf 16 j.val (k.g.getD w.rd.toNat 0)) ∧
      WritesG (.movi c true w) s c.val w.rd.toNat v false) ∧
    WritesG (.mul c true f) s c.val d (a * b) false ∧
    WritesG (.mulh c true f) s c.val d (laneOf 64 1 (a.signExtend 128 * b.signExtend 128)) false ∧
    WritesG (.mulhu c true f) s c.val d (laneOf 64 1 (a.zeroExtend 128 * b.zeroExtend 128)) false

/-- Lanes, pairs and complex products, each lane or part under R129, rounded as R128 says (R113, R130).
Model's choices that it rests on: log 46.
The conclusion is `exec … = .next t` (`Runs`) for: addH4, subH4, addW2, subW2, mulq15H4, mulq31W2, addQ, subQ, clrp, cmac,
cmul, narrow. -/
def Obligations.ScalarLanesAndPairs : Prop :=
  ∀ (s : State) (c : CoreNo) (f : RForm), s.Clear c.val →
    let k := s.core c.val
    let g (r : Nat) : BitVec 64 := k.g.getD r 0
    let a := g f.ra.toNat
    let b := g f.rb.toNat
    let d := f.rd.toNat
    let lanes (i : Instr) (w : Nat) (op : Int → Int → Int) : Prop :=
      ∃ v : BitVec 64, (∀ j < 64 / w, laneOf w j v = satRule w f.s (op (laneOf w j a).toInt (laneOf w j b).toInt)) ∧
        WritesG i s c.val d v ((List.range (64 / w)).any fun j => satOv w f.s (op (laneOf w j a).toInt (laneOf w j b).toInt))
    let wide (r : BitVec 5) : BitVec 128 := g (r.toNat + 1) ++ g r.toNat
    let quad (x : Int) (i : Instr) : Prop :=
      WritesPair i s c.val d (laneOf 64 0 (satRule 128 f.s x)) (laneOf 64 1 (satRule 128 f.s x)) (satOv 128 f.s x)
    let ar := (laneOf 16 0 a).toInt
    let ai := (laneOf 16 1 a).toInt
    let br := (laneOf 16 0 b).toInt
    let bi := if f.cj then -(laneOf 16 1 b).toInt else (laneOf 16 1 b).toInt
    let re (acc : BitVec 64) : Int := acc.toInt + ar * br - ai * bi
    let im (acc : BitVec 64) : Int := acc.toInt + ar * bi + ai * br
    let cplx (i : Instr) (x y : BitVec 64) : Prop :=
      WritesPair i s c.val d (satRule 64 f.s (re x)) (satRule 64 f.s (im y)) (satOv 64 f.s (re x) || satOv 64 f.s (im y))
    let narrow (r : Nat) : Int := rnd (g (f.ra.toNat + r)).toInt f.rb.toNat
    lanes (.addH4 c true f) 16 (· + ·) ∧ lanes (.subH4 c true f) 16 (· - ·) ∧
    lanes (.addW2 c true f) 32 (· + ·) ∧ lanes (.subW2 c true f) 32 (· - ·) ∧
    lanes (.mulq15H4 c true f) 16 (fun x y => rnd (x * y) 15) ∧ lanes (.mulq31W2 c true f) 32 (fun x y => rnd (x * y) 31) ∧
    (d % 2 = 0 → f.ra.toNat % 2 = 0 → f.rb.toNat % 2 = 0 →
      quad ((wide f.ra).toInt + (wide f.rb).toInt) (.addQ c true f) ∧ quad ((wide f.ra).toInt - (wide f.rb).toInt) (.subQ c true f)) ∧
    (d % 2 = 0 → WritesPair (.clrp c true f) s c.val d 0 0 false ∧ cplx (.cmac c true f) (g d) (g (d + 1)) ∧ cplx (.cmul c true f) 0 0) ∧
    (f.ra.toNat % 2 = 0 → WritesG (.narrow c true f) s c.val d
      ((0 : BitVec 32) ++ satRule 16 f.s (narrow 1) ++ satRule 16 f.s (narrow 0)) (satOv 16 f.s (narrow 0) || satOv 16 f.s (narrow 1)))

/-- Convergent rounding (R128): the result is nearest to the exact quotient, and even where two are as near. -/
def Obligations.RoundingIsConvergent : Prop :=
  ∀ (x : Int) (n : Nat),
    let e := 2 * (rnd x n * 2 ^ n - x)
    (-(2 ^ n : Int) ≤ e ∧ e ≤ 2 ^ n) ∧ (n ≠ 0 → (e = 2 ^ n ∨ e = -(2 ^ n : Int)) → rnd x n % 2 = 0) ∧ (n = 0 → rnd x n = x)

/-- Branches, jumps and loops go where R119, R120 and R130 say; what a misprediction squashes may keep a slow Dowel busy (R163).
Model's choices that it rests on: log 52, 53.
The conclusion is `exec … = .next t` (`Runs`) for: bCc, bl, jr, jrl, loop, nop. -/
def Obligations.BranchesAndLoopsGoOn : Prop :=
  ∀ (s : State) (c : CoreNo) (f : BForm) (r : RForm) (l : LForm), s.Clear c.val →
    let k := s.core c.val
    let a := k.g.getD f.ra.toNat 0
    let to' (t : State) (p : BitVec 48) : Prop := (t.core c.val).pc = p
    let same (t : State) : Prop :=
      let u := t.core c.val
      Retires s t c.val { k with dwlSquash := u.dwlSquash, divUnit := u.divUnit, hivUnit := u.hivUnit } ∧
        (u.divUnit ++ u.hivUnit).all DowelJob.squashed = true
    let linked (t : State) : Prop := Retires s t c.val { k with a := k.a.setIfInBounds 15 (k.pc + 4) }
    let rel := k.pc + 4 * f.off.signExtend 48
    let taken := match f.cond.toNat with
      | 0 => true
      | 1 => a == 0
      | 2 => a != 0
      | 3 => a.slt 0
      | 4 => (0 : BitVec 64).sle a
      | 5 => (0 : BitVec 64).slt a
      | _ => a.sle 0
    let lv := if l.level then 1 else 0
    let st : BitVec 17 := k.pc.setWidth 17 + 4 * l.start.zeroExtend 17
    let en : BitVec 17 := k.pc.setWidth 17 + 4 * l.stop.zeroExtend 17
    let n : BitVec 16 := if l.creg then (k.g.getD (l.cnt.toNat % 32) 0).setWidth 16 else l.cnt.zeroExtend 16 + 1
    let os := k.ls.getD (1 - lv) 0
    let oe := k.le.getD (1 - lv) 0
    let free := k.lc.getD (1 - lv) 0 = 0 ∨
      (if lv = 0 then os.toNat ≤ st.toNat ∧ en.toNat < oe.toNat else st.toNat ≤ os.toNat ∧ oe.toNat < en.toNat)
    (f.cond.toNat ≤ 6 → taken = true → Runs (.bCc c true f) s fun t => same t ∧ to' t rel) ∧
    (f.cond.toNat ≤ 6 → taken = false → Runs (.bCc c true f) s fun t => same t ∧ to' t (s.nextPc c.val)) ∧
    (Runs (.bl c true f) s fun t => linked t ∧ to' t rel) ∧
    (Runs (.jr c true r) s fun t => same t ∧ to' t (k.a.getD (r.ra.toNat % 16) 0)) ∧
    (Runs (.jrl c true r) s fun t => linked t ∧ to' t (k.a.getD (r.ra.toNat % 16) 0)) ∧
    (free → n ≠ 0 → k.le.getD (1 - lv) 0 ≠ k.pc.setWidth 17 → Runs (.loop c true l) s fun t =>
      Retires s t c.val { k with ls := k.ls.setIfInBounds lv st, le := k.le.setIfInBounds lv en } ∧
      (t.core c.val).lc.getD lv 0 = n ∧ (t.core c.val).lc.getD (1 - lv) 0 = k.lc.getD (1 - lv) 0 ∧ to' t (k.pc + 4)) ∧
    (free → n = 0 → Runs (.loop c true l) s fun t =>
      Retires s t c.val { k with ls := k.ls.setIfInBounds lv st, le := k.le.setIfInBounds lv en } ∧
      (t.core c.val).lc.getD lv 0 = 0 ∧ to' t (BitVec.ofNat 48 (en.toNat + 4))) ∧
    (∀ x : Fin 2, k.lc.getD x.val 0 ≠ 0 → k.le.getD x.val 0 = k.pc.setWidth 17 →
      (x.val = 1 → k.lc.getD 0 0 = 0 ∨ k.le.getD 0 0 ≠ k.pc.setWidth 17) → Runs (.nop c true 0) s fun t =>
        same t ∧ (t.core c.val).lc.getD x.val 0 = k.lc.getD x.val 0 - 1 ∧
        (k.lc.getD x.val 0 ≠ 1 → to' t ((k.ls.getD x.val 0).zeroExtend 48)))

/-- Control registers are read and written by level, with the rule of each (R122, R140, R141), and the rest of the system
instructions do what R123, R130, R137 and R138 say.
Model's choices that it rests on: log 51, 54, 55.
The conclusion is `exec … = .next t` (`Runs`) for: mfc, mtc, eret, wait, isync, fence, nop, syscall, kcall, bkpt. -/
def Obligations.SystemInstructionsAct : Prop :=
  ∀ (s : State) (c : CoreNo) (i : IForm) (r : RForm), s.Clear c.val →
    let k := s.core c.val
    let n := i.imm.toNat
    let v := k.g.getD i.ra.toNat 0
    let to' (t : State) (p : BitVec 48) : Prop := (t.core c.val).pc = p
    (k.csrCauses n false = [] → WritesG (.mfc c true i) s c.val i.rd.toNat (BitVec.ofNat 64 (k.csr n)) false) ∧
    (n = 0x000 → Goes (.mtc c true i) s c.val { k with
      ov := v.getLsbD 0, ieS := if k.level = 0 then k.ieS else v.getLsbD 4, ieK := if k.level = 2 then v.getLsbD 5 else k.ieK }) ∧
    (n = 0x001 → Goes (.mtc c true i) s c.val { k with circ := v.setWidth 8 }) ∧
    (n = 0x009 → 1 ≤ k.level → v.getLsbD 63 = false → Goes (.mtc c true i) s c.val { k with storeErr := k.storeErr &&& 0xFFFFFFFFFFFF }) ∧
    (n = 0x011 → 1 ≤ k.level → Goes (.mtc c true i) s c.val { k with epcS := v }) ∧
    (n = 0x010 → 1 ≤ k.level → Goes (.mtc c true i) s c.val { k with evecS := v &&& 0x1F800 }) ∧
    (n = 0x018 → k.level = 2 → Goes (.mtc c true i) s c.val { k with evecK := v &&& 0x1F800 }) ∧
    (n = 0x01C → k.level = 2 → Goes (.mtc c true i) s c.val { k with excDeleg := v &&& 0x12FFE }) ∧
    (n = 0x030 → 1 ≤ k.level → Goes (.mtc c true i) s c.val { k with ovl := v &&& 0x1F1F }) ∧
    (∀ x : Fin 8, n = 0x040 + x.val → Goes (.mtc c true i) s c.val { k with cb := k.cb.setIfInBounds x.val (v.setWidth 48) }) ∧
    (∀ x : Fin 8, n = 0x048 + x.val → Goes (.mtc c true i) s c.val { k with cl := k.cl.setIfInBounds x.val (v.setWidth 20) }) ∧
    (n = 0x0F0 → 1 ≤ k.level → Goes (.mtc c true i) s c.val { k with scratchS := v }) ∧
    (n = 0x007 → 1 ≤ k.level → Runs (.mtc c true i) s fun t =>
      (t.core c.val).intPend.getLsbD 0 = k.intPend.getLsbD 0 ∧ (t.core c.val).intPend.getLsbD 3 = v.getLsbD 3 ∧
      (t.core c.val).intPend.getLsbD 2 = (k.intPend.getLsbD 2 && !v.getLsbD 2) ∧
      (t.core c.val).intPend.getLsbD 4 = (k.intPend.getLsbD 4 && !(v.getLsbD 4 && k.level == 2)) ∧ (t.core c.val).still = k.still) ∧
    (n = 0x002 → 1 ≤ bitsOf v.toNat 8 0 → bitsOf v.toNat 8 0 ≤ 256 → k.holdLeft = 0 →
      k.holdEnded = none → Runs (.mtc c true i) s fun t =>
        (t.core c.val).holdLeft = bitsOf v.toNat 8 0 ∧ (t.core c.val).holdDeferred = k.holdDeferred) ∧
    (n = 0x002 → 1 ≤ bitsOf v.toNat 8 0 → bitsOf v.toNat 8 0 ≤ 256 → 16 ≤ k.holdLeft → k.board = [] →
      Runs (.mtc c true i) s fun t => (t.core c.val).holdDeferred = some (bitsOf v.toNat 8 0)) ∧
    (n = 0x002 → (bitsOf v.toNat 8 0 = 0 ∨ 256 < bitsOf v.toNat 8 0) → Goes (.mtc c true i) s c.val k) ∧
    (1 ≤ k.level → Runs (.eret c true r) s fun t =>
      (t.core c.val).pc = ((if k.level = 2 then k.epcK else k.epcS).setWidth 48) ∧
      (t.core c.val).level = min k.level (bitsOf (if k.level = 2 then k.ecauseK.toNat else k.ecauseS.toNat) 25 24) ∧
      (t.core c.val).g = k.g ∧ (t.core c.val).a = k.a ∧ (t.core c.val).v = k.v ∧ (t.core c.val).ieK = k.ieK ∧
      (t.core c.val).ieS = k.ieS ∧ SameMemory s t) ∧
    (k.intPend &&& k.intEn = 0 → k.timer ≤ k.cycle → Runs (.wait c true r) s fun t =>
      (t.core c.val).sleep = .wait ∧ to' t (s.nextPc c.val) ∧ (t.core c.val).g = k.g ∧ SameMemory s t) ∧
    (k.intPend &&& k.intEn ≠ 0 → Goes (.wait c true r) s c.val k) ∧
    (Runs (.isync c true r) s fun t => Retires s t c.val k ∧ (t.core c.val).predictor = [] ∧ (t.core c.val).retStack = []) ∧
    Goes (.fence c true r) s c.val k ∧ Goes (.nop c true 0) s c.val k ∧
    (Runs (.syscall c true i) s fun t =>
      Enters s t c.val (if k.level = 0 then 1 else 2) 0x0E false (s.nextPc c.val) ∧ (t.core c.val).detail = n % 256 ∧
      (t.core c.val).instret = k.instret + 1) ∧
    (Runs (.kcall c true i) s fun t =>
      Enters s t c.val 2 0x0F false (s.nextPc c.val) ∧ (t.core c.val).detail = n % 256 ∧ (t.core c.val).instret = k.instret + 1) ∧
    (Runs (.bkpt c true i) s fun t =>
      Enters s t c.val (if k.level = 2 ∨ k.excDeleg.getLsbD 0x0D = false then 2 else 1) 0x0D false k.pc ∧
      (t.core c.val).detail = n % 256 ∧ (t.core c.val).instret = k.instret)

/-- Loads, stores and address arithmetic of the M class: the bytes at the address of R117, wrapped as R124 and R125 say, and
the address register after it (R130).
Model's choices that it rests on: log 44, 45.
The conclusion is `exec … = .next t` (`Runs`) for: ldu, ld, lda, st, sta, adda, mova, movg. -/
def Obligations.ScalarMemoryMovesBytes : Prop :=
  ∀ (s : State) (c : CoreNo) (f : MForm), s.Clear c.val → f.mode.toNat ≤ 4 → f.size.toNat ≤ 4 →
    let k := s.core c.val
    let n := 2 ^ f.size.toNat
    let x := k.mAddr f
    let ch := x.chunks 0 n
    let rt := f.rt.toNat
    let an := f.an.toNat
    let post : Core := match x.post with
      | some p => { k with a := k.a.setIfInBounds an (BitVec.ofNat 48 p) }
      | none => k
    let base := k.a.getD an 0
    let u : BitVec 48 := f.imm8.zeroExtend 48 * BitVec.ofNat 48 n
    let v : BitVec 48 := f.imm8.signExtend 48 * BitVec.ofNat 48 n
    let idx : BitVec 48 := (k.g.getD (f.imm8.toNat / 8) 0).setWidth 48
    let linear := ¬(k.circular an = true)
    let stored (bs : List Byte) (t : State) : Prop :=
      RetiresIn s t c.val post (fun a => ∃ p ∈ ch, ∃ q, s.reaches c.val p.1 p.2 = some q ∧ inSpan q p.2 a) (storePages c.val) ∧
      (t.core c.val).pc = s.nextPc c.val ∧ t.bytesAt c.val ch = some bs
    let clean := k.agCauses x n ch = [] ∧ s.NoErrors
    (linear → x.wrapIn = none ∧ x.circ = none ∧ ch = [(x.at_ % 2 ^ 48, n)] ∧
      (f.mode.toNat = 0 → x.at_ = (base + u).toNat ∧ x.post = none) ∧
      (f.mode.toNat = 1 → x.at_ = (base + idx).toNat ∧ x.post = none) ∧
      (f.mode.toNat = 2 → x.at_ = base.toNat ∧ x.post = some (base + v).toNat) ∧
      (f.mode.toNat = 3 → x.at_ = base.toNat ∧ x.post = some (base + idx).toNat) ∧
      (f.mode.toNat = 4 → x.at_ = (base + v).toNat ∧ x.post = some (base + v).toNat)) ∧
    (∀ bs, clean → s.bytesAt c.val ch = some bs → f.size.toNat ≤ 3 →
      Goes (.ldu c true f) s c.val { post with g := post.g.setIfInBounds rt (BitVec.ofNat 64 (ofBytes bs)) } ∧
      Goes (.ld c true f) s c.val
        { post with
          g := post.g.setIfInBounds rt ((BitVec.ofNat 64 (ofBytes bs) <<< (64 - 8 * n)).sshiftRight (64 - 8 * n)) }) ∧
    (∀ bs, clean → s.bytesAt c.val ch = some bs → f.size.toNat = 4 → rt % 2 = 0 →
      ∀ i, (i = .ld c true f ∨ i = .ldu c true f) → Goes i s c.val
        { post with
          g := (post.g.setIfInBounds rt (BitVec.ofNat 64 (ofBytes (bs.take 8)))).setIfInBounds (rt + 1) (BitVec.ofNat 64 (ofBytes (bs.drop 8))) }) ∧
    (∀ bs, clean → s.bytesAt c.val ch = some bs → f.size.toNat = 3 → rt % 16 ≠ an ∨ x.post = none → Goes (.lda c true f) s c.val
      { post with a := post.a.setIfInBounds (rt % 16) (BitVec.ofNat 48 (ofBytes bs)) }) ∧
    (∀ bs, clean → s.bytesAt c.val ch = some bs → f.size.toNat = 3 → rt % 16 = an → x.post ≠ none → Runs (.lda c true f) s fun t =>
      (∀ r, r ≠ an → (t.core c.val).a.getD r 0 = k.a.getD r 0) ∧ (t.core c.val).g = k.g ∧ (t.core c.val).instret = k.instret + 1 ∧
      SameBytesBut s t (fun _ => False)) ∧
    (clean → (s.bytesAt c.val ch).isSome = true →
      (f.size.toNat ≤ 3 → Runs (.st c true f) s (stored (toBytes n (k.g.getD rt 0).toNat))) ∧
      (f.size.toNat = 4 → rt % 2 = 0 → Runs (.st c true f) s
        (stored (toBytes 16 ((k.g.getD (rt + 1) 0) ++ (k.g.getD rt 0)).toNat))) ∧
      (f.size.toNat = 3 → Runs (.sta c true f) s (stored (toBytes 8 (k.a.getD (rt % 16) 0).toNat)))) ∧
    (linear → Goes (.adda c true f) s c.val { k with a := k.a.setIfInBounds an (base + v) }) ∧
    (∀ cb cl : Nat, an < 8 → k.circ.getLsbD an = true → cb = (k.cb.getD an 0).toNat → cl = (k.cl.getD an 0).toNat →
      16 ≤ cl → cl ≤ 524288 → cb ≤ base.toNat → base.toNat < cb + cl → cb + cl ≤ 2 ^ 48 → v.toInt ≤ cl → -(cl : Int) ≤ v.toInt →
      ∃ p : Nat, cb ≤ p ∧ p < cb + cl ∧
        ((p : Int) = base.toNat + v.toInt ∨ (p : Int) = base.toNat + v.toInt - cl ∨ (p : Int) = base.toNat + v.toInt + cl) ∧
        Goes (.adda c true f) s c.val { k with a := k.a.setIfInBounds an (BitVec.ofNat 48 p) }) ∧
    Goes (.mova c true f) s c.val { k with a := k.a.setIfInBounds an ((k.g.getD rt 0).setWidth 48) } ∧
    Goes (.movg c true f) s c.val { k with g := k.g.setIfInBounds rt (base.zeroExtend 64) }

/-- TAKE, TEND and ENQ, and what completes them: the hand-off with its registers, the report, the acknowledgement, and the
Frame's word (R89, R97, R131, R133, R134, R143).
Model's choices that it rests on: log 43, 49, 50, 59.
The conclusion is `exec … = .next t` (`Runs`) for: enq, take, wait, takeHandoff, tend, tendAck, taskFinishReport, enqRetire. -/
def Obligations.CoresTakeEndAndSubmitTasks : Prop :=
  ∀ (s : State) (c : CoreNo) (r : RForm) (f : Frame) (i : Nat) (t : Task) (bs : List Byte) (gd : Nat),
    let n := c.val
    let k := s.core n
    let d := r.rd.toNat
    let given := s.mayAsk n = true ∧ s.askTurn n = true ∧ s.select n = some (f, i, t) ∧ s.frame? f.id = some f ∧
      (s.memRead (trussFor f.bay) t.job 16).1 = .ok bs ∧ bitsOf (wordAt bs 0) 63 48 = 0
    let taken (gd : Nat) (u : State) : Prop :=
      u.taskOf f.id i = some { t with st := .running, consumer := n } ∧ tget? u.truss.holding n = some t.idx ∧
      tget? u.truss.lastTag n = some t.aff ∧ u.reg TRS_DISPATCH_CNT = min (s.reg TRS_DISPATCH_CNT + 1) 0xFFFFFFFF ∧
      (u.core n).taskValid = true ∧ (u.core n).taskIndex = BitVec.ofNat 24 t.idx ∧ (u.core n).taskAttempt = BitVec.ofNat 4 t.attempt ∧
      (u.core n).storeErr.getLsbD 61 = false ∧ (u.core n).sleep = .no ∧ u.coreSt n ≠ 3 ∧
      bitsOf ((u.core n).G gd) 23 0 = t.idx % 2 ^ 24 ∧ bitsOf ((u.core n).G gd) 27 24 = t.attempt % 16 ∧
      (u.core n).G (gd + 1) = t.job % 2 ^ 64 ∧ (u.core n).G (gd + 2) = t.buf % 2 ^ 64 ∧
      bitsOf ((u.core n).G (gd + 3)) 31 0 = t.dlSlot % 2 ^ 32 ∧ (∀ x, x < gd ∨ gd + 4 ≤ x → (u.core n).g.getD x 0 = k.g.getD x 0) ∧
      (u.core n).a = k.a ∧ (u.core n).instret = k.instret + 1 ∧ SameBytesBut s u (fun _ => False)
    let report (st : Nat) : Report :=
      if k.storeErr.getLsbD 61 then .failed else match st with | 0 => .finished | 1 => .failed | 2 => .inputError | _ => .descriptor
    let ended (rep : Report) (u : State) : Prop := u.taskOf f.id i = some (match rep with
      | .finished => { t with st := .staged }
      | .failed => { t with st := .done, status := 2, detail := 4 }
      | .inputError => { t with st := .done, status := 2, detail := 2 }
      | .descriptor => { t with st := .done, status := 2, detail := 3 })
    let runs := tget? s.truss.holding n = some t.idx ∧ s.Live t.idx f i t ∧ t.st = .running ∧
      s.reached f.carrier t.dlSlot t.dlSym (s.qGrace t.queue) = false
    let at' := (k.g.getD r.ra.toNat 0).toNat % 2 ^ 48
    let offered (ws : List Nat) (u : State) : Prop :=
      (u.core n).sleep = .enq d ∧ (u.core n).g = k.g ∧ (u.core n).pc = k.pc ∧ (u.core n).instret = k.instret ∧
      u.truss.onChip = s.truss.onChip ++ [⟨.core c, (k.g.getD r.rb.toNat 0).toNat % 1024, s.coreBay n, ws, false, none⟩]
    (s.Clear n → 1 ≤ k.level → k.taskValid = false → d % 4 = 0 → s.flag (RFT_RUN n) 0 = true →
      (given → t.idx < 2 ^ 24 → t.attempt < 16 → t.aff < 2 ^ 16 → f.carrier < 256 →
        Runs (.take c true r) s (taken d)) ∧
      (s.mayAsk n = true → s.select n = none ∨ s.askTurn n = false → Runs (.take c true r) s fun u =>
        (u.core n).sleep = .take d ∧ u.coreSt n = 3 ∧ n ∈ u.truss.asking ∧ (u.core n).g = k.g ∧ (u.core n).pc = k.pc ∧
        (u.core n).instret = k.instret ∧ u.truss.frames = s.truss.frames ∧ SameMemory s u)) ∧
    (s.Clear n → 1 ≤ k.level → k.taskValid = false → d % 4 = 0 → s.flag (RFT_RUN n) 0 = false → Runs (.take c true r) s fun u =>
      (u.core n).level = 2 ∧ (u.core n).sleep = .wait ∧ u.coreSt n = 1 ∧ (u.core n).g = k.g ∧ u.truss = s.truss ∧ SameMemory s u) ∧
    (k.sleep = .take gd → gd % 4 = 0 → gd < 32 → k.held = [] → s.coreSt n = 3 → s.islandUp (8 + n / 9) = true → given →
      t.idx < 2 ^ 24 → t.attempt < 16 → t.aff < 2 ^ 16 → f.carrier < 256 → s.flag (RFT_RUN n) 1 = false →
      Runs (.takeHandoff c) s (taken gd)) ∧
    (s.Clear n → k.taskValid = true → k.taskAbandoned = false → r.rb.toNat ≤ 3 → Runs (.tend c true r) s fun u =>
      (u.core n).sleep = .tend d r.rb.toNat ∧ (u.core n).pc = k.pc ∧ (u.core n).g = k.g ∧ u.truss = s.truss ∧ SameMemory s u) ∧
    (s.Clear n → k.taskAbandoned = true → r.rb.toNat ≤ 3 → Goes (.tend c true r) s n { k with
      g := k.g.setIfInBounds d 1, taskAbandoned := false, taskValid := false, abandonPending := none }) ∧
    (∀ st, k.sleep = .tend gd st → k.held = [] → gd < 32 → runs → k.taskAbandoned = false → s.flag (RFT_RUN n) 1 = false →
      (s.Keeps f.records → Runs (.tendAck c) s fun u =>
        ended (report st) u ∧ tget? u.truss.holding n = none ∧ (u.core n).taskValid = false ∧ (u.core n).sleep = .no ∧
        (u.core n).g = k.g.setIfInBounds gd (if k.storeErr.getLsbD 61 then 2 else 0) ∧ (u.core n).a = k.a ∧
        (u.core n).instret = k.instret + 1) ∧
      (s.Keeps f.records → Runs (.taskFinishReport (.core c) (report st)) s fun u =>
        ended (report st) u ∧ tget? u.truss.holding n = none ∧ u.core n = k)) ∧
    (∀ st, k.sleep = .tend gd st → k.held = [] → gd < 32 → tget? s.truss.holding n = none → k.taskAbandoned = true →
      s.flag (RFT_RUN n) 1 = false → Runs (.tendAck c) s fun u =>
        (u.core n).g = k.g.setIfInBounds gd 1 ∧ (u.core n).taskAbandoned = false ∧ (u.core n).sleep = .no ∧ SameMemory s u) ∧
    (s.Clear n → (at' % 64 ≠ 0 ∨ inWindow at' = true ∨ mayUse k.level at' 64 = false) → Runs (.enq c true r) s (offered [])) ∧
    (s.Clear n → at' % 64 = 0 → inWindow at' = false → mayUse k.level at' 64 = true →
      (s.memRead (s.coreAgent n) at' 64).1 = .ok bs → Runs (.enq c true r) s (offered ((List.range 8).map (wordAt bs)))) ∧
    (∀ e w, k.sleep = .enq gd → k.held = [] → gd < 32 → s.coreOffer n = some e → e.word = some w → s.flag (RFT_RUN n) 1 = false →
      Runs (.enqRetire c) s fun u =>
        (u.core n).g = k.g.setIfInBounds gd w ∧ (u.core n).sleep = .no ∧ u.coreOffer n = none ∧ (u.core n).a = k.a ∧
        (u.core n).instret = k.instret + 1 ∧ SameMemory s u)

/-- A task taken away, the exception that follows, interrupts, store errors, the timer, hold windows, external accesses, a
core's start, and writes of its mailbox and its run and halt bits (R121, R122, R135, R136, R137, R140, R142, R143).
Model's choices that it rests on: log 56, 57, 58, 59.
The conclusion is `exec … = .next t` (`Runs`) for: cancel, take, wait, taskAbandon, abandonException, interruptTaken,
storeError, coreTimerMatch, memHoldEnd, memHoldDeferredStart, externalCoreAccess, coreStart, mailboxWrite, coreRun, coreHalt. -/
def Obligations.CoreEventsTakeEffect : Prop :=
  ∀ (s : State) (c : CoreNo) (why : AbandonCause) (addr : BitVec 48) (r : Requester) (off : BitVec 19) (size : AccessSize)
    (v : BitVec 64) (waited : BitVec 16) (f : Frame) (i : Nat) (t : Task) (bs : List Byte) (pi : PageInfo) (w : BitVec 32),
    let n := c.val
    let k := s.core n
    let detail := match why with | .grace => 1 | .cancel => 2 | .drain => 3
    let level (code : Nat) : Nat := if k.level = 2 ∨ k.excDeleg.getLsbD code = false then 2 else 1
    let open' := match k.sleep with | .no => True | .take _ => True | .wait => True | _ => False
    let idle := (s.coreSt n = 1 ∨ s.coreSt n = 2 ∨ s.coreSt n = 3) ∧ k.pkt = [] ∧ s.islandUp (8 + n / 9) = true ∧ open'
    let e := k.storeErr
    let at' := dataBase + 0x80000 * n + off.toNat
    let m := sizeBytes size
    let reached := isHost r = false ∧ (s.accessRefused (s.agent r) (s.place r at' m) m at').isSome = false ∧ s.NoErrors ∧
      off.toNat + m ≤ 0x80000
    let slot (u : State) : Prop :=
      (u.core n).holdLeft = 0 ∧ u.reg (RFT_HOLD_CNT n) = min (s.reg (RFT_HOLD_CNT n) + k.holdLeft) 0xFFFFFFFF ∧
      u.reg (RFT_STEAL_CNT n) =
        (if 16 ≤ waited.toNat + k.holdLeft then min (s.reg (RFT_STEAL_CNT n) + 1) 0xFFFFFFFF else s.reg (RFT_STEAL_CNT n)) ∧
      (u.core n).g = k.g ∧ (u.core n).pc = k.pc
    (s.Live t.idx f i t → t.st = .running → f.st ≠ .committed → t.consumer = n → tget? s.truss.holding n = some t.idx →
      (s.Keeps f.records → why = .grace → Runs (.taskAbandon c why) s fun u =>
        u.taskOf f.id i = some { t with st := .done, status := 1, detail := 0x11 }) ∧
      (s.Keeps f.records → why = .cancel → Runs (.taskAbandon c why) s fun u =>
        u.taskOf f.id i = some { t with st := .done, status := 5, detail := 0x30 }) ∧
      (why = .drain → s.reached f.carrier t.dlSlot t.dlSym 0 = false → t.attempt < max 1 (s.fld TRS_CTL 3 0) →
        Runs (.taskAbandon c why) s fun u => u.taskOf f.id i = some { t with st := .ready, attempt := t.attempt + 1 }) ∧
      Runs (.taskAbandon c why) s fun u =>
        (u.core n).taskValid = false ∧ (u.core n).taskAbandoned = true ∧ (u.core n).abandonPending = some why ∧
        tget? u.truss.holding n = none ∧ (u.core n).g = k.g ∧ (u.core n).pc = k.pc) ∧
    (k.abandonPending = some why → (k.level ≠ 2 ∨ k.ieK = true) → idle →
      ∀ j, (j = .abandonException c ∨ j = .interruptTaken c) → Runs j s fun u =>
        Enters s u n (level 0x0B) 0x0B false k.pc ∧ (u.core n).detail = detail ∧ (u.core n).abandonPending = none ∧
        (u.core n).sleep = .no) ∧
    (k.abandonPending = none → k.takeable ≠ [] → idle → Runs (.interruptTaken c) s fun u =>
      ∃ x ∈ k.takeable, Enters s u n (if k.intDeleg.getLsbD x then 1 else 2) (0x20 + x) true k.pc ∧ (u.core n).sleep = .no) ∧
    (Runs (.storeError c addr) s fun u =>
      (u.core n).storeErr.getLsbD 63 = true ∧ (u.core n).storeErr.getLsbD 61 = (e.getLsbD 61 || k.taskValid) ∧
      (e.getLsbD 63 = false → (u.core n).storeErr.setWidth 48 = addr ∧ (u.core n).storeErr.getLsbD 62 = e.getLsbD 62) ∧
      (e.getLsbD 63 = true → (u.core n).storeErr.setWidth 48 = e.setWidth 48 ∧ (u.core n).storeErr.getLsbD 62 = true) ∧
      (u.core n).intPend = k.intPend ||| 4 ∧ u.reg (RFT_STORE_ERR_CNT n) = min (s.reg (RFT_STORE_ERR_CNT n) + 1) 0xFFFFFFFF ∧
      u.flag (hdr (rftPage n) 0x10) 2 = true ∧ (u.core n).g = k.g ∧ (u.core n).pc = k.pc ∧ SameMemory s u ∧
      SamePages s u [rftPage n]) ∧
    (k.cycle < k.timer → Runs (.coreTimerMatch c) s fun u =>
      (u.core n).cycle = k.timer ∧ (u.core n).intPend = k.intPend ||| 2 ∧ (u.core n).g = k.g ∧ SameRegs s u [] ∧ SameMemory s u) ∧
    (k.holdLeft < 2 ^ 64 → Runs (.memHoldEnd c) s fun u =>
      (u.core n).holdLeft = 0 ∧ (u.core n).cycle = k.cycle + BitVec.ofNat 64 k.holdLeft ∧ (u.core n).g = k.g ∧ SameRegs s u [] ∧
      SameMemory s u) ∧
    (∀ x y, k.holdDeferred = some x → k.holdLeft = 0 → k.holdEnded = some y → k.cycle.toNat ≤ y + 32 → y + 32 < 2 ^ 64 →
      Runs (.memHoldDeferredStart c) s fun u =>
        (u.core n).holdLeft = x ∧ (u.core n).holdDeferred = none ∧ (u.core n).cycle.toNat = y + 32 ∧ (u.core n).g = k.g ∧
        SameRegs s u [] ∧ SameMemory s u) ∧
    (reached → Runs (.externalCoreAccess r c off size false v waited) s fun u =>
      u.answer = .value (BitVec.ofNat 64 (ofBytes (s.bytes at' m))) ∧ slot u ∧ SameMemory s u) ∧
    (reached → Runs (.externalCoreAccess r c off size true v waited) s fun u =>
      u.bytes at' m = toBytes m v.toNat ∧ slot u ∧ SameBytesBut s u fun a => at' ≤ a ∧ a < at' + m) ∧
    (isHost r = true → Runs (.externalCoreAccess r c off size true v waited) s fun u =>
      u.answer = .unsupported ∧ SameRegs s u [] ∧ SameCompute s u) ∧
    (s.coreServes n = true → s.coreSt n = 0 → s.islandUp (8 + n / 9) = true → s.flag (RFT_RUN n) 0 = false →
      Runs (.coreStart c) s fun u =>
        u.coreSt n = 1 ∧ (u.core n).level = 2 ∧ (u.core n).sleep = .wait ∧ (u.core n).g = Vector.replicate 32 0 ∧
        (∀ a, dataBase + 0x80000 * n ≤ a → a < dataBase + 0x80000 * (n + 1) → u.byte a = 0) ∧
        (∀ a, a < dataBase → u.byte a = s.byte a) ∧ SameRegs s u [RFT_STAT n]) ∧
    (s.coreServes n = true → s.coreSt n = 0 → s.islandUp (8 + n / 9) = true → s.flag (RFT_RUN n) 0 = true → s.NoErrors →
      dramBase ≤ s.wide (RFT_BOOT_LO n) → s.wide (RFT_BOOT_LO n) + 0x20000 ≤ dramBase + s.dramU → 0 < s.fld (RFT_BOOT_LEN n) 16 0 →
      s.fld (RFT_BOOT_LEN n) 16 0 ≤ 122880 →
      (s.memRead (s.coreAgent n) (s.wide (RFT_BOOT_LO n) / 16 * 16) (s.fld (RFT_BOOT_LEN n) 16 0)).1 = .ok bs →
      Runs (.coreStart c) s fun u =>
        u.coreSt n = 2 ∧ (u.core n).level = 1 ∧ (u.core n).sleep = .no ∧
        (u.core n).pc = BitVec.ofNat 48 (s.fld (RFT_BOOT_ENT n) 16 2 * 4) ∧ (u.core n).g = Vector.replicate 32 0 ∧
        u.bytes (progBase + 0x20000 * n) (s.fld (RFT_BOOT_LEN n) 16 0) = bs) ∧
    -- the core's page: mailbox, run and halt (R142, R143)
    (s.Accepts r (RFT_MAILBOX n) w.toNat pi → Runs (.mailboxWrite r c w) s fun u =>
      u.reg (RFT_MAILBOX n) = w.toNat ∧ u.core n = { k with intPend := k.intPend ||| 1 } ∧ (∀ d ≠ n, u.core d = s.core d) ∧
      SameRegs s u [RFT_MAILBOX n, hdr (rftPage n) 0x2C] ∧ SameMemory s u) ∧
    (let asked (run halt : Bool) : Prop := s.Accepts r (RFT_RUN n) (runWord run halt).toNat pi
     let halting := s.flag (RFT_RUN n) 1
     let page (u : State) : Prop := SamePages s u [rftPage n] ∧ SameMemory s u ∧ u.truss = s.truss
     (∀ run, asked run halting → halting = false → s.coreSt n ≠ 4 → run = false ∨ s.coreSt n ≠ 1 → Runs (.coreRun r c run) s fun u =>
       u.flag (RFT_RUN n) 0 = run ∧ u.flag (RFT_RUN n) 1 = false ∧ u.coreSt n = s.coreSt n ∧ u.cores = s.cores ∧ page u) ∧
     (asked true halting → halting = false → s.coreSt n = 1 → k.sleep = .wait → k.level = 2 → s.NoErrors →
       dramBase ≤ s.wide (RFT_BOOT_LO n) → s.wide (RFT_BOOT_LO n) + 0x20000 ≤ dramBase + s.dramU → 0 < s.fld (RFT_BOOT_LEN n) 16 0 →
       s.fld (RFT_BOOT_LEN n) 16 0 ≤ 122880 →
       (s.memRead (s.coreAgent n) (s.wide (RFT_BOOT_LO n) / 16 * 16) (s.fld (RFT_BOOT_LEN n) 16 0)).1 = .ok bs →
       Runs (.coreRun r c true) s fun u => u.flag (RFT_RUN n) 0 = true ∧ u.coreSt n = 2 ∧ (u.core n).level = 1 ∧ (u.core n).sleep = .no ∧
         (u.core n).pc = BitVec.ofNat 48 (s.fld (RFT_BOOT_ENT n) 16 2 * 4) ∧ (u.core n).g = k.g ∧
         u.bytes (progBase + 0x20000 * n) (s.fld (RFT_BOOT_LEN n) 16 0) = bs) ∧
     (asked (s.flag (RFT_RUN n) 0) true → s.coreSt n = 2 → k.pkt = [] → k.sleep = .no ∨ k.sleep = .wait → Runs (.coreHalt r c true) s fun u =>
       u.coreSt n = 4 ∧ u.flag (RFT_RUN n) 31 = true ∧ u.flag (RFT_RUN n) 1 = true ∧ u.flag (hdr (rftPage n) 0x10) 0 = true ∧
       u.executes n = false ∧ u.core n = { k with haltedFrom := 2, intPend := k.intPend ||| 16 } ∧ page u) ∧
     (asked (s.flag (RFT_RUN n) 0) true → s.coreSt n = 2 → k.pkt ≠ [] → Runs (.coreHalt r c true) s fun u =>
       u.coreSt n = 2 ∧ u.flag (RFT_RUN n) 1 = true ∧ u.flag (RFT_RUN n) 31 = s.flag (RFT_RUN n) 31 ∧ u.cores = s.cores ∧ page u) ∧
     (asked (s.flag (RFT_RUN n) 0) false → s.coreSt n = 4 → k.haltedFrom < 16 →
       ¬(s.flag (RFT_RUN n) 0 = true ∧ k.haltedFrom = 1 ∧ k.sleep = .wait ∧ k.level = 2) → Runs (.coreHalt r c false) s fun u =>
       u.coreSt n = k.haltedFrom ∧ u.flag (RFT_RUN n) 31 = false ∧ u.flag (RFT_RUN n) 1 = false ∧ u.cores = s.cores ∧ page u))

/-- What a packet that may not retire reports, at its own address and with nothing retired (R114, R115, R123, R126, R127, R133,
R137, R138); and a packet waits for its last word.
Model's choices that it rests on: log 41, 42, 60.
The conclusion is `exec … = .next t` (`Runs`) for: clrp, cmac, addQ, take, mfc, mtc, eret, tend, ld, st, nop. -/
def Obligations.FaultingPacketsReportTheirCause : Prop :=
  ∀ (s : State) (c : CoreNo) (r : RForm) (i : IForm) (f : MForm) (e : PktEntry),
    let n := c.val
    let k := s.core n
    let level (code : Nat) : Nat := if k.level = 2 ∨ k.excDeleg.getLsbD code = false then 2 else 1
    let faults (j : Instr) (code : Nat) : Prop := Runs j s fun t =>
      Enters s t n (level code) code false k.pc ∧ (t.core n).instret = k.instret ∧ (t.core n).lc = k.lc
    let x := k.mAddr f
    let m := 2 ^ f.size.toNat
    let plain := f.mode.toNat = 0 ∧ f.size.toNat ≤ 3
    let eval (t : State) : Nat := if (t.core n).level = 2 then (t.core n).evalK.toNat else (t.core n).evalS.toNat
    (s.Clear n → r.rd.toNat % 2 = 1 → faults (.clrp c true r) 0x01 ∧ faults (.cmac c true r) 0x01 ∧ faults (.addQ c true r) 0x01) ∧
    (s.Clear n → k.level = 0 → r.rd.toNat % 4 = 0 → k.taskValid = false → faults (.take c true r) 0x03) ∧
    (s.Clear n → (r.rd.toNat % 4 ≠ 0 ∨ k.taskValid = true) → faults (.take c true r) 0x01) ∧
    (s.Clear n → csrReadLevel i.imm.toNat = none → faults (.mfc c true i) 0x01 ∧ faults (.mtc c true i) 0x01) ∧
    (∀ l, s.Clear n → csrReadLevel i.imm.toNat = some l →
      (k.level < l → faults (.mfc c true i) 0x03) ∧ (k.level < csrWriteLevel i.imm.toNat → faults (.mtc c true i) 0x03)) ∧
    (s.Clear n → k.level = 0 → faults (.eret c true r) 0x03) ∧
    (s.Clear n → r.rb.toNat ≤ 3 → k.taskValid = false → k.taskAbandoned = false → faults (.tend c true r) 0x0A) ∧
    (s.Clear n → (4 < f.mode.toNat ∨ 4 < f.size.toNat) → faults (.ld c true f) 0x01 ∧ faults (.st c true f) 0x01) ∧
    (s.Clear n → plain → x.at_ % m ≠ 0 → Runs (.ld c true f) s fun t =>
      Enters s t n (level 0x04) 0x04 false k.pc ∧ (t.core n).instret = k.instret ∧ eval t = x.at_) ∧
    (s.Clear n → plain → x.at_ % m = 0 → mayUse k.level x.at_ m = false → faults (.ld c true f) 0x05 ∧ faults (.st c true f) 0x05) ∧
    (s.Clear n → plain → x.at_ % m = 0 → mayUse k.level x.at_ m = true → inWindow x.at_ = false →
      ((s.memRead (s.coreAgent n) x.at_ m).1 = .error .bus → x.at_ < 0x120000 ∨ s.dramErr = [] → faults (.ld c true f) 0x06) ∧
      ((s.memRead (s.coreAgent n) x.at_ m).1 = .error .unc → s.dramErr = [] → faults (.ld c true f) 0x07)) ∧
    (s.executes n = true → k.pkt = [] → k.divUnit = [] → k.hivUnit = [] → k.pc.toNat < 0x20000 →
      (s.progRead (progBase + 0x20000 * n + k.pc.toNat)).isSome = false → Runs (.nop c true 0) s fun t =>
        Enters s t n 2 0x0C false k.pc ∧ (t.core n).instret = k.instret ∧ t.flag (hdr (rftPage n) 0x10) 1 = true ∧
        t.flag (hdr (rftPage n) 0x10) 3 = true) ∧
    (s.executes n = true → k.pkt = [] → k.divUnit = [] → k.hivUnit = [] → 0x1E000 ≤ k.pc.toNat → k.pc.toNat < 0x20000 → k.level ≠ 2 →
      (s.progRead (progBase + 0x20000 * n + k.pc.toNat)).isSome = true → faults (.nop c true 0) 0x05) ∧
    (s.executes n = true → k.pkt = [e] → e.slot = .s → e.causes = [] → k.divUnit = [] → k.hivUnit = [] → k.pc.toNat < 0x1DFF0 → s.progErr = [] →
      faults (.nop c true 0) 0x02) ∧
    (s.executes n = true → k.pkt.length < 3 → k.divUnit = [] → k.hivUnit = [] → Runs (.nop c false 0) s fun t =>
      (t.core n).pkt.length = k.pkt.length + 1 ∧ { t.core n with pkt := k.pkt } = k ∧ SameRegs s t [] ∧ SameMemory s t ∧
      ∀ d, d ≠ n → t.core d = s.core d)

/-! ## Vectors and Dowels (06) -/

/-- Vector instructions that write a v register: each active element's result under R128 and R129, inactive elements kept or
zeroed (R145, R154).
Model's choices that it rests on: log 46.
The conclusion is `exec … = .next t` (`Runs`) for: vadd, vsub, vshl, vqdmulh, vneg, vabs, vnarrow, vnarw, vcmul, vmin, vmax,
vand, vor, vxor, vbic, vshr, vsar, vrsar, vperm, vdup, vsel, mktov, vmfm. -/
def Obligations.VectorElements : Prop :=
  ∀ (s : State) (c : CoreNo) (f : VForm), s.VecOn c.val →
    let n := c.val
    let k := s.core n
    let w := 8 * 2 ^ f.esz.toNat
    let num := 1024 / w
    let rd := f.rd.toNat
    let va := k.v.getD f.ra.toNat 0
    let vb := k.v.getD f.rb.toNat 0
    let a (j : Nat) : BitVec w := laneOf w j va
    let b (j : Nat) : BitVec w := laneOf w j vb
    let m (j : Nat) : Nat := (b j).toNat % w
    let sat (i : Instr) (op : Nat → Int) : Prop := WritesLanes i s n f w 1 (fun j => satRule w f.s (op j)) fun j => satOv w f.s (op j)
    let bits (i : Instr) (op : Nat → BitVec w) : Prop := WritesLanes i s n f w 1 op fun _ => false
    let h := 4 * 2 ^ f.esz.toNat
    let ar (j : Nat) : Int := (laneOf h (2 * j) va).toInt
    let ai (j : Nat) : Int := (laneOf h (2 * j + 1) va).toInt
    let br (j : Nat) : Int := (laneOf h (2 * j) vb).toInt
    let bi (j : Nat) : Int := if f.cj then -(laneOf h (2 * j + 1) vb).toInt else (laneOf h (2 * j + 1) vb).toInt
    let part (l : Nat) : Int :=
      rnd (if l % 2 = 0 then ar (l / 2) * br (l / 2) - ai (l / 2) * bi (l / 2) else ar (l / 2) * bi (l / 2) + ai (l / 2) * br (l / 2)) (h - 1)
    (f.cj = false →
      sat (.vadd c true f) (fun j => (a j).toInt + (b j).toInt) ∧
      sat (.vsub c true f) (fun j => (a j).toInt - (b j).toInt) ∧
      sat (.vshl c true f) (fun j => (a j).toInt * 2 ^ m j) ∧
      ((f.esz = 1 ∨ f.esz = 2) → sat (.vqdmulh c true f) fun j => rnd (2 * (a j).toInt * (b j).toInt) w) ∧
      (f.rb = 0 → sat (.vneg c true f) (fun j => -(a j).toInt) ∧ sat (.vabs c true f) fun j => (a j).toInt.natAbs) ∧
      (f.esz = 1 → f.ra.toNat ≤ 7 → WritesLanes (.vnarrow c true f) s n f 16 1
        (fun j => satRule 16 f.s (rnd (laneOf 48 j (k.m.getD f.ra.toNat 0)).toInt f.rb.toNat))
        fun j => satOv 16 f.s (rnd (laneOf 48 j (k.m.getD f.ra.toNat 0)).toInt f.rb.toNat)) ∧
      (f.esz ≠ 3 → f.ra.toNat % 2 = 0 →
        sat (.vnarw c true f) fun j => rnd (laneOf (2 * w) j (k.v.getD (f.ra.toNat + 1) 0 ++ va)).toInt f.rb.toNat)) ∧
    ((f.esz = 2 ∨ f.esz = 3) → WritesLanes (.vcmul c true f) s n f h 2 (fun l => satRule h f.s (part l)) fun l => satOv h f.s (part l)) ∧
    (f.cj = false → f.s = false →
      bits (.vmin c true f) (fun j => if (a j).slt (b j) then a j else b j) ∧
      bits (.vmax c true f) (fun j => if (a j).slt (b j) then b j else a j) ∧
      bits (.vand c true f) (fun j => a j &&& b j) ∧
      bits (.vor c true f) (fun j => a j ||| b j) ∧
      bits (.vxor c true f) (fun j => a j ^^^ b j) ∧
      bits (.vbic c true f) (fun j => a j &&& ~~~b j) ∧
      bits (.vshr c true f) (fun j => a j >>> m j) ∧
      bits (.vsar c true f) (fun j => (a j).sshiftRight (m j)) ∧
      bits (.vrsar c true f) (fun j => BitVec.ofInt w (rnd (a j).toInt (m j))) ∧
      bits (.vperm c true f) (fun j => laneOf w ((b j).toNat % num) va) ∧
      (f.rb = 0 → bits (.vdup c true f) fun _ => (k.g.getD f.ra.toNat 0).setWidth w) ∧
      (f.zm = false → ∃ x : BitVec 1024, (∀ j < num, laneOf w j x = if k.onElem f.ng j then a j else b j) ∧
        WritesV (.vsel c true f) s n rd x false)) ∧
    (f.cj = false → f.s = false → f.zm = false → f.ng = 0 → f.esz = 0 →
      (f.rb = 0 → f.ra.toNat ≤ 15 → WritesV (.mktov c true f) s n rd ((k.n.getD f.ra.toNat 0).zeroExtend 1024) false) ∧
      (f.ra.toNat ≤ 7 → f.rb.toNat ≤ 2 →
        WritesV (.vmfm c true f) s n rd (laneOf 1024 f.rb.toNat (k.m.getD f.ra.toNat 0)) false))

/-- Accumulators, masks, run count and g results of vector instructions (R145, R154).
Model's choices that it rests on: log 46.
The conclusion is `exec … = .next t` (`Runs`) for: vmac, vmac2, vcmac, vcmpEq, vcmpNe, vcmpLt, vcmpLe, vcmpLtu, vcmpLeu,
vradd, vmclr, vmtm, vspan, mkall, mkand, mkor, mkbic, runmk, vtomk, vlanes, mkcnt, runget, runset, runput. -/
def Obligations.VectorMasksAndSums : Prop :=
  ∀ (s : State) (c : CoreNo) (f : VForm), s.VecOn c.val → f.cj = false ∨ f.esz = 2 →
    let n := c.val
    let k := s.core n
    let w := 8 * 2 ^ f.esz.toNat
    let num := 1024 / w
    let d := f.rd.toNat
    let ra := f.ra.toNat
    let rb := f.rb.toNat
    let a (j : Nat) : BitVec w := laneOf w j (k.v.getD ra 0)
    let b (j : Nat) : BitVec w := laneOf w j (k.v.getD rb 0)
    let mac (md vb j : Nat) : Int := (laneOf 48 j (k.m.getD md 0)).toInt +
      (laneOf 16 j (k.v.getD ra 0)).toInt * (laneOf 16 j (k.v.getD vb 0)).toInt
    let re (r j : Nat) : Int := (laneOf 16 (2 * j) (k.v.getD r 0)).toInt
    let im (r j : Nat) (conj : Bool) : Int := (laneOf 16 (2 * j + 1) (k.v.getD r 0)).toInt * (if conj then -1 else 1)
    let cmac (l : Nat) : Int := (laneOf 48 l (k.m.getD d 0)).toInt +
      if l % 2 = 0 then re ra (l / 2) * re rb (l / 2) - im ra (l / 2) f.zm * im rb (l / 2) f.cj
      else re ra (l / 2) * im rb (l / 2) f.cj + im ra (l / 2) f.zm * re rb (l / 2)
    let accs (i : Instr) (ms : Vector (BitVec 3072) 8) (ov : Bool) : Prop := Goes i s n { k with m := ms, vctl := k.vctl ||| 4, ov := k.ov || ov }
    let bare := f.ra = 0 ∧ f.rb = 0 ∧ f.ng = 0
    let cmp (i : Instr) (op : BitVec w → BitVec w → Bool) : Prop :=
      d < 16 → f.zm = false → WritesN i s n d fun j => decide (j < num) && k.onElem f.ng j && op (a j) (b j)
    (f.cj = false → f.esz = 1 → d ≤ 7 → ∃ x, AccLanes k f d 1 (mac d rb) x ∧
      accs (.vmac c true f) (k.m.setIfInBounds d x) (accOv k f 1 (mac d rb))) ∧
    (f.cj = false → f.esz = 1 → d ≤ 7 → d % 2 = 0 → rb % 2 = 0 → ∃ x y, AccLanes k f d 1 (mac d rb) x ∧
      AccLanes k f (d + 1) 1 (mac (d + 1) (rb + 1)) y ∧
      accs (.vmac2 c true f) ((k.m.setIfInBounds d x).setIfInBounds (d + 1) y)
        (accOv k f 1 (mac d rb) || accOv k f 1 (mac (d + 1) (rb + 1)))) ∧
    (f.esz = 2 → d ≤ 7 → ∃ x, AccLanes k f d 2 cmac x ∧ accs (.vcmac c true f) (k.m.setIfInBounds d x) (accOv k f 2 cmac)) ∧
    (f.cj = false → f.s = false →
      cmp (.vcmpEq c true f) (fun x y => x == y) ∧ cmp (.vcmpNe c true f) (fun x y => x != y) ∧
      cmp (.vcmpLt c true f) BitVec.slt ∧ cmp (.vcmpLe c true f) BitVec.sle ∧
      cmp (.vcmpLtu c true f) BitVec.ult ∧ cmp (.vcmpLeu c true f) BitVec.ule) ∧
    (f.cj = false → f.zm = false → f.rb = 0 →
      let sum : Int := ((List.range num).map fun j => if k.onElem f.ng j then (a j).toInt else 0).sum
      WritesG (.vradd c true f) s n d (satRule 64 f.s sum) (satOv 64 f.s sum)) ∧
    (f.cj = false → f.s = false → f.zm = false →
      (f.esz = 0 → bare → d ≤ 7 → accs (.vmclr c true f) (k.m.setIfInBounds d 0) false) ∧
      (f.esz = 0 → f.ng = 0 → d ≤ 7 → rb ≤ 2 → ∃ x : BitVec 3072, (∀ i < 3, laneOf 1024 i x =
          if i = rb then k.v.getD ra 0 else laneOf 1024 i (k.m.getD d 0)) ∧ accs (.vmtm c true f) (k.m.setIfInBounds d x) false) ∧
      (f.ng = 0 → d < 16 → WritesN (.vspan c true f) s n d fun j =>
        decide (j < num) && decide ((k.g.getD ra 0).toInt + (j : Int) < (k.g.getD rb 0).toInt)) ∧
      (bare → d < 16 → WritesN (.mkall c true f) s n d fun j => decide (j < num)) ∧
      (f.esz = 0 → f.ng = 0 → d < 16 → ra < 16 → rb < 16 →
        WritesN (.mkand c true f) s n d (fun j => (k.n.getD ra 0).getLsbD j && (k.n.getD rb 0).getLsbD j) ∧
        WritesN (.mkor c true f) s n d (fun j => (k.n.getD ra 0).getLsbD j || (k.n.getD rb 0).getLsbD j) ∧
        WritesN (.mkbic c true f) s n d fun j => (k.n.getD ra 0).getLsbD j && !(k.n.getD rb 0).getLsbD j) ∧
      (f.ra = 0 → f.rb = 0 → d < 16 → WritesN (.runmk c true f) s n d fun j =>
        decide (j < num) && k.onElem f.ng j && decide (j < k.vrun.toNat)) ∧
      (f.esz = 0 → f.ng = 0 → f.rb = 0 → d < 16 → WritesN (.vtomk c true f) s n d fun j => (k.v.getD ra 0).getLsbD j) ∧
      (f.rb = 0 → f.ng = 0 → WritesG (.vlanes c true f) s n d (BitVec.ofInt 64 (f.ra.toInt * (num : Int))) false) ∧
      (f.rb = 0 → f.ng = 0 → ra < 16 → WritesG (.mkcnt c true f) s n d
        (BitVec.ofNat 64 ((List.range num).countP fun j => (k.n.getD ra 0).getLsbD j)) false) ∧
      (f.esz = 0 → bare → WritesG (.runget c true f) s n d (k.vrun.zeroExtend 64) false) ∧
      (f.esz = 0 → bare → f.rd = 0 → Goes (.runset c true f) s n { k with vrun := 128, vctl := k.vctl ||| 4 }) ∧
      (f.esz = 0 → f.rb = 0 → f.ng = 0 → f.rd = 0 → Goes (.runput c true f) s n
        { k with vrun := BitVec.ofNat 8 (min (k.g.getD ra 0).toNat 128), vctl := k.vctl ||| 4 }))

/-- Contiguous and structure accesses, gathers and scatters: what each active element moves, the run count, and the element
that faults (R124, R148, R152, R155, R156, R158).
Model's choices that it rests on: log 47, 48.
The conclusion is `exec … = .next t` (`Runs`) for: vld, vsplit2, vsplit3, vsplit4, vst, vweave2, vweave3, vweave4, vgath,
vscat. -/
def Obligations.VectorMemoryMovesElements : Prop :=
  ∀ (s : State) (c : CoreNo) (f : VMForm), s.VecOn c.val → s.NoErrors →
    let n := c.val
    let k := s.core n
    let e := 2 ^ f.esz.toNat
    let w := 8 * e
    let rt := f.rt.toNat
    let an := f.an.toNat
    let js := k.activeElems f.ng w
    let lv (r j : Nat) : BitVec w := laneOf w j (k.v.getD r 0)
    let inc (m : Nat) : BitVec 48 := f.low.signExtend 48 * BitVec.ofNat 48 (128 * m)
    let base := k.a.getD an 0
    let el (m j g : Nat) : List (Nat × Nat) := (k.vmAddr m f).chunks ((j * m + g) * e) e
    let ready (m : Nat) : Prop := (f.mode = 0 ∨ f.mode = 2 ∨ f.mode = 4) ∧ rt + m ≤ 32 ∧
      k.agCauses (k.vmAddr m f) e (vmChunks (k.vmAddr m f) m e js) = [] ∧
      ∀ j ∈ js, ∀ g < m, (s.bytesAt n (el m j g)).isSome = true
    let post (m : Nat) : Core := match (k.vmAddr m f).post with
      | some p => { k with a := k.a.setIfInBounds an (BitVec.ofNat 48 p) }
      | none => k
    let loads (m : Nat) (i : Instr) : Prop := ready m → ∃ x : Nat → BitVec 1024,
      (∀ g < m, ∀ j < 1024 / w, if k.onElem f.ng j
        then ∃ bs, s.bytesAt n (el m j g) = some bs ∧ laneOf w j (x g) = BitVec.ofNat w (ofBytes bs)
        else laneOf w j (x g) = if f.zm then 0 else lv (rt + g) j) ∧
      Goes i s n { post m with
        v := (List.range m).foldl (fun v g => v.setIfInBounds (rt + g) (x g)) k.v, vctl := k.vctl ||| 4 }
    let stores (m : Nat) (i : Instr) : Prop := ready m → (∀ b, (k.vmAddr m f).wrapIn = some b → 128 * m ≤ b.2) →
      Runs i s fun t =>
        RetiresIn s t n (post m) (fun a => ∃ j ∈ js, ∃ g < m, ∃ p ∈ el m j g, ∃ q, s.reaches n p.1 p.2 = some q ∧ inSpan q p.2 a)
          (storePages n) ∧
        (t.core n).pc = s.nextPc n ∧ ∀ j ∈ js, ∀ g < m, t.bytesAt n (el m j g) = some (toBytes e (lv (rt + g) j).toNat)
    let at' (j : Nat) : Nat := (base + ((laneOf w j (k.v.getD f.low.toNat 0)).setWidth 48 <<< f.mode.toNat)).toNat
    let form := (f.esz = 2 ∨ f.esz = 3) ∧ f.mode.toNat ≤ 3
    let reached (j : Nat) : Prop := k.elemCause (at' j) e = none ∧ (s.reaches n (at' j) e).isSome = true
    let got (j : Nat) : BitVec w := BitVec.ofNat w (ofBytes (((s.reaches n (at' j) e).map fun q => s.bytes q e).getD []))
    let faulty (j code : Nat) : Prop :=
      (at' j % e ≠ 0 ∧ code = 4) ∨
      (at' j % e = 0 ∧ (inWindow (at' j) = true ∨ mayUse k.level (at' j) e = false) ∧ code = 5) ∨
      (k.elemCause (at' j) e = none ∧ (s.memRead (s.coreAgent n) (at' j) e).1 = .error .bus ∧ code = 6)
    let level (code : Nat) : Nat := if k.level = 2 ∨ k.excDeleg.getLsbD code = false then 2 else 1
    let vf (j code : Nat) : BitVec 64 := BitVec.ofNat 64 (2 ^ 63 + j * 2 ^ 56 + code * 2 ^ 48 + at' j)
    (k.circular an = false → ∀ m,
      (f.mode = 0 → (k.vmAddr m f).at_ = (base + inc m).toNat ∧ post m = k) ∧
      (f.mode = 2 → (k.vmAddr m f).at_ = base.toNat ∧ (post m).a = k.a.setIfInBounds an (base + inc m)) ∧
      (f.mode = 4 → (k.vmAddr m f).at_ = (base + inc m).toNat ∧ (post m).a = k.a.setIfInBounds an (base + inc m)) ∧
      ∀ j g, el m j g = [(((k.vmAddr m f).at_ + (j * m + g) * e) % 2 ^ 48, e)]) ∧
    loads 1 (.vld c true f) ∧ loads 2 (.vsplit2 c true f) ∧ loads 3 (.vsplit3 c true f) ∧ loads 4 (.vsplit4 c true f) ∧
    stores 1 (.vst c true f) ∧ stores 2 (.vweave2 c true f) ∧ stores 3 (.vweave3 c true f) ∧ stores 4 (.vweave4 c true f) ∧
    (form → (∀ j ∈ js, reached j) → ∃ x : BitVec 1024,
      (∀ j < 1024 / w, laneOf w j x = if k.onElem f.ng j then got j else 0) ∧ WritesV (.vgath c true f) s n rt x false) ∧
    (∀ pre j rest code, form → js = pre ++ j :: rest → (∀ i ∈ pre, reached i) → faulty j code → pre ≠ [] → ∃ x : BitVec 1024,
      (∀ i < 1024 / w, laneOf w i x = if i ∈ pre then got i else 0) ∧
      Runs (.vgath c true f) s fun t =>
        (t.core n).v = k.v.setIfInBounds rt x ∧ (t.core n).vrun.toNat = min k.vrun.toNat j ∧ (t.core n).vfault = vf j code ∧
        (t.core n).g = k.g ∧ (t.core n).instret = k.instret + 1 ∧ (t.core n).level = k.level ∧ SameMemory s t) ∧
    (∀ j rest code, form → js = j :: rest → faulty j code → Runs (.vgath c true f) s fun t =>
      Enters s t n (level code) code false k.pc ∧ (t.core n).vrun = k.vrun ∧ (t.core n).vfault = vf j code ∧
      (t.core n).instret = k.instret) ∧
    (form → (∀ j ∈ js, reached j) → Runs (.vscat c true f) s fun t =>
      RetiresIn s t n k (fun a => ∃ j ∈ js, ∃ q, s.reaches n (at' j) e = some q ∧ inSpan q e a) (storePages n) ∧
      (t.core n).pc = s.nextPc n ∧
      ∀ j ∈ js, ∀ q, s.reaches n (at' j) e = some q →
        (∀ i ∈ js, j < i → ∀ r, s.reaches n (at' i) e = some r → r ≠ q) →
        t.bytes q e = toBytes e (lv rt j).toNat) ∧
    (∀ pre j rest x, form → js = pre ++ j :: rest → (∀ i ∈ pre, k.elemCause (at' i) e = none) → k.elemCause (at' j) e = some x →
      Runs (.vscat c true f) s fun t => Enters s t n (level x.code) x.code false k.pc ∧ (t.core n).vfault = vf j x.code ∧
        (t.core n).instret = k.instret)

/-- What the Dowels compute, exactly or within the catalogue's bounds, with DIV and HIV through their units and the results
that arrive later (R161, R162).
Model's choices that it rests on: log 6, 61, 114.
The conclusion is `exec … = .next t` (`Runs`) for: cmr, rsq, atn, lxpLog2, lxpExp2, gld, gldInit, crc, divSigned,
divUnsigned, divQ31, hiv, dowelResult, llr, brvBits, brvIndex, brvTranspose, srt. -/
def Obligations.DowelResults : Prop :=
  ∀ (s : State) (c : CoreNo) (f : VForm) (op2 : BitVec 2), s.VecOn c.val →
    let n := c.val
    let k := s.core n
    let rd := f.rd.toNat
    let ra := f.ra.toNat
    let va := k.v.getD ra 0
    let vb := k.v.getD f.rb.toNat 0
    let g (r : Nat) : BitVec 64 := k.g.getD r 0
    let on (slot : Nat) : Prop := k.dwlEn.getLsbD (16 * k.level + slot) = true
    let e32 (j : Nat) : BitVec 32 := laneOf 32 j va
    let re (v : BitVec 1024) (j : Nat) : Int := (laneOf 16 (2 * j) v).toInt
    let im (v : BitVec 1024) (j : Nat) : Int := (laneOf 16 (2 * j + 1) v).toInt
    let bi (j : Nat) : Int := if f.cj then -im vb j else im vb j
    let pr (j : Nat) : Int := re va j * re vb j - im va j * bi j
    let pi' (j : Nat) : Int := re va j * bi j + im va j * re vb j
    let turn (l : Nat) : Int := match op2.toNat, l % 2 with
      | 0, 0 => pr (l / 2) | 0, _ => pi' (l / 2)
      | 1, 0 => -pi' (l / 2) | 1, _ => pr (l / 2)
      | 2, 0 => -pr (l / 2) | 2, _ => -pi' (l / 2)
      | _, 0 => pi' (l / 2) | _, _ => -pr (l / 2)
    let gold (x1 x2 : Nat → Bool) : Prop := ∀ i, x1 (i + 31) = (x1 (i + 3) ^^ x1 i) ∧
      x2 (i + 31) = ((x2 (i + 3) ^^ x2 (i + 2)) ^^ (x2 (i + 1) ^^ x2 i))
    let gives (i : Instr) (at' : Nat) (x1 x2 : Nat → Bool) : Prop := ∃ (x : BitVec 1024) (p q : BitVec 64),
      (∀ j < 1024, x.getLsbD j = (x1 (at' + j) ^^ x2 (at' + j))) ∧
      (∀ j < 64, p.getLsbD j = (decide (j < 31) && x1 (at' + 1024 + j)) ∧ q.getLsbD j = (decide (j < 31) && x2 (at' + 1024 + j))) ∧
      Goes i s n { k with v := k.v.setIfInBounds rd x, vctl := k.vctl ||| 4, g := (k.g.setIfInBounds ra p).setIfInBounds (ra + 1) q }
    let poly : Nat × Nat := match 2 * op2.toNat + (if f.cj then 1 else 0) with
      | 0 => (0x864CFB, 24) | 1 => (0x800063, 24) | 2 => (0xB2B117, 24) | 3 => (0x1021, 16)
      | 4 => (0x621, 11) | 5 => (0x21, 6) | 6 => (0x9B, 8) | _ => (0x82F63B78, 32)
    let step (r bit : Nat) : Nat :=
      if poly.2 = 32 then (if (r + bit) % 2 = 1 then Nat.xor (r / 2) poly.1 else r / 2)
      else if (r / 2 ^ (poly.2 - 1) + bit) % 2 = 1 then Nat.xor (r * 2 % 2 ^ poly.2) poly.1 else r * 2 % 2 ^ poly.2
    let later (i : Instr) (hiv : Bool) (ws : List (Bool × Nat × BitVec 1024)) (ov : Bool) : Prop := Runs i s fun t =>
      ∃ due, let job : List DowelJob := [⟨due, false, ws⟩]
        Retires s t n { k with divUnit := if hiv then [] else job, hivUnit := if hiv then job else [], ov := k.ov || ov } ∧
        (t.core n).pc = s.nextPc n
    let quot (i : Instr) (v : BitVec 64) (ov : Bool) : Prop := later i false [(false, rd, v.zeroExtend 1024)] ov
    let w := 8 * 2 ^ f.esz.toNat
    let num := 1024 / w
    let plain := f.s = false ∧ f.cj = false
    let moves (i : Instr) (r : Nat → BitVec w → Prop) : Prop := ∃ x : BitVec 1024, (∀ j < num, r j (laneOf w j x)) ∧ WritesV i s n rd x false
    (on 0 → f.esz = 2 → WritesLanes (.cmr c true f op2) s n f 16 2 (fun l => satRule 16 f.s (rnd (turn l) 15))
      fun l => satOv 16 f.s (rnd (turn l) 15)) ∧
    (on 1 → f.esz = 2 → f.rb = 0 → plain → ∃ r : Nat → BitVec 32,
      (∀ j < 32, let x := (e32 j).toNat
        if x = 0 then r j = 0xFFFFFFFF
        else ∃ y : Nat, 0 < y ∧ (2 * y - 1) ^ 2 * x ≤ 2 ^ 64 ∧ 2 ^ 64 ≤ (2 * y + 1) ^ 2 * x ∧ y ≤ (r j).toNat + 1 ∧ (r j).toNat ≤ y + 1) ∧
      WritesLanes (.rsq c true f) s n f 32 1 r fun j => e32 j == 0) ∧
    (on 3 → f.esz = 2 → f.rb = 0 → plain → ∃ r : Nat → BitVec 32,
      (∀ j < 32, laneOf 16 1 (r j) = 0 ∧ (re va j = 0 → im va j = 0 → r j = 0) ∧
        (0 < re va j → im va j = 0 → ((laneOf 16 0 (r j)).toInt).natAbs ≤ 2) ∧
        (re va j = 0 → 0 < im va j → ((laneOf 16 0 (r j)).toInt - 16384).natAbs ≤ 2) ∧
        (re va j = 0 → im va j < 0 → ((laneOf 16 0 (r j)).toInt + 16384).natAbs ≤ 2)) ∧
      WritesLanes (.atn c true f) s n f 32 1 r fun _ => false) ∧
    (on 9 → f.esz = 2 → f.rb = 0 → plain →
      (∃ r : Nat → BitVec 32,
        (∀ j < 32, if e32 j = 0 then r j = 0x80000000
          else ∃ l : Nat, 2 ^ l ≤ (e32 j).toNat ^ 65536 ∧ (e32 j).toNat ^ 65536 < 2 ^ (l + 1) ∧
            (l : Int) - 2 ≤ (r j).toInt ∧ (r j).toInt ≤ l + 2) ∧
        WritesLanes (.lxpLog2 c true f) s n f 32 1 r fun j => e32 j == 0) ∧
      (∃ r : Nat → BitVec 32,
        (∀ j < 32, let x := (e32 j).toInt
          (33 * 65536 ≤ x → r j = 0xFFFFFFFF) ∧
          (0 ≤ x → x < 32 * 65536 → x % 65536 = 0 → ((r j).toNat - (2 ^ (x / 65536).toNat : Nat) : Int).natAbs ≤ 2) ∧
          (x < 0 → (r j).toNat ≤ 2)) ∧
        WritesLanes (.lxpExp2 c true f) s n f 32 1 r fun _ => false)) ∧
    (on 4 → ra % 2 = 0 → f.esz = 0 → f.rb = 0 → f.zm = false → plain → ∀ x1 x2, gold x1 x2 →
      ((∀ i < 31, x1 i = (g ra).getLsbD i ∧ x2 i = (g (ra + 1)).getLsbD i) → gives (.gld c true f) 0 x1 x2) ∧
      ((∀ i < 31, x1 i = decide (i = 0) ∧ x2 i = (g (ra + 1)).getLsbD i) → gives (.gldInit c true f) 1600 x1 x2)) ∧
    (on 5 → f.esz = 0 → f.s = false → f.zm = false → (g f.rb.toNat).toNat % 2048 ≤ 1024 →
      WritesG (.crc c true f op2) s n rd (BitVec.ofNat 64 ((List.range ((g f.rb.toNat).toNat % 2048)).foldl
        (fun r j => step r (if va.getLsbD j then 1 else 0)) ((g rd).toNat % 2 ^ poly.2))) false) ∧
    (on 2 → f.esz = 0 → f.ng = 0 → f.cj = false → f.zm = false →
      let a := g ra
      let b := g f.rb.toNat
      let x := (laneOf 32 0 a).toInt
      let y := (laneOf 32 0 b).toInt
      (b = 0 → quot (.divSigned c true f) (if a.slt 0 then BitVec.intMin 64 else BitVec.intMax 64) true ∧
        quot (.divUnsigned c true f) (BitVec.allOnes 64) true) ∧
      (b ≠ 0 → quot (.divSigned c true f) (satRule 64 f.s (Int.tdiv a.toInt b.toInt)) (satOv 64 f.s (Int.tdiv a.toInt b.toInt)) ∧
        quot (.divUnsigned c true f) (a / b) false) ∧
      (y = 0 → ∃ v : BitVec 64, laneOf 32 0 v = (if x < 0 then BitVec.intMin 32 else BitVec.intMax 32) ∧ quot (.divQ31 c true f) v true) ∧
      (y ≠ 0 → ∃ (v : BitVec 64) (q : Int), 2 * (x * 2 ^ 31 - q * y).natAbs ≤ y.natAbs ∧
        (2 * (x * 2 ^ 31 - q * y).natAbs = y.natAbs → q % 2 = 0) ∧ laneOf 32 0 v = satRule 32 f.s q ∧
        quot (.divQ31 c true f) v (satOv 32 f.s q))) ∧
    (on 6 → f.esz = 2 → f.zm = false → plain → ∃ (m : BitVec 1024) (e : BitVec 64),
      (∀ i < 2, (e.getLsbD (16 + i) = true → laneOf 512 i m = 0) ∧
        ((laneOf 32 (16 * i) va).toInt ≤ 0 → e.getLsbD (16 + i) = true) ∧
        ((∀ j < 4, 0 < (laneOf 32 (16 * i + j) va).toInt) → (∀ j < 12, laneOf 32 (16 * i + 4 + j) va = 0) →
          e.getLsbD (16 + i) = false ∧ ∀ j < 4,
            let d := (laneOf 32 (16 * i + j) va).toInt * 2 ^ 128
            2 * ((2 : Int) ^ (190 - (laneOf 8 i e).toInt).toNat - (laneOf 32 (16 * i + j) m).toInt * d).natAbs ≤ d.natAbs)) ∧
        e.toNat < 2 ^ 18 ∧
      later (.hiv c true f) true [(true, rd, m), (false, f.rb.toNat, e.zeroExtend 1024)] false) ∧
    (∀ (u : State) (v : BitVec 1024) (r d : Nat), u.core n = { k with divUnit := [⟨d, false, [(false, r, v)]⟩] } →
      Runs (.dowelResult c false) u fun t => (t.core n).g = k.g.setIfInBounds r (v.setWidth 64) ∧ (t.core n).divUnit = [] ∧
        (t.core n).v = k.v ∧ (t.core n).pc = k.pc ∧ SameRegs u t [] ∧ SameMemory u t) ∧
    (∀ (u : State) (v x : BitVec 1024) (r q d : Nat), u.core n = { k with hivUnit := [⟨d, false, [(true, r, v), (false, q, x)]⟩] } →
      Runs (.dowelResult c true) u fun t => (t.core n).v = k.v.setIfInBounds r v ∧ (t.core n).hivUnit = [] ∧
        (t.core n).g = k.g.setIfInBounds q (x.setWidth 64) ∧ (t.core n).pc = k.pc ∧ SameRegs u t [] ∧ SameMemory u t) ∧
    (on 7 → f.esz = 0 → f.s = false →
      let qm := 2 * (op2.toNat + 1)
      let sym (j : Nat) : Nat := (if f.cj then 16 else 0) + j / qm
      let used (j : Nat) : Prop := j < min 32 (128 / qm) * qm ∧ sym j < 32
      ∃ r : Nat → BitVec 8,
        (∀ j < 128, (¬used j → r j = 0) ∧ (used j → laneOf 16 (sym j) vb = 0 → r j = 0) ∧
          (used j → op2 = 0 → let part := if j % 2 = 0 then re va (sym j) else im va (sym j)
            (0 < part → 0 ≤ (r j).toInt) ∧ (part < 0 → (r j).toInt ≤ 0))) ∧
        WritesLanes (.llr c true f op2) s n f 8 1 r fun _ => false) ∧
    (on 8 → f.zm = false → plain →
      (f.rb = 0 → moves (.brvBits c true f) (fun j x => ∀ i < w, x.getLsbD i = (laneOf w j va).getLsbD (w - 1 - i))) ∧
      (f.rb = 0 → moves (.brvIndex c true f) fun j x => ∀ j' < num,
        (∀ i < 7 - f.esz.toNat, j'.testBit i = j.testBit (6 - f.esz.toNat - i)) → x = laneOf w j' va) ∧
      (∀ rows cols, (g f.rb.toNat).toNat = rows → rows * cols = num → moves (.brvTranspose c true f) fun j x =>
        ∀ y z, y < rows → z < cols → j = z * rows + y → x = laneOf w (y * cols + z) va)) ∧
    (on 10 → f.esz = 2 → f.zm = false → plain → ∃ (σ : Nat → Nat) (x : BitVec 1024),
      (∀ i < 32, σ i < 32) ∧ (∀ i < 32, ∀ j < 32, i < j →
        (e32 (σ j)).toInt < (e32 (σ i)).toInt ∨ (e32 (σ i) = e32 (σ j) ∧ σ i < σ j)) ∧
      (∀ i < 32, laneOf 32 i x = if i ≤ f.rb.toNat then (e32 (σ i) >>> 5 <<< 5) ||| BitVec.ofNat 32 (σ i) else 0) ∧
      WritesV (.srt c true f) s n rd x false)

/-- Vector and Dowel encodings that are not instructions, the disabled unit and the disabled Dowel (R147, R148, R153, R160,
R161).
Model's choices that it rests on: log 41, 46.
The conclusion is `exec … = .next t` (`Runs`) for: vcmpEq, vcmpNe, vcmpLt, vcmpLe, vcmpLtu, vcmpLeu, vspan, mkall, mkand,
mkor, mkbic, vtomk, runmk, vmac, vmac2, vcmac, vmclr, vmtm, vadd, vsub, vmin, vand, vshl, vqdmulh, vnarrow, vsel, vdup,
vradd, vperm, mkcnt, rsq, atn, divSigned, gld, hiv, brvBits, srt, vmax, vor, vxor, vbic, vshr, vsar, vrsar, vlanes, runget,
crc, llr, vmfm, mktov, runset, runput, brvIndex, cmr, lxpLog2, lxpExp2, vnarw, gldInit, vld, vst, vsplit2, vsplit3, vsplit4,
vweave2, vweave3, vweave4, vgath, vscat, vneg, mfc, mtc, divUnsigned. -/
def Obligations.VectorAndDowelFaults : Prop :=
  ∀ (s : State) (c : CoreNo) (f : VForm) (m : VMForm) (i : IForm) (op2 : BitVec 2), s.Clear c.val →
    let n := c.val
    let k := s.core n
    let level (code : Nat) : Nat := if k.level = 2 ∨ k.excDeleg.getLsbD code = false then 2 else 1
    let faults (j : Instr) (code : Nat) : Prop := Runs j s fun t =>
      Enters s t n (level code) code false k.pc ∧ (t.core n).instret = k.instret ∧ (t.core n).vrun = k.vrun ∧
      (t.core n).vctl = k.vctl
    let all (js : List Instr) (code : Nat) : Prop := ∀ j ∈ js, faults j code
    let masks : List Instr := [.vcmpEq c true f, .vcmpNe c true f, .vcmpLt c true f, .vcmpLe c true f, .vcmpLtu c true f,
      .vcmpLeu c true f, .vspan c true f, .mkall c true f, .mkand c true f, .mkor c true f, .mkbic c true f, .vtomk c true f,
      .runmk c true f]
    let accs : List Instr := [.vmac c true f, .vmac2 c true f, .vcmac c true f, .vmclr c true f, .vmtm c true f]
    let off := (k.level = 1 ∧ k.vctl.getLsbD 0 = false) ∨ (k.level = 0 ∧ k.vctl.getLsbD 1 = false)
    let clean := f.s = false ∧ f.cj = false ∧ f.zm = false ∧ f.rb = 0 ∧ f.ng = 0
    (f.cj = true → all [.vadd c true f, .vsub c true f, .vmin c true f, .vand c true f, .vshl c true f, .vqdmulh c true f,
      .vmac c true f, .vnarrow c true f, .vsel c true f, .vdup c true f, .vradd c true f, .vperm c true f, .mkcnt c true f,
      .rsq c true f, .atn c true f, .divSigned c true f, .gld c true f, .hiv c true f, .brvBits c true f, .srt c true f] 0x01) ∧
    (f.s = true → all ([.vmin c true f, .vmax c true f, .vand c true f, .vor c true f, .vxor c true f, .vbic c true f,
      .vshr c true f, .vsar c true f, .vrsar c true f, .vsel c true f, .vdup c true f, .vperm c true f, .vlanes c true f,
      .mkcnt c true f, .runget c true f, .crc c true f op2, .llr c true f op2, .srt c true f] ++ masks) 0x01) ∧
    (f.zm = true → all ([.vsel c true f, .vradd c true f, .vmfm c true f, .mktov c true f, .runset c true f, .runput c true f,
      .gld c true f, .crc c true f op2, .brvIndex c true f, .srt c true f] ++ masks) 0x01) ∧
    (16 ≤ f.rd.toNat → all masks 0x01) ∧
    (8 ≤ f.rd.toNat → all accs 0x01) ∧
    (f.esz ≠ 1 → all [.vmac c true f, .vmac2 c true f, .vnarrow c true f] 0x01) ∧
    (f.esz ≠ 2 → all [.vcmac c true f, .cmr c true f op2, .rsq c true f, .atn c true f, .hiv c true f, .lxpLog2 c true f,
      .lxpExp2 c true f, .srt c true f] 0x01) ∧
    (f.ra.toNat % 2 = 1 → all [.vnarw c true f, .gld c true f, .gldInit c true f] 0x01) ∧
    ((m.mode = 1 ∨ m.mode = 3 ∨ 5 ≤ m.mode.toNat) → all [.vld c true m, .vst c true m, .vsplit2 c true m, .vsplit3 c true m,
      .vsplit4 c true m, .vweave2 c true m, .vweave3 c true m, .vweave4 c true m] 0x01) ∧
    (m.rt.toNat = 31 → all [.vsplit2 c true m, .vsplit3 c true m, .vsplit4 c true m, .vweave2 c true m, .vweave3 c true m,
      .vweave4 c true m] 0x01) ∧
    ((4 ≤ m.mode.toNat ∨ m.esz.toNat < 2) → all [.vgath c true m, .vscat c true m] 0x01) ∧
    (off → clean → all [.vadd c true f, .vsub c true f, .vneg c true f, .vand c true f, .vshl c true f, .vsel c true f,
      .vdup c true f, .vradd c true f, .vlanes c true f] 0x10) ∧
    (off → clean → f.esz = 2 → all [.cmr c true f op2, .rsq c true f, .srt c true f] 0x10) ∧
    (off → m.mode = 2 → m.rt.toNat < 28 → m.esz = 2 → all [.vld c true m, .vst c true m, .vsplit4 c true m, .vweave3 c true m,
      .vgath c true m, .vscat c true m] 0x10) ∧
    (off → 0x81 ≤ i.imm.toNat → i.imm.toNat ≤ 0x85 → faults (.mfc c true i) 0x10 ∧
      (csrWriteLevel i.imm.toNat ≤ k.level → faults (.mtc c true i) 0x10)) ∧
    (s.VecOn n → clean → f.esz = 2 →
      (k.dwlEn.getLsbD (16 * k.level) = false → faults (.cmr c true f op2) 0x08) ∧
      (k.dwlEn.getLsbD (16 * k.level + 1) = false → faults (.rsq c true f) 0x08) ∧
      (k.dwlEn.getLsbD (16 * k.level + 6) = false → faults (.hiv c true f) 0x08) ∧
      (k.dwlEn.getLsbD (16 * k.level + 9) = false → faults (.lxpLog2 c true f) 0x08 ∧ faults (.lxpExp2 c true f) 0x08)) ∧
    (s.VecOn n → clean → f.esz = 0 →
      (k.dwlEn.getLsbD (16 * k.level + 2) = false → faults (.divUnsigned c true f) 0x08) ∧
      (k.dwlEn.getLsbD (16 * k.level + 5) = false → faults (.crc c true f op2) 0x08) ∧
      (k.dwlEn.getLsbD (16 * k.level + 7) = false → faults (.llr c true f op2) 0x08) ∧
      (k.dwlEn.getLsbD (16 * k.level + 8) = false → faults (.brvBits c true f) 0x08))

/-! ## Mortise engines (07, 08) -/

/-- An engine asks and is handed a task, reports once, is freed, fails, and gives up a task taken away; a Bay's HARQ cache is
emptied (R84, R89, R167 to R169, R200, R230).
Model's choices that it rests on: log 62.
The conclusion is `exec … = .next t` (`Runs`) for: engineRequest, engineJobFinish, taskFinishReport, engineFault,
engineAbandon, hqCacheInv. -/
def Obligations.EnginesTakeReportAndAreFreed : Prop :=
  ∀ (s : State) (e : EngineNo) (unit : BitVec 32) (f : Frame) (i : Nat) (t : Task) (rep : Report) (q : Fin 9) (r : Requester)
    (v : BitVec 32) (pi : PageInfo),
    let n := e.val
    let con := 128 + n
    let may := s.enabled (engPage n) = true ∧ s.islandUp (16 + n) = true ∧ con ∉ s.truss.drained ∧ (s.eng n).task = none ∧
      s.engSt n = 0 ∧ s.engHeld n = false ∧ (s.eng n).fenced = false
    let runs := tget? s.truss.holding con = some t.idx ∧ s.Live t.idx f i t ∧ t.st = .running ∧ t.consumer = con ∧ s.engSt n = 3
    let lapsing (g : Nat) : Bool := s.reached f.carrier t.dlSlot t.dlSym g
    let ended (u : State) : Prop := u.taskOf f.id i = some (match rep with
      | .finished => { t with st := .staged }
      | .failed => { t with st := .done, status := 2, detail := 4 }
      | .inputError => { t with st := .done, status := 2, detail := 2 }
      | .descriptor => { t with st := .done, status := 2, detail := 3 })
    let free (u : State) : Prop := (u.eng n).task = none ∧ (u.eng n).report = none ∧ u.engSt n = 0
    let reported (j : Instr) : Prop :=
      (lapsing (s.qGrace t.queue) = false → Runs j s fun u => ended u ∧ free u ∧ tget? u.truss.holding con = none ∧
        u.reg (MRT_JOB_CNT n) = (if rep = .finished then min (s.reg (MRT_JOB_CNT n) + 1) 0xFFFFFFFF else s.reg (MRT_JOB_CNT n)) ∧
        u.reg (MRT_LAST_CYC n) = (if rep = .finished then min (s.eng n).cycles 0xFFFFFFFF else s.reg (MRT_LAST_CYC n)) ∧
        TaskFrame s u f) ∧
      (lapsing (s.qGrace t.queue) = true → Runs j s fun u =>
        u.taskOf f.id i = some { t with st := .done, status := 1, detail := 0x11 } ∧ u.engSt n = 4 ∧
        tget? u.truss.holding con = none ∧ u.reg (MRT_JOB_CNT n) = s.reg (MRT_JOB_CNT n) ∧
        u.reg (MRT_LAST_CYC n) = s.reg (MRT_LAST_CYC n) ∧ TaskFrame s u f)
    let faulted (u : State) : Prop := u.engSt n = 5 ∧ (u.eng n).task = none ∧ (u.eng n).report = none ∧
      u.reg (MRT_FAULT_CNT n) = min (s.reg (MRT_FAULT_CNT n) + 1) 0xFFFFFFFF ∧ con ∉ u.truss.asking ∧ u.cores = s.cores
    let captured (u : State) : Prop := s.flag (hdr (engPage n) 0x1C) 31 = false →
      u.fld (hdr (engPage n) 0x1C) 15 0 = 0x04 ∧ u.reg (hdr (engPage n) 0x20) = unit.toNat
    (may → s.mayAsk con = true → s.askTurn con = true → s.select con = some (f, i, t) → s.frame? f.id = some f → Runs (.engineRequest e) s fun u =>
      u.taskOf f.id i = some { t with st := .running, consumer := con } ∧ tget? u.truss.holding con = some t.idx ∧
      (u.eng n).task = some t.idx ∧ (u.eng n).report = none ∧ u.engSt n = 3 ∧
      u.reg TRS_DISPATCH_CNT = min (s.reg TRS_DISPATCH_CNT + 1) 0xFFFFFFFF ∧ SameRegs s u [TRS_DISPATCH_CNT, MRT_STAT n] ∧
      SameCompute s u) ∧
    (may → s.mayAsk con = true → s.select con = none ∨ s.askTurn con = false → Runs (.engineRequest e) s fun u =>
      con ∈ u.truss.asking ∧ u.truss.frames = s.truss.frames ∧ u.engines = s.engines ∧ SameRegs s u [] ∧ SameCompute s u) ∧
    (¬may → Runs (.engineRequest e) s fun u =>
      u.truss = s.truss ∧ u.engines = s.engines ∧ SameRegs s u [] ∧ SameCompute s u) ∧
    (runs → s.Keeps f.records → (s.eng n).report = some rep → (s.eng n).changed = [] → reported (.engineJobFinish e)) ∧
    (runs → s.Keeps f.records → reported (.taskFinishReport (.engine e) rep)) ∧
    (s.engSt n ≠ 5 → s.islandUp (16 + n) = true → runs →
      (lapsing 0 = false → t.attempt < max 1 (s.fld TRS_CTL 3 0) → Runs (.engineFault e unit) s fun u =>
        faulted u ∧ captured u ∧ u.flag (hdr (engPage n) 0x10) 3 = true ∧
        u.taskOf f.id i = some { t with st := .ready, attempt := t.attempt + 1 } ∧ SameMemory s u) ∧
      (s.Keeps f.records → lapsing 0 = false → max 1 (s.fld TRS_CTL 3 0) ≤ t.attempt → Runs (.engineFault e unit) s fun u =>
        faulted u ∧ u.taskOf f.id i = some { t with st := .done, status := 2, detail := 1 }) ∧
      (s.Keeps f.records → lapsing 0 = true → Runs (.engineFault e unit) s fun u =>
        faulted u ∧ u.taskOf f.id i = some { t with st := .done, status := 1, detail := 0x10 })) ∧
    (s.engSt n ≠ 5 → s.islandUp (16 + n) = true → tget? s.truss.holding con = none → Runs (.engineFault e unit) s fun u =>
      faulted u ∧ captured u ∧ u.truss.frames = s.truss.frames ∧ SamePages s u [engPage n] ∧ SameMemory s u) ∧
    (s.engSt n = 4 → Runs (.engineAbandon e) s fun u => free u ∧
      u.reg (MRT_ABANDON_CNT n) = min (s.reg (MRT_ABANDON_CNT n) + 1) 0xFFFFFFFF ∧ u.flag (hdr (engPage n) 0x10) 4 = true ∧
      u.truss = s.truss ∧ SamePages s u [engPage n] ∧ SameCompute s u) ∧
    -- the HARQ cache of the page owner's Bay is emptied (R230)
    (s.Accepts r (MRT_HQ_INV (58 + q.val)) (v ||| 1).toNat pi → Runs (.hqCacheInv r q v) s fun u =>
      u.harqLines (s.owner (engPage (58 + q.val))) = [] ∧
      (∀ b, b ≠ s.owner (engPage (58 + q.val)) → u.harqLines b = s.harqLines b) ∧
      SameRegs s u [hdr (engPage (58 + q.val)) 0x2C] ∧ SameCompute s u ∧ u.truss = s.truss)

/-- Every engine job checks its whole descriptor before it reads an input or writes anything: the first failing check of R170
and R202 is the code reported, counted and captured; and a descriptor address that is not aligned is not read.
Model's choices that it rests on: log 62, 67.
The conclusion is `exec … = .next t` (`Runs`) for: bfmPrecode, bfmCombine, detWMmse, detWIrc, detApply, fftFwdCp, fftInvCp,
fftFwd, fftInv, praDetect, lddDecode, ldeLdpcEnc, ldeTurboEnc, plrEncode, plrDecode, trbDecode, hqRmLdpc, hqRmTurbo,
hqDrmLdpc, hqDrmTurbo. -/
def Obligations.JobsAreCheckedFirst : Prop :=
  ∀ (s : State) (j : Job) (a : Fin 9) (b : Fin 7) (c : Fin 3) (d : Fin 13) (g : Fin 5),
    let jobs : List (Instr × Nat × Nat × Nat × (Job → Plan)) :=
      [(.bfmPrecode a, a.val, 1, 2, bfmPlan), (.bfmCombine a, a.val, 1, 2, bfmPlan),
       (.detWMmse a, 9 + a.val, 2, 3, detPlan), (.detWIrc a, 9 + a.val, 2, 3, detPlan), (.detApply a, 9 + a.val, 2, 3, detPlan),
       (.fftFwdCp b, 18 + b.val, 3, 4, fftPlan s), (.fftInvCp b, 18 + b.val, 3, 4, fftPlan s),
       (.fftFwd b, 18 + b.val, 3, 4, fftPlan s), (.fftInv b, 18 + b.val, 3, 4, fftPlan s),
       (.praDetect c, 25 + c.val, 4, 1, praPlan), (.lddDecode d, 28 + d.val, 5, 1, lddPlan),
       (.ldeLdpcEnc b, 41 + b.val, 6, 2, ldePlan), (.ldeTurboEnc b, 41 + b.val, 6, 2, ldePlan),
       (.plrEncode g, 48 + g.val, 7, 2, plrPlan), (.plrDecode g, 48 + g.val, 7, 2, plrPlan),
       (.trbDecode g, 53 + g.val, 8, 1, trbPlan), (.hqRmLdpc a, 58 + a.val, 9, 4, hqPlan), (.hqRmTurbo a, 58 + a.val, 9, 4, hqPlan),
       (.hqDrmLdpc a, 58 + a.val, 9, 4, hqPlan), (.hqDrmTurbo a, 58 + a.val, 9, 4, hqPlan)]
    let rejects (i : Instr) (e bay addr code : Nat) : Prop := Runs i s fun u =>
      (u.eng e).report = some .descriptor ∧ (u.eng e).task = (s.eng e).task ∧
      u.reg (MRT_DESC_ERR_CNT e) = min (s.reg (MRT_DESC_ERR_CNT e) + 1) 0xFFFFFFFF ∧
      (s.flag (hdr (engPage e) 0x1C) 31 = false → u.reg (hdr (engPage e) 0x1C) = 0x80000000 + bay % 8 * 0x8000000 + code ∧
        u.wide (hdr (engPage e) 0x20) = addr % 2 ^ 64) ∧
      u.flag (hdr (engPage e) 0x10) 0 = true ∧ u.truss = s.truss ∧ SamePages s u [engPage e] ∧ SameCompute s u
    ∀ x ∈ jobs, let (i, e, kind, ops, plan) := x
      (∀ (idx k : Nat) (f : Frame) (t : Task), (s.eng e).task = some idx → (s.eng e).report = none → s.engSt e = 3 →
        s.islandUp (16 + e) = true → s.taskAt idx = some (f, k, t) → t.job % 64 ≠ 0 → rejects i e f.bay t.job 0x13) ∧
      (s.JobOf e j →
        (j.f 0 39 32 ≠ kind ∨ j.f 0 47 40 ≠ 1 ∨ ops ≤ j.f 0 31 24 → rejects i e j.bay j.addr 0x10) ∧
        (j.f 0 39 32 = kind → j.f 0 47 40 = 1 → j.f 0 31 24 < ops → j.f 0 63 48 ≠ 0 ∨ (plan j).fields = false →
          rejects i e j.bay j.addr 0x11) ∧
        (∀ code, j.check kind ops (plan j) = code → code ≠ 0 → rejects i e j.bay j.addr code))

/-- Precoding, combining and applied detection are exact: every output part, what saturated, the cycles and the status block
(R172, R182 to R185, R191 to R193); a sum of 64 products stays within 38 bits.
The conclusion is `exec … = .next t` (`Runs`) for: bfmPrecode, bfmCombine, detApply. -/
def Obligations.BeamsAndDetectionAreExact : Prop :=
  ∀ (s : State) (e : Fin 9) (j : Job) (xs ws : List (List Byte)),
    let l := j.f 0 11 8 + 1
    let ants := j.f 0 21 16 + 1
    let n := j.f 1 44 32
    let gran := j.f 1 18 16
    let shift := j.f 0 4 0
    let groups := if gran = 5 then 1 else (n + 12 * 2 ^ gran - 1) / (12 * 2 ^ gran)
    let beam (i : Instr) (op sIn sOut : Nat) : Prop :=
      s.JobOf e.val j → j.check 1 2 (bfmPlan j) = 0 → j.f 0 31 24 = op → s.JobReads j 2 (4 * n) sIn xs →
      s.JobReads j 3 (4 * groups * ants * l) 1 ws →
      let w (g o x : Nat) : Int × Int :=
        (ciPart (ws.getD 0 []) ((g * sOut * sIn + o * sIn + x) * 4) false, ciPart (ws.getD 0 []) ((g * sOut * sIn + o * sIn + x) * 4) true)
      let acc (o k : Nat) : Int × Int := sumCi sIn (w (if gran = 5 then 0 else k / (12 * 2 ^ gran)) o)
        fun x => (ciPart (xs.getD x []) (4 * k) false, ciPart (xs.getD x []) (4 * k) true)
      let out (o k : Nat) : Int × Int := (rnd (acc o k).1 shift, rnd (acc o k).2 shift)
      Finishes i s j [2, 3, 4]
        (fun _ => (List.range sOut).map fun o => (j.stream 4 o, (List.range n).flatMap fun k => ci16 (out o k).1 (out o k).2))
        (((List.range sOut).map fun o => ((List.range n).map fun k => clips16 (out o k).1 + clips16 (out o k).2).sum).sum)
        (max ((n * ants * l + 511) / 512) (max (((4 * n * sIn + 4 * groups * ants * l) * 12 + 5119) / 5120)
          ((4 * n * sOut * 12 + 2559) / 2560))) groups []
    let dl := j.f 0 19 16 + 1
    let dr := j.f 0 15 12 + 1
    let size := 12 * 2 ^ j.f 0 9 8
    let dg := (n + size - 1) / size
    let symbols := j.f 1 3 0 + 1
    let exp (k : Nat) : Int := (BitVec.ofNat 8 (ofBytes ((ws.getD (k / size) []).take 1))).toInt
    let dacc (m y k : Nat) : Int × Int := sumCi dr
      (fun r => (ciPart (ws.getD (k / size) []) (4 + 4 * (y * dr + r)) false, ciPart (ws.getD (k / size) []) (4 + 4 * (y * dr + r)) true))
      fun r => (ciPart (xs.getD (m * dr + r) []) (4 * k) false, ciPart (xs.getD (m * dr + r) []) (4 * k) true)
    let dout (o k : Nat) : Int × Int :=
      (rnd (dacc (o / dl) (o % dl) k).1 (15 - exp k).toNat, rnd (dacc (o / dl) (o % dl) k).2 (15 - exp k).toNat)
    beam (.bfmPrecode e) 0 l ants ∧ beam (.bfmCombine e) 1 ants l ∧
    (∀ m : Nat, m ≤ 64 → ∀ g x : Nat → List Byte,
      let a := sumCi m (fun i => (ciPart (g i) 0 false, ciPart (g i) 0 true)) fun i => (ciPart (x i) 0 false, ciPart (x i) 0 true)
      a.1.natAbs ≤ 2 ^ 37 ∧ a.2.natAbs ≤ 2 ^ 37) ∧
    (s.JobOf (9 + e.val) j → j.check 2 3 (detPlan j) = 0 → j.f 0 31 24 = 2 → s.JobReads j 2 (4 * n) (dr * symbols) xs →
      s.JobReads j 3 (64 * ((4 + 4 * dr * dl + 63) / 64)) dg ws → (∀ k < n, exp k ≤ 15) →
      Finishes (.detApply e) s j []
        (fun _ => (List.range (dl * symbols)).map fun o => (j.stream 4 o, (List.range n).flatMap fun k => ci16 (dout o k).1 (dout o k).2))
        (((List.range (dl * symbols)).map fun o => ((List.range n).map fun k => clips16 (dout o k).1 + clips16 (dout o k).2).sum).sum)
        (symbols * ((n * dr * dl + 63) / 64 + 2 * dg) + 48) 0 [])

/-- Weight, transform and preamble jobs write outputs of the stated shape, with the stated cycles and status: the weights of one
layer on one stream and the transform of an impulse within the accuracy of their rules, prefixes that repeat their symbol's
end, and detections at or above T × ν; a covariance that is not positive definite gives zero weights (R172, R177, R178, R180,
R189, R190, R193, R196, R197, R199, R201).
Model's choices that it rests on: log 6, 63, 64, 65, 131.
The conclusion is `exec … = .next t` (`Runs`) for: detWMmse, detWIrc, fftFwdCp, fftInvCp, fftFwd, fftInv, praDetect. -/
def Obligations.SignalJobsWriteTheirOutputs : Prop :=
  ∀ (s : State) (e : Fin 9) (b : Fin 7) (c : Fin 3) (j : Job) (xs ns : List (List Byte)),
    let n := j.f 1 44 32
    let dl := j.f 0 19 16 + 1
    let dr := j.f 0 15 12 + 1
    let size := 12 * 2 ^ j.f 0 9 8
    let dg := (n + size - 1) / size
    let len := 64 * ((4 + 4 * dr * dl + 63) / 64)
    let m := max dr dl
    let per := if m ≤ 2 then 8 else if m ≤ 4 then 24 else if m ≤ 8 then 96 else 480
    let weights (i : Instr) (irc : Bool) : Prop :=
      s.JobOf (9 + e.val) j → j.check 2 3 (detPlan j) = 0 → j.f 0 31 24 = (if irc then 1 else 0) →
      s.JobReads j 2 (4 * dr * dl) dg xs → s.JobReads j 3 (if irc then 4 * dr * dr else 4 * dr) dg ns →
      let h (g : Nat) : Int × Int := (ciPart (xs.getD g []) 0 false, ciPart (xs.getD g []) 0 true)
      let v (g : Nat) : Nat := max 1 (ofBytes ((ns.getD g []).take 4))
      ∃ (exp : Nat → Int) (w sinr : Nat → List Byte),
        (irc = false → dl = 1 → dr = 1 → ∀ g < dg, h g ≠ (0, 0) →
          let p := (h g).1 ^ 2 + (h g).2 ^ 2
          let up : Int := 2 ^ (27 - exp g).toNat
          let er : Int := ciPart (w g) 0 false * p - (h g).1 * up
          let ei : Int := ciPart (w g) 0 true * p + (h g).2 * up
          (300000 * (er ^ 2 + ei ^ 2) ≤ p * up ^ 2 ∨ (er.natAbs ≤ 2 * p ∧ ei.natAbs ≤ 2 * p)) ∧
          ∃ r < 2, ofBytes (sinr g) = min 65535 (64 * p.toNat / v g + r)) ∧
        (∀ g < dg, -16 ≤ exp g ∧ exp g ≤ 15 ∧ (w g).length = 4 * dr * dl ∧ (sinr g).length = 2 * dl ∧
          (irc = true → positive (covariance dr (ns.getD g [])) = false →
            w g = List.replicate (4 * dr * dl) 0 ∧ sinr g = List.replicate (2 * dl) 0)) ∧
        Finishes i s j []
          (fun _ => (List.range dg).flatMap fun g =>
            [(j.stream 4 g, toBytes 4 (BitVec.ofInt 8 (exp g)).toNat ++ w g ++ List.replicate (len - 4 - 4 * dr * dl) 0),
             (j.stream 5 g, sinr g)]) 0 (dg * per + 64)
          (if irc then (List.range dg).countP fun g => !positive (covariance dr (ns.getD g [])) else 0) []
    let x := fftOf s j
    let cp (i : Nat) : Nat := x.cps.getD i 0 * x.n / 2048
    let time := ((List.range x.symbols).map fun i => x.n + cp i).sum + if x.op = 1 then x.win else 0
    let p := if x.n = 1536 ∨ x.n = 3072 then 12 else 16
    let fft (i : Instr) (op : Nat) : Prop :=
      let fwd := op % 2 = 0
      s.JobOf (18 + b.val) j → j.check 3 4 (fftPlan s j) = 0 → j.f 0 31 24 = op →
      s.JobReads j (if fwd then 2 else 3) (if fwd then 4 * time else 4 * x.nsc * x.symbols) x.streams xs →
      ∃ (out : Nat → List Byte) (exps : List (BitVec 8)) (sat : Nat),
        (∀ k < x.streams, (out k).length = 4 * (if fwd then x.nsc * x.symbols else time)) ∧ exps.length = x.symbols * x.streams ∧
        (∀ y ∈ exps, y.toNat ≤ 12) ∧ (x.block = false → ∀ y ∈ exps, y = 0) ∧
        (x.block = true → (∀ y ∈ exps, y.toNat < 12) → sat = 0) ∧
        (op = 1 → x.half = false → ∀ k < x.streams, ∀ m < x.symbols, ∀ i, x.win ≤ i → i < cp m →
          let at' := ((List.range m).map fun y => x.n + cp y).sum + i
          ((out k).drop (4 * at')).take 4 = ((out k).drop (4 * (at' + x.n))).take 4) ∧
        (op = 2 → x.block = false → ∀ k < x.streams, ∀ m < x.symbols,
          let y (i : Nat) : Int × Int := (ciPart (xs.getD k []) (4 * (x.n * m + i)) false, ciPart (xs.getD k []) (4 * (x.n * m + i)) true)
          (∀ i < x.n, 0 < i → y i = (0, 0)) → ∀ b < x.nsc,
            let z : Int × Int := (ciPart (out k) (4 * (x.nsc * m + b)) false, ciPart (out k) (4 * (x.nsc * m + b)) true)
            let er := z.1 * 2 ^ x.shift - (y 0).1
            let ei := z.2 * 2 ^ x.shift - (y 0).2
            31622777 * (er ^ 2 + ei ^ 2) ≤ (x.nsc : Int) * ((y 0).1 ^ 2 + (y 0).2 ^ 2) ∨
              ((z.1 - rnd (y 0).1 x.shift).natAbs ≤ 1 ∧ (z.2 - rnd (y 0).2 x.shift).natAbs ≤ 1)) ∧
        Finishes i s j []
          (fun _ => (List.range x.streams).map (fun k => (j.stream (if fwd then 3 else 2) k, out k)) ++
            if x.block then [(j.stream 5 0, exps)] else []) sat
          (x.streams * ((List.range x.symbols).map fun i => (x.n + p - 1) / p + (cp i + p - 1) / p + if x.block then 16 else 0).sum + 96)
          (x.symbols * x.streams + 2 ^ 32 * (exps.map BitVec.toNat).foldl max 0) []
    let q := praOf j
    weights (.detWMmse e) false ∧ weights (.detWIrc e) true ∧
    fft (.fftFwdCp b) 0 ∧ fft (.fftInvCp b) 1 ∧ fft (.fftFwd b) 2 ∧ fft (.fftInv b) 3 ∧
    (s.JobOf (25 + c.val) j → j.check 4 1 (praPlan j) = 0 → s.JobReads j 2 (4 * q.len) (q.ants * q.reps) xs →
      ∃ (found : List Nat) (recs : List (List Byte)) (noise dropped capt coll : Nat),
        found.length ≤ q.maxDet ∧ found.Pairwise (· < ·) ∧ recs.length = found.length ∧ noise < 2 ^ 32 ∧
        (0 < dropped → found.length = q.maxDet) ∧ dropped ≤ 64 ∧
        capt + coll ≤ found.length + dropped ∧
        (∃ (total scale : Nat) (power : Nat → Nat), noise = min 0xFFFFFFFF (total * scale / (q.n * q.roots * 2 ^ 160)) ∧
          ∀ k < found.length, let r := recs.getD k []
            q.t * total ≤ 256 * power k * q.n * q.roots ∧ bitsOf (wordAt r 0) 63 32 = min 0xFFFFFFFF (power k * scale / 2 ^ 160) ∧
            (0 < total → bitsOf (wordAt r 1) 15 0 = min 65535 (256 * power k * q.n * q.roots / total))) ∧
        (∀ k < found.length, let r := recs.getD k []
          r.length = 16 ∧ found.getD k 0 < 64 ∧ bitsOf (wordAt r 0) 5 0 = found.getD k 0 ∧ bitsOf (wordAt r 0) 31 16 < q.n ∧
          (bitOf (wordAt r 0) 9 = true → bitOf (wordAt r 0) 8 = false) ∧ bitsOf (wordAt r 1) 23 16 < q.roots) ∧
        Finishes (.praDetect c) s j []
          (fun cyc => [(j.stream 3 0, toBytes 8 (noise * 2 ^ 32 + dropped * 2 ^ 16 + found.length) ++ toBytes 8 (cyc % 2 ^ 32) ++
            toBytes 16 0 ++ recs.flatten)]) 0
          (q.ants * q.reps * q.roots * (q.n / 16 + 24) + q.ants * q.reps * ((q.len + 7) / 8) + 64 * q.roots + 128)
          (found.length + dropped * 2 ^ 16)
          [(MRT_PRA_CAPT_CNT (25 + c.val), capt), (MRT_PRA_COLL_CNT (25 + c.val), coll), (MRT_PRA_DET_CNT (25 + c.val), found.length)])

/-- Decoding and encoding jobs: records, iterations, CRC checks, the segmentation, the information bits and the first turbo
parity sent, cycles, status and counters (R205 to R221, R234, R235).
Model's choices that it rests on: log 63, 66, 114.
The conclusion is `exec … = .next t` (`Runs`) for: lddDecode, trbDecode, ldeLdpcEnc, ldeTurboEnc, plrEncode, plrDecode. -/
def Obligations.CodingJobsWriteTheirOutputs : Prop :=
  ∀ (s : State) (d : Fin 13) (b : Fin 7) (g : Fin 5) (j : Job) (xs : List (List Byte)) (s' : State),
    let packed (bits : List Nat) : List Byte := toBytes ((bits.length + 7) / 8) (joinLanes 1 bits)
    let rec' (unsat : Nat) (syn ok checked : Bool) (iters : Nat) : List Byte :=
      toBytes 8 (unsat * 2 ^ 48 + (if syn then 2 ^ 15 else 0) + (if ok then 2 ^ 14 else 0) + (if checked then 2 ^ 13 else 0) + iters)
    let k := lddOf j
    let kb := if k.bg2 then 10 else 22
    let t := trbOf j
    let a := j.f 1 20 0
    let bit (i : Nat) : Nat := if (BitVec.ofNat (8 * (xs.getD 0 []).length) (ofBytes (xs.getD 0 []))).getLsbD i then 1 else 0
    let e := j.f 1 45 32
    (s.JobOf (28 + d.val) j → j.check 5 1 (lddPlan j) = 0 → j.readSoft 2 ((kb - 2 + k.m) * k.z) (List.range k.c) s = (.ok xs, s') →
      ∃ (bits : Nat → List Nat) (unsat iters sat : Nat → Nat) (syn ok : Nat → Bool) (tbOk : Bool),
        let checked := k.crc ≠ 0
        let fails := (List.range k.c).countP fun r => (decide checked && !ok r) || (!decide checked && !syn r)
        let its := ((List.range k.c).map iters).sum
        let tb := decide (2 ≤ k.crc) || (decide (k.crc = 1) && k.tb)
        (∀ r < k.c, (bits r).length = (if k.crc = 1 then k.k' - 24 else k.k') ∧ (∀ x ∈ bits r, x < 2) ∧ 1 ≤ iters r ∧
          iters r ≤ k.maxIter ∧ unsat r ≤ 65535 ∧ (syn r = true ↔ unsat r = 0) ∧ (ok r = true → checked) ∧
          (2 ≤ k.crc → (ok r = true ↔ crcBits (if k.crc = 2 then 0 else 3) (bits r) = 0)) ∧
          (syn r = false → iters r = k.maxIter) ∧ (k.stop = true → checked → ok r = false → iters r = k.maxIter)) ∧
        (k.crc = 1 → (tbOk = true ↔ crcBits (if k.tbCrc then 3 else 0) ((List.range k.c).flatMap bits) = 0)) ∧
        (2 ≤ k.crc → tbOk = ok 0) ∧
        Finishes (.lddDecode d) s j []
          (fun _ => [(j.stream 3 0, packed ((List.range k.c).flatMap bits)),
            (j.stream 4 0, (List.range k.c).flatMap fun r => rec' (unsat r) (syn r) (ok r) (decide checked) (iters r))])
          ((List.range k.c).map sat).sum
          (((List.range k.c).map fun r => iters r * ((List.range k.m).map fun l => rowWeight k.bg2 l + 4).sum +
            ((kb - 2 + k.m) * k.z + 31) / 32 + 4).sum + 96)
          (its % 2 ^ 16 * 2 ^ 32 + fails * 2 ^ 16 + (if tb then 2 else 0) + if tb && tbOk then 1 else 0)
          [(MRT_LDD_CB_CNT (28 + d.val), k.c), (MRT_LDD_CB_FAIL_CNT (28 + d.val), fails), (MRT_LDD_ITER_CNT (28 + d.val), its),
           (MRT_LDD_MAXIT_CNT (28 + d.val), (List.range k.c).countP fun r => iters r == k.maxIter)]) ∧
    (s.JobOf (53 + g.val) j → j.check 8 1 (trbPlan j) = 0 → s.JobReads j 2 (64 + 3 * (t.kp + 4)) t.c xs →
      ∃ (bits : Nat → List Nat) (iters sat : Nat → Nat) (ok : Nat → Bool) (tbOk : Bool),
        let size (r : Nat) : Nat := if r < t.cm then turboBelow t.kp else t.kp
        let fails := (List.range t.c).countP fun r => !ok r
        let its := ((List.range t.c).map iters).sum
        let tb := t.tb && decide (1 < t.c)
        (∀ r < t.c, (bits r).length = size r - (if t.c = 1 then 0 else 24) - (if r = 0 then t.f else 0) ∧ (∀ x ∈ bits r, x < 2) ∧
          1 ≤ iters r ∧ iters r ≤ t.maxIter ∧ (t.stop = false → iters r = t.maxIter) ∧ (ok r = false → iters r = t.maxIter)) ∧
        (tbOk = true ↔ crcBits 0 ((List.range t.c).flatMap bits) = 0) ∧
        Finishes (.trbDecode g) s j []
          (fun _ => [(j.stream 3 0, packed ((List.range t.c).flatMap bits)),
            (j.stream 4 0, (List.range t.c).flatMap fun r => rec' 0 false (ok r) true (iters r))])
          ((List.range t.c).map sat).sum
          (((List.range t.c).map fun r => iters r * (2 * ((size r + 31) / 32) + 80) + (3 * (size r + 4) + 31) / 32 + 16).sum + 64)
          (its % 2 ^ 16 * 2 ^ 32 + fails * 2 ^ 16 + (if tb then 2 else 0) + if tb && tbOk then 1 else 0)
          [(MRT_TRB_CB_CNT (53 + g.val), t.c), (MRT_TRB_CB_FAIL_CNT (53 + g.val), fails), (MRT_TRB_ITER_CNT (53 + g.val), its),
           (MRT_TRB_MAXIT_CNT (53 + g.val), (List.range t.c).countP fun r => iters r == t.maxIter)]) ∧
    (∀ c k' z, s.JobOf (41 + b.val) j → j.check 6 2 (ldePlan j) = 0 → j.f 0 31 24 = 0 → s.JobReads j 2 ((a + 7) / 8) 1 xs →
      ldpcSegment (bitOf (j.w 0) 21) a = some (c, k', z) →
      let kc := if bitOf (j.w 0) 21 then 10 else 22
      let m := j.f 0 5 0
      let poly := if 3824 < a then 0 else 3
      let block := (List.range a).map bit ++ crcTail poly ((List.range a).map bit)
      let part (r : Nat) : List Nat := (block.drop (r * (if c = 1 then k' else k' - 24))).take (if c = 1 then k' else k' - 24)
      let info (r : Nat) : List Nat := if c = 1 then part r else part r ++ crcTail 1 (part r)
      ∃ parity : Nat → List Nat, (∀ r < c, (parity r).length = m * z) ∧
        Finishes (.ldeLdpcEnc b) s j []
          (fun _ => (List.range c).map fun r =>
            (j.stream 3 r, packed ((info r ++ List.replicate (kc * z - (info r).length) 0).drop (2 * z) ++ parity r)))
          0 (c * (2 * kc + 3 * m + 29) + 64) (c + z * 2 ^ 16 + k' * 2 ^ 32) [(MRT_LDE_CB_CNT (41 + b.val), c)]) ∧
    (∀ c kp cm f, s.JobOf (41 + b.val) j → j.check 6 2 (ldePlan j) = 0 → j.f 0 31 24 = 1 → s.JobReads j 2 ((a + 7) / 8) 1 xs →
      turboSegment (a + 24) = (c, kp, cm, f) →
      let size (r : Nat) : Nat := if r < cm then turboBelow kp else kp
      let crc := if c = 1 then 0 else 24
      let block := List.replicate f 0 ++ (List.range a).map bit ++ crcTail 0 ((List.range a).map bit)
      let part (r : Nat) : List Nat := (block.drop ((List.range r).map fun i => size i - crc).sum).take (size r - crc)
      let coded (r : Nat) : List Nat := if c = 1 then part r else part r ++ crcTail 1 (part r)
      ∃ tail d1 d2 : Nat → List Nat, (∀ r < c, (tail r).length = 4 ∧ (d1 r).length = size r + 4 ∧ (d2 r).length = size r + 4 ∧
          (r = 0 → (d1 r).take f = List.replicate f 0) ∧
          ∀ q : Nat → Nat, q 0 = 0 → q 1 = 0 → q 2 = 0 → (∀ i, q (i + 3) = ((coded r).getD i 0 + q (i + 1) + q i) % 2) →
            ∀ i < size r, (r = 0 → f ≤ i) → (d1 r)[i]? = some ((q (i + 3) + q (i + 2) + q i) % 2)) ∧
        Finishes (.ldeTurboEnc b) s j []
          (fun _ => (List.range c).map fun r => (j.stream 3 r, packed (coded r ++ tail r ++ d1 r ++ d2 r)))
          0 (((List.range c).map fun r => (size r + 39) / 40 + 2).sum + 64)
          (c + kp * 2 ^ 16 + cm % 128 * 2 ^ 32 + f % 64 * 2 ^ 40) [(MRT_LDE_CB_CNT (41 + b.val), c)]) ∧
    (let n := (plrShape false (j.f 1 10 0) e).2
     s.JobOf (48 + g.val) j → j.check 7 2 (plrPlan j) = 0 → j.f 0 31 24 = 0 → s.JobReads j 2 ((j.f 1 10 0 + 7) / 8) 1 xs →
      ∃ out : List Nat, out.length = e ∧ (∀ x ∈ out, x < 2) ∧
        Finishes (.plrEncode g) s j [] (fun _ => [(j.stream 3 0, packed out)]) 0 (n / 8 + (e + 63) / 64 + 16) (n * 2 ^ 32)
          [(MRT_PLR_ENC_CNT (48 + g.val), 1)]) ∧
    (let shape := plrShape true (j.f 1 10 0) e
     s.JobOf (48 + g.val) j → j.check 7 2 (plrPlan j) = 0 → j.f 0 31 24 = 1 → s.JobReads j 2 e 1 xs →
      ∃ (out : List Nat) (ok : Nat → Bool) (sat : Nat), out.length = j.f 1 10 0 ∧ (∀ x ∈ out, x < 2) ∧
        Finishes (.plrDecode g) s j [] (fun _ => [(j.stream 3 0, packed out)]) sat
          (shape.1 * (3 * shape.2 / 2 + (e / shape.1 + 63) / 64 + 24))
          (shape.2 % 1024 * 2 ^ 32 + (if shape.1 = 2 then 4 else 0) + ((List.range shape.1).map fun i => if ok i then 2 ^ i else 0).sum)
          [(MRT_PLR_DEC_CNT (48 + g.val), shape.1),
           (MRT_PLR_CRC_FAIL_CNT (48 + g.val), (List.range shape.1).countP fun i => !ok i)])

/-- Rate matching and dematching: the bits selected and scrambled; and the combined banks, spans, headers and feeds (R203,
R222, R226 to R229, R232, R235).
Model's choices that it rests on: log 63, 68, 69, 114.
The conclusion is `exec … = .next t` (`Runs`) for: hqRmLdpc, hqRmTurbo, hqDrmLdpc, hqDrmTurbo. -/
def Obligations.RateMatchingAndCombining : Prop :=
  ∀ (s s' : State) (e : Fin 9) (j : Job) (xs : List (List Byte)) (olds : List OldBank),
    let n := 58 + e.val
    let h := hqOf j
    let blocks := (List.range h.c).map fun i => h.r0 + i
    let total := (blocks.map h.bits).sum
    let before (r : Nat) : Nat := (((List.range (r - h.r0)).map fun i => h.r0 + i).map h.bits).sum
    let gold (x1 x2 : Nat → Bool) : Prop :=
      (∀ i, x1 (i + 31) = (x1 (i + 3) ^^ x1 i) ∧ x2 (i + 31) = ((x2 (i + 3) ^^ x2 (i + 2)) ^^ (x2 (i + 1) ^^ x2 i))) ∧
      ∀ i < 31, x1 i = decide (i = 0) ∧ x2 i = h.cInit.testBit i
    let start := ((List.range h.r0).map h.bits).sum
    let match' (i : Instr) (op : Nat) : Prop := ∀ x1 x2, gold x1 x2 →
      s.JobOf n j → j.check 9 4 (hqPlan j) = 0 → j.f 0 31 24 = op →
      s.JobReads j 3 (if op = 1 then (3 * (h.k + 4) + 7) / 8 else (h.ncbOf 0 + 7) / 8) h.c xs →
      ∃ out : BitVec total,
        (∀ r ∈ blocks, ∀ y < h.bits r, ∀ p, (h.map r).sel[y]? = some p →
          out.getLsbD (before r + y) =
            ((ofBytes (xs.getD (r - h.r0) [])).testBit (h.source r p) ^^
              (h.scr && (x1 (1600 + start + before r + y) ^^ x2 (1600 + start + before r + y))))) ∧
        Finishes i s j [] (fun _ => [(j.stream 4 0, toBytes ((total + 7) / 8) out.toNat)]) 0
          ((total + 127) / 128 + 16 * h.c + 64) h.c []
    let old (r p : Nat) : Int := match (olds.getD (r - h.r0) ⟨[], 0, 0, false⟩).llrs[p]? with
      | some b => max (-127) b.toInt
      | none => 0
    let combine (i : Instr) (op : Nat) : Prop := ∀ x1 x2, gold x1 x2 →
      s.JobOf n j → j.check 9 4 (hqPlan j) = 0 → j.f 0 31 24 = op → s.JobReads j 3 total 1 xs →
      j.oldBanks h h.blocks s = (.ok olds, s') →
      let soft (x : Nat) : Int :=
        let v := max (-127) ((xs.getD 0 []).getD x 0).toInt
        if h.scr && (x1 (1600 + start + x) ^^ x2 (1600 + start + x)) then -v else v
      let sum (r p : Nat) : Int := old r p +
        ((List.range (h.bits r)).map fun y => if (h.map r).sel[y]? = some p then soft (before r + y) else 0).sum
      let comb (r p : Nat) : Int := max (-127) (min 127 (sum r p))
      let unit := if op = 3 then 64 else h.zf
      let span (r : Nat) : Nat := min (h.ncbOf r) ((max (olds.getD (r - h.r0) ⟨[], 0, 0, false⟩).span (h.map r).stop + unit - 1) / unit * unit)
      let header (r : Nat) : List Byte := toBytes 8 (h.tag * 2 ^ 48 + span r) ++
        toBytes 8 (h.kOf r * 2 ^ 32 + (if op = 3 then 0 else h.zf * 2 ^ 16) + h.ncbOf r) ++
        toBytes 8 (min 255 ((olds.getD (r - h.r0) ⟨[], 0, 0, false⟩).count + 1)) ++ toBytes 40 0
      let bank (r : Nat) : List Byte := header r ++ ((List.range (span r)).map fun p => BitVec.ofInt 8 (comb r p)) ++
        List.replicate ((span r + 63) / 64 * 64 - span r) 0
      let miss := olds.countP OldBank.miss
      ∃ feed : Nat → List Byte,
        (op = 2 → ∀ r ∈ blocks, feed r = bank r) ∧
        (op = 3 → ∀ r ∈ blocks, (feed r).length = 64 + 3 * (h.kOf r + 4) ∧ (feed r).take 64 = header r ∧
          ∀ p < h.ncbOf r, ∀ i x, turboPos (h.kOf r) (h.fill r) p = some (i, x) →
            (feed r)[64 + i * (h.kOf r + 4) + x]? = some (BitVec.ofInt 8 (comb r p))) ∧
        Finishes i s j [4, 5]
          (fun _ => blocks.map (fun r => (j.stream 4 (r - h.r0), bank r)) ++
            if j.w 6 = 0 then [] else blocks.map fun r => (j.stream 6 (r - h.r0), feed r))
          ((blocks.map fun r => (List.range (h.ncbOf r)).countP fun p => decide (comb r p ≠ sum r p)).sum)
          ((total + 31) / 32 + (blocks.map fun r => (64 + (span r + 63) / 64 * 64) / 64).sum + 64)
          (miss * 2 ^ 16 + h.c) [(MRT_HQ_TAG_MISS_CNT n, miss)]
    match' (.hqRmLdpc e) 0 ∧ match' (.hqRmTurbo e) 1 ∧ combine (.hqDrmLdpc e) 2 ∧ combine (.hqDrmTurbo e) 3

/-! ## AIR and Tysar (09) -/

/-- A producer store starts the fetch of its entries, is rejected, or meets a channel that is off (R236, R238).
Model's choices that it rests on: log 71.
The conclusion is `exec … = .next t` (`Runs`) for: airProducerStore. -/
def Obligations.ProducerStoresFetchEntries : Prop :=
  ∀ (s : State) (r : Requester) (ch : CoreNo) (p : BitVec 32) (ent : Nat → List Byte),
    let c := ch.val
    let x := s.airCh c
    let ring := s.airRing c
    let f := s.airFetch c
    let n := sub32 p.toNat f
    let stored := s.memWrite (s.agent r) (ring + 1024) (toBytes 4 p.toNat)
    let word (i : Nat) : List Nat := (List.range 8).map (wordAt (ent ((f + i) % 16)))
    let reads (i : Nat) : Prop := (s.memRead (s.airAgent c) (ring + 64 * ((f + i) % 16)) 64).1 = .ok (ent ((f + i) % 16))
    let quiet (t : State) : Prop := SameBytesBut s t (inSpan (ring + 1024) 4) ∧ t.cores = s.cores ∧ t.truss = s.truss ∧
      SamePages s t ([0x3A0, 0x4000 * (c + 1) + 0x3A1] ++ memoryPages) ∧ ∀ d, d ≠ c → t.airCh d = s.airCh d
    s.NoErrors → ring + 2048 ≤ hostBase → stored.1 = true →
    (stored.2.memRead ⟨.truss, 0, true⟩ (ring + 1024) 4).1 = .ok (toBytes 4 p.toNat) →
    (∀ d < 72, d ≠ c → s.airOn d = true → s.airRing d ≠ ring) →
    (s.airOn c = true → n + x.jobs.length ≤ 16 → (∀ i < n, reads i) → Runs (.airProducerStore r ch p) s fun t =>
      t.airCh c = { x with prod := p, jobs := x.jobs ++ (List.range n).map word } ∧ t.airFetch c = p.toNat ∧ t.airOn c = true ∧
      quiet t) ∧
    (∀ k < n, s.airOn c = true → n + x.jobs.length ≤ 16 → (∀ i < k, reads i) →
      (∃ e, (s.memRead (s.airAgent c) (ring + 64 * ((f + k) % 16)) 64).1 = .error e) → Runs (.airProducerStore r ch p) s fun t =>
        t.airCh c = { x with prod := p, jobs := x.jobs ++ (List.range k).map word } ∧ t.airFetch c = add32 f k ∧
        t.airOn c = false ∧ t.flag (airReg c (AIR_CH_STAT 0)) 30 = true ∧ quiet t) ∧
    (s.airOn c = true → x.jobs.length ≤ 16 → 16 < n + x.jobs.length → Runs (.airProducerStore r ch p) s fun t =>
      t.airCh c = x ∧ t.airFetch c = f ∧ t.flag (airReg c (AIR_CH_STAT 0)) 29 = true ∧
      t.reg AIR_PROD_ERR_CNT = min (s.reg AIR_PROD_ERR_CNT + 1) 0xFFFFFFFF ∧ t.flag (hdr 0x3A0 0x10) 3 = true ∧ quiet t) ∧
    (s.airOn c = false → Runs (.airProducerStore r ch p) s fun t => t.air = s.air ∧ t.airFetch c = f ∧ quiet t)

/-- A job is stale, rejected, stopped by its map, or runs whole: MAP and DEMAP write every element in the order of R246
(R239, R241, R243 to R249, R251).
Model's choices that it rests on: log 70, 71, 72.
The conclusion is `exec … = .next t` (`Runs`) for: airMap, airDemap, airMeasure, airLoad. -/
def Obligations.AirMapsAndDemaps : Prop :=
  ∀ (s : State) (ch : CoreNo) (j : AirJob) (c : Nat → List Nat) (bs : List Byte) (pl sc : Nat → Nat → List Byte),
    let ops : List (Instr × Nat) := [(.airMap ch, 0), (.airDemap ch, 1), (.airMeasure ch, 2), (.airLoad ch, 3)]
    let ag := s.airAgent j.ch
    let syms := j.symbols
    let n := j.n
    let l := j.layers
    let near (i : Nat) : Prop := j.addr i < 0x7F0000000000
    let mapped : Prop := near 2 ∧ ∀ k < syms, s.MapCodes j k (c k) ∧ j.goodMap (c k)
    let total := ((j.order).map fun e => codeQm (reCode c e)).sum
    let bit (q : Nat) : Nat := ofBytes bs / 2 ^ (q - 8 * (j.start / 8)) % 2
    let level (i : Nat) : Int × Int :=
      let v := codeLevels (j.codeAt c i) ((List.range (codeQm (j.codeAt c i))).map fun m => bit (j.posAt c i + m))
      if j.turned c i then (-v.2, v.1) else v
    let part (i : Nat) (v : Int) : Int := rnd (v * ((s.airStep (j.codeAt c i) * j.gain : Nat) : Int)) 16
    let plane (w i : Nat) : Nat :=
      let e := j.order.getD i (0, 0, 0)
      j.addr w + (e.1 * l + e.2.2) * j.stride w + 4 * e.2.1
    let moved := (List.range j.order.length).filter fun i => j.codeAt c i != 15
    let group := 12 * 2 ^ j.f 0 15 14
    let value (i : Nat) : Int × Int :=
      let e := j.order.getD i (0, 0, 0)
      let b := pl e.1 e.2.2
      let y := (ciPart b (4 * e.2.1) false, ciPart b (4 * e.2.1) true)
      if j.turned c i then (y.2, -y.1) else y
    let scale (i : Nat) : Nat :=
      let e := j.order.getD i (0, 0, 0)
      if j.addr 5 = 0 then j.f 6 63 48 else ofBytes (((sc (e.2.1 / group) 0).drop (2 * e.2.2)).take 2)
    let llr (i m : Nat) : Int :=
      max (-127) (min 127 (rnd (codeDelta (j.codeAt c i) m (s.airStep (j.codeAt c i)) (value i) * ((scale i * j.gain : Nat) : Int)) 44))
    let few (k : Nat) : Nat := (c k).countP fun x => decide (1 ≤ x ∧ x ≤ 8 ∨ x = 13)
    let many (k : Nat) : Nat := (c k).countP fun x => decide (9 ≤ x ∧ x ≤ 12)
    s.AirJobOf j → j.ch = ch.val →
    (∀ x ∈ ops,
      (¬s.AirOwned j → Runs x.1 s fun t => (∃ k, AirEnds s t j 1 0 k) ∧ SameMemory s t) ∧
      (∀ code, s.AirOwned j → j.check = code → code ≠ 0 → Runs x.1 s fun t => (∃ k, AirEnds s t j code 0 k) ∧ SameMemory s t) ∧
      (∀ k < syms, s.AirOwned j → j.check = 0 → j.op = x.2 → near 2 →
        (∀ i < k, s.MapCodes j i (c i) ∧ j.goodMap (c i)) → s.MapCodes j k (c k) → ¬j.goodMap (c k) → Runs x.1 s fun t =>
          (∃ k, AirEnds s t j 0x12 0 k) ∧ SameBytesBut s t j.mayWrite)) ∧
    (j.f 0 47 40 ≠ 1 ∨ 3 < j.op → j.check = 0x10) ∧
    (j.f 0 47 40 = 1 → j.op ≤ 3 → j.f 0 63 48 ≠ 0 ∨ j.f 0 39 32 ≠ 0 ∨ j.f 0 3 0 ≠ 0 ∨ j.f 1 47 45 ≠ 0 ∨ j.f 6 47 28 ≠ 0 ∨
      n = 0 ∨ 4096 < n ∨ 13 < j.f 0 11 8 ∨ j.f 0 15 14 = 3 → j.check = 0x11) ∧
    (j.check = 0 → 1 ≤ n ∧ n ≤ 4096 ∧ l ≤ 8 ∧ j.addr 2 % 64 = 0 ∧ j.addr 4 % 64 = 0 ∧ (j.op = 1 → j.addr 5 % 64 = 0) ∧
      (j.op ≠ 0 → j.addr 3 % 64 = 0)) ∧
    (s.AirOwned j → j.check = 0 → j.op = 0 → mapped → near 3 →
      (s.memRead ag (j.addr 3 + j.start / 8) ((j.start % 8 + total + 7) / 8)).1 = .ok bs →
      AirDone (.airMap ch) s j
        (moved.map fun i => (plane 4 i, if j.codeAt c i = 0 then [0, 0, 0, 0]
          else toBytes 2 (clip16 (part i (level i).1)).toNat ++ toBytes 2 (clip16 (part i (level i).2)).toNat))
        (fun v => v = ((moved.filter fun i => j.codeAt c i != 0).map fun i =>
          clips16 (part i (level i).1) + clips16 (part i (level i).2)).sum)
        (syms * ((n * l + 47) / 48 + 8) + 48)) ∧
    (s.AirOwned j → j.check = 0 → j.op = 1 → mapped → near 3 → near 5 →
      (∀ a < syms, ∀ b < l, (s.memRead ag (j.addr 3 + (a * l + b) * j.stride 3) (4 * n)).1 = .ok (pl a b)) →
      (j.addr 5 ≠ 0 → ∀ g < (n + group - 1) / group, (s.memRead ag (j.addr 5 + g * j.stride 5) (2 * l)).1 = .ok (sc g 0)) →
      ∃ v : Nat → Int, (∀ i < j.order.length, ∀ m < codeQm (j.codeAt c i),
          let x := v (j.posAt c i + m)
          x ≤ 127 ∧ -127 ≤ x ∧ llr i m - 1 ≤ x ∧ x ≤ llr i m + 1 ∧ (scale i = 0 → x = 0)) ∧
        AirDone (.airDemap ch) s j ((List.range total).map fun q => (j.addr 4 + j.start + q, [BitVec.ofInt 8 (v (j.start + q))]))
          (fun sat => sat ≤ total)
          (((List.range syms).map fun k => ((2 * few k + 3 * many k) * l + 47) / 48 + 12).sum + 64))

/-- MEASURE adds the powers of the named or the nearest points to the array, and LOAD derives the loading from it (R250, R251).
Model's choices that it rests on: log 71, 72.
The conclusion is `exec … = .next t` (`Runs`) for: airMeasure, airLoad. -/
def Obligations.AirMeasuresAndLoads : Prop :=
  ∀ (s : State) (ch : CoreNo) (j : AirJob) (c : Nat → List Nat) (bs arr : List Byte) (pl : Nat → List Byte),
    let ag := s.airAgent j.ch
    let syms := j.symbols
    let n := j.n
    let near (i : Nat) : Prop := j.addr i < 0x7F0000000000
    let mapped : Prop := near 2 ∧ ∀ k < syms, s.MapCodes j k (c k) ∧ j.goodMap (c k)
    let total := ((j.order).map fun e => codeQm (reCode c e)).sum
    let code (k i : Nat) : Nat := (c k).getD i 0
    let measured (k i : Nat) : Bool := decide (1 ≤ code k i ∧ code k i ≤ 12)
    let y (k i : Nat) : Int × Int := (ciPart (pl k) (4 * i) false, ciPart (pl k) (4 * i) true)
    let far (k i : Nat) (p : Int × Int) : Int :=
      (16 * (y k i).1 - p.1 * s.airStep (code k i)) ^ 2 + (16 * (y k i).2 - p.2 * s.airStep (code k i)) ^ 2
    let named (k i : Nat) : Int × Int := codeLevels (code k i) ((List.range (codeQm (code k i))).map fun m =>
      ofBytes bs / 2 ^ (j.posAt c (k * n + i) + m - 8 * (j.start / 8)) % 2)
    let isPoint (k i : Nat) (p : Int × Int) : Prop := ∃ v < 2 ^ codeQm (code k i), p = codeLevels (code k i) (bitList (codeQm (code k i)) v)
    let old (i o : Nat) : Nat := ofBytes ((arr.drop (8 * i + o)).take 4)
    let add (o i : Nat) (d : Nat → Int) : Nat :=
      min 0xFFFFFFFF (old i o + ((List.range syms).map fun k => if measured k i then (d k).toNat else 0).sum)
    s.AirJobOf j → j.ch = ch.val → s.AirOwned j → j.check = 0 → mapped → near 3 →
    (j.op = 2 → near 4 → near 5 →
      (j.addr 5 ≠ 0 → (s.memRead ag (j.addr 5 + j.start / 8) ((j.start % 8 + total + 7) / 8)).1 = .ok bs) →
      (s.memRead ag (j.addr 4) (8 * n)).1 = .ok arr →
      (∀ k < syms, (s.memRead ag (j.addr 3 + k * j.stride 3) (4 * n)).1 = .ok (pl k)) →
      ∃ pt : Nat → Nat → Int × Int,
        (∀ k < syms, ∀ i < n, measured k i = true → if j.addr 5 ≠ 0 then pt k i = named k i else
          isPoint k i (pt k i) ∧ ∀ p, isPoint k i p → far k i (pt k i) ≤ far k i p) ∧
        AirDone (.airMeasure ch) s j
          [(j.addr 4, (List.range n).flatMap fun i =>
            toBytes 4 (add 0 i fun k => rnd ((((pt k i).1 * s.airStep (code k i)) ^ 2 + ((pt k i).2 * s.airStep (code k i)) ^ 2)) 16) ++
            toBytes 4 (add 4 i fun k => rnd (far k i (pt k i)) 16))]
          (fun v => v = 0) (syms * ((n + 15) / 16 + 12) + 64)) ∧
    (j.op = 3 → (s.memRead ag (j.addr 3) (8 * n)).1 = .ok arr →
      ∃ b : Nat → Nat,
        (∀ i < n, b i ≤ j.f 0 7 4 ∧ (code 0 i = 0 → b i = 0) ∧
          (code 0 i ≠ 0 → old i 4 = 0 → old i 0 ≠ 0 → b i = j.f 0 7 4) ∧ (old i 0 = 0 → old i 4 ≠ 0 → b i = 0) ∧
          (code 0 i ≠ 0 → old i 4 ≠ 0 → old i 0 ≠ 0 →
            (b i = 0 ∨ loadReaches (old i 0) (old i 4) (b i) j.gain (-8) = true) ∧
            ∀ x, b i < x → x ≤ j.f 0 7 4 → loadReaches (old i 0) (old i 4) x j.gain 8 = false)) ∧
        AirDone (.airLoad ch) s j [(j.addr 4, toBytes ((n + 1) / 2) ((List.range n).map fun i => b i * 16 ^ i).sum)]
          (fun v => v = 0) ((n + 7) / 8 + 64))

/-- Completions write word 7, purges complete every job of a channel, and a lane that fails is replaced by the spare (R240 to
R242, R268, R452).
Model's choices that it rests on: log 70, 72.
The conclusion is `exec … = .next t` (`Runs`) for: airJobComplete, airPurge, airLaneFault. -/
def Obligations.AirCompletesPurgesAndSwaps : Prop :=
  ∀ (s : State) (ch : CoreNo) (demap : Bool) (lane : Fin 3) (w : List Nat) (rest : List (List Nat)) (code sat cycles : Nat),
    let c := ch.val
    let x := s.airCh c
    let d := s.airDone c
    let at' (i : Nat) : Nat := s.airRing c + 64 * (add32 d i % 16) + 56
    let word := 2 ^ 63 + code * 2 ^ 56 + min sat 0xFFFF * 2 ^ 32 + cycles % 2 ^ 32
    let writes (cyc : Nat → Nat) : List (Nat × List Byte) :=
      (List.range x.jobs.length).map fun i => (at' i, toBytes 8 (2 ^ 63 + 2 * 2 ^ 56 + cyc i % 2 ^ 32))
    let okBit := (if demap then 4 else 0) + lane.val
    let spare := s.fld AIR_STAT (if demap then 22 else 18) (if demap then 20 else 16)
    let whole := s.fld AIR_STAT (if demap then 6 else 2) (if demap then 4 else 0) = 7
    let plt := [0x8, 0x9]
    (x.jobs = w :: rest → x.result = some (code, sat, cycles) → Runs (.airJobComplete ch) s fun t =>
      (∀ a, t.byte a = (s.put (s.airAgent c) (at' 0) (toBytes 8 word)).byte a) ∧
      t.airCh c = { x with jobs := rest, result := none } ∧ (∀ e, e ≠ c → t.airCh e = s.airCh e) ∧
      t.reg AIR_JOB_CNT = min (s.reg AIR_JOB_CNT + if code = 0 then 1 else 0) 0xFFFFFFFF ∧
      t.reg AIR_SAT_CNT = min (s.reg AIR_SAT_CNT + if code = 0 then sat else 0) 0xFFFFFFFF ∧
      t.reg AIR_STALE_CNT = min (s.reg AIR_STALE_CNT + if code = 1 then 1 else 0) 0xFFFFFFFF ∧
      t.reg AIR_ERR_CNT = min (s.reg AIR_ERR_CNT + if 0x10 ≤ code then 1 else 0) 0xFFFFFFFF ∧
      (0x10 ≤ code → t.flag (hdr 0x3A0 0x10) 0 = true) ∧ t.truss = s.truss ∧ t.cores = s.cores ∧
      SamePages s t (0x3A0 :: memoryPages)) ∧
    (x.result = none → Runs (.airJobComplete ch) s fun t => t.air = s.air ∧ SameRegs s t [] ∧ SameCompute s t) ∧
    (s.NoErrors → (∀ cyc, (s.putAll (s.airAgent c) (writes cyc)).1 = none) →
      Runs (.airPurge ch) s fun t =>
        (∃ cyc, ∀ a, t.byte a = ((s.putAll (s.airAgent c) (writes cyc)).2).byte a) ∧
        (t.airCh c).jobs = [] ∧ (x.jobs ≠ [] → (t.airCh c).result = none) ∧ (t.airCh c).prod = x.prod ∧
        t.airFetch c = x.prod.toNat ∧ (∀ e, e ≠ c → t.airCh e = s.airCh e) ∧
        t.reg AIR_PURGE_CNT = min (s.reg AIR_PURGE_CNT + 1) 0xFFFFFFFF ∧ t.truss = s.truss ∧ t.cores = s.cores ∧
        SamePages s t ([0x3A0, 0x4000 * (c + 1) + 0x3A1] ++ memoryPages)) ∧
    (s.flag AIR_STAT okBit = true → Runs (.airLaneFault demap lane) s fun t =>
      t.flag AIR_STAT okBit = false ∧ (∀ b, (b < 3 ∨ 4 ≤ b ∧ b < 7) → b ≠ okBit → t.flag AIR_STAT b = s.flag AIR_STAT b) ∧
      t.flag (hdr 0x3A0 0x10) 1 = true ∧ (whole → spare ≠ lane.val → t.flag (hdr 0x3A0 0x10) 2 = true) ∧
      (3, lane.val + if demap then 3 else 0) ∈ t.faults.failed ∧
      (∀ e, t.airCh e = s.airCh e ∨ ∃ k, t.airCh e = { s.airCh e with result := some (0x20, 0, k) }) ∧
      t.truss = s.truss ∧ SamePages s t (0x3A0 :: plt) ∧ SameCompute s t) ∧
    (s.flag AIR_STAT okBit = false → Runs (.airLaneFault demap lane) s fun t =>
      t.air = s.air ∧ t.faults = s.faults ∧ SameRegs s t [] ∧ SameCompute s t)

/-- A transmit record 400 µs before the frame, the frame's first symbols, the switch of loading tables, and the steps of joining
(R252 to R255, R260, R263, R265, R266).
Model's choices that it rests on: log 4, 73.
The conclusion is `exec … = .next t` (`Runs`) for: tysTxBuild, tysJoinStart, tysJoinAbort, tysJoinSend, tysJoinTimeout. -/
def Obligations.TysarSendsAndJoins : Prop :=
  ∀ (s : State) (l : LinkNo) (f v : BitVec 32) (r : Requester) (i : PageInfo),
    let k := l.val
    let u := s.untilTime (s.tysStart k f.toNat - 400000 * (nsUnit : Int))
    let p := u.tysPlanPeer k f.toNat
    let txv := TYS_PEER_TXV p
    let cur := if u.flag txv 31 then 1 - u.fld txv 16 16 else u.fld txv 16 16
    let version := if cur = 0 then u.fld txv 7 0 else u.fld txv 15 8
    let jl := s.fld TYS_JOIN_CTL 17 16
    let tries := (s.fld TYS_JOIN_STAT 15 8 + 1) % 256
    let bin (x : Nat) : Nat := (x + 2048) % 4096
    let built (t0 t : State) (k f adv : Nat) (w0 w1 w2 : Nat) : Prop :=
      let wide := t0.fld (TYS_LINK_CFG k) 29 28
      let band := if wide = 0 then 3300 else if wide = 1 then 1650 else 825
      let len := if wide = 0 then 823 else if wide = 1 then 409 else 199
      let low := 2048 - band / 2
      let crc := crc32c (toBytes 8 w0 ++ toBytes 8 w1 ++ toBytes 8 w2)
      ∃ (pre : List (Nat × Nat)) (hdr : List (Nat × Bool)),
        (.tysSymbols (Fin.ofNat 4 k) (BitVec.ofNat 32 f) (t0.fld (TYS_LINK_CFG k) 11 0) adv pre
          ((List.range 64).map fun m => bitOf (t0.wide TYS_SYNC_LO) m) hdr
          (55 - max 1 (min 4 (t0.fld (TYS_LINK_CFG k) 27 24)))) ∈ t.out ∧
        pre.length = len ∧
        (∀ n < len, pre[n]? = some (bin (low + 4 * n), t0.fld (TYS_LINK_PRE k) 9 0 * (n * (n + 1)) % (2 * len))) ∧
        hdr.length = band ∧
        ∀ n < band, let j := n % 224
          hdr[n]? = some (bin (low + n),
            if j < 64 then w0.testBit j else if j < 128 then w1.testBit (j - 64) else if j < 192 then w2.testBit (j - 128)
            else crc.testBit (j - 192))
    let sent (t0 t : State) (k f peer type dst adv ver addr tx : Nat) (echo : Nat) : Prop :=
      let x : Int := (t0.tysStart k f + kTime 308) * 6144 - ((adv * 12500 * nsUnit : Nat) : Int)
      (∃ q : Int, q * (1536 * nsUnit) ≤ x + 1536 * nsUnit ∧ x - 1536 * nsUnit ≤ q * (1536 * nsUnit) ∧
        (x % (1536 * nsUnit) = 0 → q * (1536 * nsUnit) = x) ∧
        tx = packStamp ((q + sgn 16 (t0.fld (TYS_LINK_CAL k) 31 16)) % ((2 ^ 18 * 4000000000 : Nat) : Int)).toNat) ∧
      (∀ a, t.byte a = (t0.put (t0.agent .tys) (t0.wide (TYS_LINK_TXREC_LO k) / 4096 * 4096 + 64 * (f % 64))
        (([f + ver % 256 * 2 ^ 32 + peer * 2 ^ 40 + type * 2 ^ 48, addr % 2 ^ 48,
          f % 256 * 2 ^ 32 + ver % 256 * 2 ^ 24 + type * 2 ^ 20 + dst * 2 ^ 10 + t0.fld RDG_NODE_ID 9 0, tx, echo].map
            (toBytes 8)).flatten)).byte a) ∧
      built t0 t k f adv (f % 256 * 2 ^ 32 + ver % 256 * 2 ^ 24 + type * 2 ^ 20 + dst * 2 ^ 10 + t0.fld RDG_NODE_ID 9 0) tx echo
    (s.tysOn k 0 = true → s.tysKind k f.toNat = 1 → Runs (.tysTxBuild l f) s fun t =>
      t.fld txv 16 16 = cur ∧ t.flag txv 31 = false ∧ t.fld txv 15 0 = u.fld txv 15 0 ∧
      (∃ tx echo, sent u t k f.toNat p 0 (u.fld (TYS_PEER_CFG p) 9 0) (u.fld (TYS_PEER_ADV p) 14 0) version
          (u.wide TYS_TAB_BASE_LO / 8192 * 8192 + 8192 * p + 2048 * cur) tx echo ∧
        (∀ q st, tget? u.tys.lastRx p = some (q, st) → echo = (q * 2 ^ 50 + st.toNat) % 2 ^ 58) ∧
        tget? t.tys.lastTx p = some (f.toNat % 256, BitVec.ofNat 50 tx)) ∧
      t.out.getLast? = some (.txFrameStart l f) ∧ t.truss = u.truss ∧ t.cores = u.cores) ∧
    (s.tysOn k 0 = false ∨ s.tysKind k f.toNat ≠ 1 → Runs (.tysTxBuild l f) s fun t =>
      t.tys = s.tys ∧ t.ridge = s.ridge ∧ t.out = s.out ∧ SameRegs s t [] ∧ SameCompute s t) ∧
    (s.Accepts r TYS_JOIN_CTL (v ||| 0x80000000).toNat i → v.getLsbD 30 = false → Runs (.tysJoinStart r v) s fun t =>
      t.tysJoinState = 1 ∧ t.fld TYS_JOIN_STAT 15 8 = 0 ∧ t.tys.joinLeft = 0 ∧ t.fld TYS_JOIN_CTL 7 0 = v.toNat % 256 ∧
      t.fld TYS_JOIN_CTL 17 16 = bitsOf v.toNat 17 16 ∧
      (s.tysJoinState ≠ 1 → t.flag (hdr 0x3B0 0x10) 3 = true) ∧ SamePages s t [0x3B0] ∧ SameCompute s t) ∧
    (s.Accepts r TYS_JOIN_CTL (v ||| 0x40000000).toNat i → v.getLsbD 31 = false → Runs (.tysJoinAbort r v) s fun t =>
      t.tysJoinState = 0 ∧ t.tys.joinLeft = 0 ∧ (s.tysJoinState ≠ 0 → t.flag (hdr 0x3B0 0x10) 3 = true) ∧
      SamePages s t [0x3B0] ∧ SameCompute s t) ∧
    (∀ g, s.tysJoinState = 1 → s.tysOn jl 0 = true → s.joinFrame jl = some g → Runs .tysJoinSend s fun t =>
      let u' := s.untilTime (s.tysStart jl g - 400000 * (nsUnit : Int))
      s.tysKind jl g = 3 ∧ t.tysJoinState = 2 ∧ t.flag (hdr 0x3B0 0x10) 3 = true ∧ t.tys.joinLeft = 0 ∧ t.tys.joinAt = g ∧
      (∃ peer ver addr tx echo, sent u' t jl g peer 1 0x3FF 0 ver addr tx echo) ∧
      .txFrameStart (Fin.ofNat 4 jl) (BitVec.ofNat 32 g) ∈ t.out ∧ .joinFrame (Fin.ofNat 4 jl) (BitVec.ofNat 32 g) ∈ t.out ∧
      t.tys.lastTx = s.tys.lastTx ∧ SamePages u' t (0x3B0 :: memoryPages) ∧ t.cores = s.cores) ∧
    (s.tysJoinState ≠ 1 ∨ s.tysOn jl 0 = false ∨ s.joinFrame jl = none → Runs .tysJoinSend s fun t =>
      t.tys = s.tys ∧ t.ridge = s.ridge ∧ t.out = s.out ∧ SameRegs s t [] ∧ SameCompute s t) ∧
    (s.tysJoinState = 2 → Runs .tysJoinTimeout s fun t =>
      let u' := s.untilTime (s.tysStart jl (s.tys.joinAt + 33))
      t.fld TYS_JOIN_STAT 15 8 = tries ∧ t.flag (hdr 0x3B0 0x10) 3 = true ∧
      (s.fld TYS_JOIN_CTL 7 0 ≤ tries → t.tysJoinState = 4) ∧
      (tries < s.fld TYS_JOIN_CTL 7 0 → t.tysJoinState = 1 ∧ t.tys.joinLeft < 2 ^ min tries 6) ∧
      SameRegs u' t [TYS_JOIN_STAT, hdr 0x3B0 0x10] ∧ SameCompute s t) ∧
    (s.tysJoinState ≠ 2 → Runs .tysJoinTimeout s fun t => t.tys = s.tys ∧ SameRegs s t [] ∧ SameCompute s t)

/-- Sync words, captures, headers, records, the events that wait for them, measured offsets and NR detections of a link (R254,
R256 to R259, R261, R263 to R267).
Model's choices that it rests on: log 73, 74, 130.
The conclusion is `exec … = .next t` (`Runs`) for: tysHeaderChecked, tysSyncRecognised, tysCapture, tysFrameEnd,
tysNrsDetect. -/
def Obligations.TysarReceivesAndMeasures : Prop :=
  ∀ (s : State) (l : LinkNo) (f cfo crc : BitVec 32) (w old : SyncWord) (nid : BitVec 2) (w0 w1 w2 : BitVec 64),
    let k := l.val
    let x := s.tysRx k
    let good := w.signErrors.toNat ≤ s.fld TYS_SYNC_CFG 21 16 ∧ s.fld TYS_SYNC_CFG 15 0 ≤ w.peakQ88.toNat
    let inWin : Prop := w.offset.toInt.natAbs * 1536 ≤ 16 * s.fld (TYS_LINK_WIN k) 3 0 * 12500
    let measured : Int := max (-24000000) (min 24000000 cfo.toInt)
    let same : Prop := w.sample = old.sample
    let louder (db : Nat) : Prop := old.rssi.toInt + ((4 * min 20 db : Nat) : Int) ≤ w.rssi.toInt
    let only (t : State) (regs : List Nat) : Prop := SameRegs s t regs ∧ SameCompute s t ∧ t.truss = s.truss
    let keeps (t : State) : Prop := ∀ m, m ≠ k → t.tysRx m = s.tysRx m
    let collided (t : State) : Prop := t.reg TYS_COLL_CNT = min (s.reg TYS_COLL_CNT + 1) 0xFFFFFFFF ∧ only t [TYS_COLL_CNT]
    let captured (t : State) : Prop :=
      t.reg TYS_CAPT_CNT = min (s.reg TYS_CAPT_CNT + 1) 0xFFFFFFFF ∧ t.flag (hdr 0x3B0 0x10) 2 = true
    let stamp (v : SyncWord) : Nat := packStamp (((((v.stampSec.toNat % 2 ^ 18 * 1000000000 + v.stampNs.toNat) * 4 +
      v.stampQuarter.toNat : Nat) : Int) - sgn 16 (s.fld (TYS_LINK_CAL k) 15 0)) % ((2 ^ 18 * 4000000000 : Nat) : Int)).toNat
    let record (hs fs capt n : Nat) (h : List Nat) (v : SyncWord) (c : BitVec 32) : List Byte :=
      (([hs * 2 ^ 60 + fs * 2 ^ 56 + capt * 2 ^ 48 + n] ++ h ++
        [stamp v, v.rssi.toNat * 2 ^ 48 + v.signErrors.toNat % 64 * 2 ^ 32 + c.toNat, v.offset.toNat * 2 ^ 32 + v.sampleIndex.toNat,
          0]).map (toBytes 8)).flatten
    let writes (t : State) (n : Nat) (b : List Byte) : Prop :=
      ∀ a, t.byte a = (s.put (s.agent .tys) (s.wide (TYS_LINK_RXREC_LO k) / 4096 * 4096 + 64 * (n % 64)) b).byte a
    let src := bitsOf w0.toNat 9 0
    let dst := bitsOf w0.toNat 19 10
    let type := bitsOf w0.toNat 23 20
    let peer := (List.range 64).find? fun p =>
      s.flag (TYS_PEER_CFG p) 31 && s.fld (TYS_PEER_CFG p) 29 28 == k && s.fld (TYS_PEER_CFG p) 9 0 == src
    let holds (p : Nat) : Prop :=
      let v := bitsOf w0.toNat 31 24
      let h := TYS_PEER_RXV p
      (s.flag h 16 = true ∧ s.fld h 7 0 = v) ∨ (s.flag h 17 = true ∧ s.fld h 15 8 = v)
    let bad := crc32c ([w0, w1, w2].flatMap fun b => toBytes 8 b.toNat) ≠ crc.toNat ∨ 2 < type
    let join := type = 1 ∧ s.tysKind k x.f.toNat = 3
    let mine := dst = 0x3FF ∨ dst = s.fld RDG_NODE_ID 9 0
    let header (st : Nat) (t : State) : Prop := ∃ hz : Int, (100 * hz - measured).natAbs < 100 ∧
      t.tysRx k = { x with header := some (w0, w1, w2), hdrStatus := st, cfo := BitVec.ofInt 32 hz } ∧ keeps t ∧
      t.cores = s.cores ∧ tget? t.tys.hdrDone k = some (x.f.toNat % 2 ^ 30) ∧ t.tys.finDone = s.tys.finDone ∧
      writes t x.f.toNat (record st 0 (bitNat x.capt) x.f.toNat [w0.toNat, w1.toNat, w2.toNat] old (BitVec.ofInt 32 hz))
    let counted (t : State) (c : Nat) : Prop := t.reg c = min (s.reg c + 1) 0xFFFFFFFF ∧
      SamePages s t (0x3B0 :: memoryPages) ∧ t.reg TYS_ACCEPT_CNT = s.reg TYS_ACCEPT_CNT
    let idle := s.girt.awaiting = []
    let checks := s.tysOn k 0 = true ∧ x.w = some old ∧ x.abandoned = false ∧ x.header = none ∧ idle
    let head := Runs (.tysHeaderChecked l w0 w1 w2 crc cfo) s
    (s.tysOn k 0 = true → 2 ≤ s.tysKind k f.toNat → good → inWin → x.w = none →
      Runs (.tysSyncRecognised l f w) s fun t =>
        t.tysRx k = ⟨f, some w, false, none, 0, 0, false⟩ ∧ keeps t ∧ only t []) ∧
    (¬good ∨ ¬inWin ∨ s.tysKind k f.toNat < 2 ∨ x.w ≠ none → Runs (.tysSyncRecognised l f w) s fun t => t.tys = s.tys ∧ only t []) ∧
    (¬good ∨ x.f ≠ f ∨ x.w = none → Runs (.tysCapture l f w) s fun t => t.tys = s.tys ∧ only t []) ∧
    (s.tysOn k 0 = true → good → x.f = f → x.w = some old → x.abandoned = true →
      (louder (s.fld TYS_CAPTURE_DB 4 0) → inWin → Runs (.tysCapture l f w) s fun t =>
        t.tysRx k = { x with w := some w, capt := true, header := none, hdrStatus := 0, abandoned := false } ∧ keeps t ∧ only t []) ∧
      (louder (s.fld TYS_CAPTURE_DB 4 0) → ¬inWin → Runs (.tysCapture l f w) s fun t => t.tysRx k = x ∧ keeps t ∧
        t.reg TYS_OFFGRID_CNT = min (s.reg TYS_OFFGRID_CNT + 1) 0xFFFFFFFF ∧ only t [TYS_OFFGRID_CNT])) ∧
    (s.tysOn k 0 = true → good → x.f = f → x.w = some old → x.abandoned = false →
      (¬same → louder (s.fld TYS_CAPTURE_DB 4 0) → inWin → Runs (.tysCapture l f w) s fun t =>
        t.tysRx k = { x with w := some w, capt := true, header := none, hdrStatus := 0 } ∧ captured t ∧ keeps t ∧
        only t [TYS_CAPT_CNT, hdr 0x3B0 0x10]) ∧
      (¬same → louder (s.fld TYS_CAPTURE_DB 4 0) → ¬inWin → Runs (.tysCapture l f w) s fun t =>
        t.tysRx k = { x with abandoned := true } ∧ captured t ∧ keeps t ∧
        t.reg TYS_OFFGRID_CNT = min (s.reg TYS_OFFGRID_CNT + 1) 0xFFFFFFFF ∧
        only t [TYS_CAPT_CNT, TYS_OFFGRID_CNT, hdr 0x3B0 0x10]) ∧
      (¬same → ¬louder (s.fld TYS_CAPTURE_DB 4 0) → Runs (.tysCapture l f w) s fun t => t.tys = s.tys ∧ collided t) ∧
      (same → Runs (.tysCapture l f w) s fun t => collided t ∧ keeps t ∧
        (old.rssi.toInt < w.rssi.toInt ∨ (w.rssi = old.rssi ∧ old.peakQ88.toNat < w.peakQ88.toNat) →
          t.tysRx k = { x with w := some w }) ∧
        (w.rssi.toInt < old.rssi.toInt ∨ (w.rssi = old.rssi ∧ w.peakQ88.toNat < old.peakQ88.toNat) → t.tysRx k = x) ∧
        (t.tysRx k = x ∨ t.tysRx k = { x with w := some w }))) ∧
    (checks → bad → head fun t => header 4 t ∧ counted t TYS_HDR_ERR_CNT ∧ t.flag (hdr 0x3B0 0x10) 1 = true) ∧
    (checks → ¬bad → join → head fun t => header 7 t ∧ SamePages s t memoryPages) ∧
    (checks → ¬bad → ¬join → peer = none → head fun t => header 2 t ∧ t.flag (hdr 0x3B0 0x10) 0 = true ∧
      t.reg (bank src TYS_STR_CNT) = min 0xFFFF (s.reg (bank src TYS_STR_CNT) + 1) ∧
      SamePages s t ([0x3B0, 0x4000 * (src + 1) + 0x3B0] ++ memoryPages)) ∧
    (∀ p, checks → ¬bad → ¬join → peer = some p →
      (¬mine → head fun t => header 6 t ∧ counted t TYS_NOT_MINE_CNT) ∧
      (mine → ¬holds p → head fun t => header 5 t ∧ counted t TYS_VER_MISS_CNT ∧ t.flag (hdr 0x3B0 0x10) 5 = true) ∧
      (mine → holds p → head fun t =>
        let used := ((measured :: tget s.tys.foff p []).take 64).take (max 1 (min 64 (s.fld TYS_FREQ_CFG 5 0)))
        let khz : Int := s.reg (TYS_LINK_RF k)
        let num : Int := -(used.sum * 10000000)
        let den : Int := used.length * khz
        header 1 t ∧ t.reg TYS_ACCEPT_CNT = min (s.reg TYS_ACCEPT_CNT + 1) 0xFFFFFFFF ∧ t.reg (TYS_PEER_RSSI p) = old.rssi.toNat ∧
        tget? t.tys.lastVer p = some (bitsOf w0.toNat 31 24) ∧
        tget? t.tys.lastRx p = some (bitsOf w0.toNat 39 32, BitVec.ofNat 50 (stamp old)) ∧
        (0 < khz → ∃ q : Int, t.reg (TYS_PEER_FOFF p) = wrap 32 q ∧ num - den ≤ q * den ∧ q * den ≤ num + den ∧
          (num % den = 0 → q * den = num)) ∧
        let since := (x.f.toNat + 2 ^ 30 - s.tys.joinAt % 2 ^ 30) % 2 ^ 30
        (type = 2 → dst = s.fld RDG_NODE_ID 9 0 → s.tysJoinState = 2 → s.fld TYS_JOIN_CTL 17 16 = k → 1 ≤ since → since ≤ 32 →
          t.tysJoinState = 3 ∧ t.fld TYS_JOIN_STAT 25 16 = src) ∧
        (∀ q t3, tget? s.tys.lastTx p = some (q, t3) →
          (q = bitsOf w2.toNat 57 50 →
            let a := stampDiff (unpackStamp (stamp old)) (unpackStamp w1.toNat)
            let b := stampDiff (unpackStamp w2.toNat) (unpackStamp t3.toNat)
            t.flag (hdr 0x3B0 0x10) 4 = true ∧
            (∃ e : Int, t.reg (TYS_PEER_THETA p) = wrap 32 e ∧ a - b - 1 ≤ 2 * e ∧ 2 * e ≤ a - b + 1) ∧
            ∃ e : Int, t.reg (TYS_PEER_DELTA p) = wrap 32 e ∧ a + b - 1 ≤ 2 * e ∧ 2 * e ≤ a + b + 1) ∧
          (q ≠ bitsOf w2.toNat 57 50 → t.reg (TYS_PEER_THETA p) = s.reg (TYS_PEER_THETA p) ∧
            t.reg (TYS_PEER_DELTA p) = s.reg (TYS_PEER_DELTA p))))) ∧
    (∀ fg slot, s.tysOn k 0 = true → x.w = some old → x.abandoned = false → x.header = none →
      s.girt.awaiting = [(fg, slot, 2)] → s.tysFlow fg = some l → slot % 4 = 0 → slot / 4 = x.f.toNat % 2 ^ 30 →
      head fun t => t.girt.awaiting = []) ∧
    (idle → s.tysOn k 0 = true → x.w = some old → Runs (.tysFrameEnd l) s fun t =>
      let h := x.header.getD (0, 0, 0)
      t.tysRx k = ⟨x.f, none, false, none, 0, 0, false⟩ ∧ keeps t ∧ t.cores = s.cores ∧ SamePages s t memoryPages ∧
      tget? t.tys.hdrDone k = some (x.f.toNat % 2 ^ 30) ∧ tget? t.tys.finDone k = some (x.f.toNat % 2 ^ 30) ∧
      writes t x.f.toNat (record x.hdrStatus (if x.abandoned then 3 else x.hdrStatus) (bitNat x.capt) x.f.toNat
        [h.1.toNat, h.2.1.toNat, h.2.2.toNat] old x.cfo)) ∧
    (idle → s.tysOn k 0 = true → x.w = none → 2 ≤ s.tysKind k (s.tysFrame k) → Runs (.tysFrameEnd l) s fun t =>
      ∃ b : List Byte, b.length = 56 ∧ writes t (s.tysFrame k) (toBytes 8 (s.tysFrame k) ++ b) ∧ t.tys.rx = s.tys.rx ∧
        tget? t.tys.finDone k = some (s.tysFrame k % 2 ^ 30) ∧
        SamePages s t memoryPages ∧ t.cores = s.cores) ∧
    (s.tysOn k 1 = true →
      let seen (g : BitVec 32) (capt : Bool) (t : State) : Prop := ∃ hz : Int, (100 * hz - measured).natAbs < 100 ∧
        t.tysRx k = ⟨g, some w, capt, none, 0, BitVec.ofInt 32 hz, false⟩ ∧ keeps t ∧ t.cores = s.cores ∧
        writes t g.toNat (record 0 0 (bitNat capt) nid.toNat [0, 0, 0] w (BitVec.ofInt 32 hz))
      let detects := Runs (.tysNrsDetect l f nid w cfo) s
      let apart := 16 * (s.shape (s.tysCarrier k)).len ≤ (w.sample - old.sample).toInt.natAbs
      let strong := louder (s.fld TYS_NRS_CAPTURE_DB 4 0)
      (x.w = none ∨ (x.w = some old ∧ apart) → inWin → detects fun t => seen f false t ∧ SamePages s t memoryPages) ∧
      (x.w = none ∨ (x.w = some old ∧ apart) → ¬inWin → detects fun t => t.tys = s.tys ∧ only t []) ∧
      (x.w = some old → x.abandoned = false → ¬apart → ¬same → strong → inWin → detects fun t => seen x.f true t ∧ captured t) ∧
      (x.w = some old → x.abandoned = false → ¬apart → ¬same → strong → ¬inWin → detects fun t =>
        t.tysRx k = { x with abandoned := true } ∧ captured t ∧ keeps t ∧
        t.reg TYS_OFFGRID_CNT = min (s.reg TYS_OFFGRID_CNT + 1) 0xFFFFFFFF ∧
        only t [TYS_CAPT_CNT, TYS_OFFGRID_CNT, hdr 0x3B0 0x10]) ∧
      (x.w = some old → ¬apart → ¬same → ¬strong → detects fun t => t.tys = s.tys ∧ collided t) ∧
      (x.w = some old → x.abandoned = false → ¬apart → same → detects fun t =>
        t.reg TYS_COLL_CNT = min (s.reg TYS_COLL_CNT + 1) 0xFFFFFFFF ∧ keeps t ∧
        (w.rssi.toInt < old.rssi.toInt ∨ (w.rssi = old.rssi ∧ w.peakQ88.toNat < old.peakQ88.toNat) → t.tysRx k = x) ∧
        (old.rssi.toInt < w.rssi.toInt ∨ (w.rssi = old.rssi ∧ old.peakQ88.toNat < w.peakQ88.toNat) → seen x.f x.capt t)))

/-! ## Loft and the check bits (10) -/

/-- The code of R274 and R275: every single-bit error in a byte is corrected, every double-bit error is detected, and more can
be taken for one that is not there (R278). -/
def Obligations.CheckBitsCorrectOneDetectTwo : Prop :=
  (∀ (b : Byte) (i : Fin 13), eccDecode b (BitVec.ofNat 13 (2 ^ i.val)) = .corrected b i.val) ∧
  (∀ (b : Byte) (i j : Fin 13), i ≠ j → eccDecode b (BitVec.ofNat 13 (2 ^ i.val + 2 ^ j.val)) = .bad) ∧
  (∀ (b : Byte), eccDecode b 0 = .ok b) ∧
  ∃ (b v : Byte) (m : BitVec 13) (i : Nat), (List.range 13).countP (fun k => m.getLsbD k) ≥ 3 ∧
    eccDecode b m = .corrected v i ∧ v ≠ b

/-- Windows, the scrubber's reads and write-backs, verify reads and the end of a wipe (R271, R276 to R281, R283 to R285, R291).
Model's choices that it rests on: log 4, 75, 77, 92, 129.
The conclusion is `exec … = .next t` (`Runs`) for: lftWinWrite, scrubRead, scrubWriteback, verifyRead, wipeDone. -/
def Obligations.MemoryIsDividedAndScrubbed : Prop :=
  ∀ (s : State) (r : Requester) (n : Fin 64) (size : Bool) (v : BitVec 32) (p : PageInfo) (m : MemId) (g : Fin 10) (k : Nat)
    (e : BitVec 13) (i : Fin 13) (w : Nat) (skip : List Nat) (rest : List (Nat × Nat × List Nat)),
    let a := if size then LFT_WIN_SIZE n.val else LFT_WIN n.val
    let z := memNo m
    let lo := memFirst z + scrubLen z * tget s.loft.walker z 0
    let last := memBytes z ≤ scrubLen z * (tget s.loft.walker z 0 + 1)
    let grp := memGroup z
    let quiet (t : State) (regs : List Nat) : Prop := SameRegs s t regs ∧ SameCompute s t ∧ t.truss = s.truss
    let moved (t : State) : Prop := tget? t.loft.walker z = some (tget s.loft.walker z 0 + 1)
    let us := min 0xFFFFFFFF ((s.ridge.ticks - s.loft.lapStart.getD grp 0) / 1000)
    let held (x : Nat) : List Shim := tget s.loft.shims x []
    (s.Accepts r a v.toNat p → Runs (.lftWinWrite r n size v) s fun t =>
      let on (x : Nat) : Bool := t.flag (LFT_WIN x) 31
      let base (x : Nat) : Nat := t.fld (LFT_WIN x) 9 0
      let len (x : Nat) : Nat := t.fld (LFT_WIN_SIZE x) 9 0
      let space (x : Nat) : Nat := t.fld (LFT_WIN x) 30 30
      (size = false → t.fld a 9 0 = bitsOf v.toNat 9 0 ∧ t.fld a 26 24 = bitsOf v.toNat 26 24 ∧ t.fld a 31 30 = bitsOf v.toNat 31 30) ∧
      (size = true → len n.val = bitsOf v.toNat 9 0 ∧ len n.val ≤ 768) ∧
      (on n.val = true → 0 < len n.val ∧ base n.val + len n.val ≤ (if space n.val = 0 then 768 else 192) ∧
        (∀ x < 64, x ≠ n.val → on x = true → space x = space n.val → base n.val + len n.val ≤ base x ∨ base x + len x ≤ base n.val) ∧
        (s.flag (LFT_WIN n.val) 31 = true → t.fld (LFT_WIN n.val) 30 0 = s.fld (LFT_WIN n.val) 30 0 ∧
          len n.val = s.fld (LFT_WIN_SIZE n.val) 9 0)) ∧
      quiet t [a, hdr 0x180 0x2C]) ∧
    (s.walks z = false → Runs (.scrubRead m) s fun t => t.loft = s.loft ∧ quiet t []) ∧
    (s.walks z = true → s.NoErrors → ¬last → Runs (.scrubRead m) s fun t =>
      moved t ∧ t.loft.repair = s.loft.repair ∧ quiet t []) ∧
    (s.walks z = true → s.NoErrors → last → (∀ x ∈ groupMems grp, x ≠ z → x ∈ s.loft.lapDone.getD grp []) →
      Runs (.scrubRead m) s fun t =>
        tget? t.loft.walker z = none ∧ t.loft.lapDone.getD grp [] = [] ∧ t.loft.lapStart.getD grp 0 = s.ridge.ticks ∧
        t.reg (PLN_LAST grp) = us ∧ t.reg (PLN_WORST grp) = max (s.reg (PLN_WORST grp)) us ∧
        t.reg (PLN_LAPS grp) = min (s.reg (PLN_LAPS grp) + 1) 0xFFFFFFFF ∧
        (1000 * s.reg (PLN_LAP_LIMIT grp) < s.ridge.ticks - s.loft.lapStart.getD grp 0 →
          t.flag PLN_STAT grp = true ∧ t.flag (hdr 0x188 0x10) 0 = true) ∧
        quiet t [PLN_LAST grp, PLN_WORST grp, PLN_LAPS grp, PLN_STAT, hdr 0x188 0x10]) ∧
    (s.walks z = true → z < 256 → s.sramErr = [(k, e)] → lo ≤ k → k < lo + scrubLen z → ¬last →
      (e = BitVec.ofNat 13 (2 ^ i.val) → tget s.loft.trackers z [] = [] → Runs (.scrubRead m) s fun t =>
        moved t ∧ t.sramErr = s.sramErr ∧ (∃ x ∈ t.loft.writeback.getD grp [], x.1 = z ∧ x.2.1 = (k - memFirst z) / 16) ∧
        tget t.loft.trackers z [] = [⟨(k - memFirst z) / 16, k % 16, i.val, 1⟩] ∧ quiet t []) ∧
      (eccDecode (s.byte k) e = .bad → Runs (.scrubRead m) s fun t =>
        moved t ∧ t.sramErr = s.sramErr ∧ k / 16 * 16 ∈ t.loft.suspect ∧ t.flag (hdr 0x188 0x10) 2 = true ∧
        t.reg PLN_UE_CNT = min (s.reg PLN_UE_CNT + 1) 0xFFFFFFFF ∧ quiet t [PLN_UE_CNT, hdr 0x188 0x10])) ∧
    (s.loft.writeback.getD g.val [] = (z, w, skip) :: rest ∨
        (s.loft.writeback.getD g.val [] = [] ∧ s.loft.repair.getD g.val [] = (z, w, skip) :: rest) → z < 256 →
      Runs (.scrubWriteback g) s fun t =>
        t.reg PLN_REPAIR_CNT = min (s.reg PLN_REPAIR_CNT + 1) 0xFFFFFFFF ∧ SameRegs s t [PLN_REPAIR_CNT] ∧
        SameBytesBut s t (fun _ => False) ∧ t.cores = s.cores ∧
        ∀ b < 16, let x := memFirst z + 16 * w + b
          (∀ j : Fin 13, tget? s.sramErr x = some (BitVec.ofNat 13 (2 ^ j.val)) →
            tget? t.sramErr x = if x ∈ skip then tget? s.sramErr x else none) ∧
          (∀ y, tget? s.sramErr x = some y → eccDecode (s.byte x) y = .bad → tget? t.sramErr x = some y)) ∧
    (s.loft.writeback.getD g.val [] = [] → s.loft.repair.getD g.val [] = [] → Runs (.scrubWriteback g) s fun t =>
      t.loft = s.loft ∧ quiet t []) ∧
    (z < 256 → (s.loft.verify.find? fun x => sramNo x == z) = some w → sramNo w = z → memFirst z ≤ w → w % 16 = 0 →
      (s.sramErr = [] → Runs (.verifyRead m) s fun t =>
        w ∉ t.loft.verify ∧ t.loft.shims = s.loft.shims ∧ quiet t []) ∧
      (s.sramErr = [(w, e)] → eccDecode (s.byte w) e = .bad → (held z).length < spares z → Runs (.verifyRead m) s fun t =>
        tget t.loft.shims z [] = held z ++ [⟨(w - memFirst z) / 16, 3⟩] ∧
        (z < 60 → t.fld (LFT_BANK_STAT z) 27 24 = (held z).length + 1) ∧
        t.reg SHM_PROMO_CNT = min (s.reg SHM_PROMO_CNT + 1) 0xFFFFFFFF ∧ t.flag (hdr 0x190 0x10) 0 = true ∧
        t.sramErr = s.sramErr ∧ SameCompute s t) ∧
      (s.sramErr = [(w, e)] → eccDecode (s.byte w) e = .bad → spares z ≤ (held z).length → Runs (.verifyRead m) s fun t =>
        t.loft.shims = s.loft.shims ∧ (z < 60 → t.flag (LFT_BANK_STAT z) 20 = true) ∧ t.flag (hdr 0x190 0x10) 1 = true ∧
        t.reg SHM_FULL_CNT = min (s.reg SHM_FULL_CNT + 1) 0xFFFFFFFF ∧
        (z ∉ s.loft.failing → t.reg PLT_FLT_HEAD = (s.reg PLT_FLT_HEAD + 1) % 2 ^ 32) ∧ SameCompute s t)) ∧
    Runs (.wipeDone m) s fun t =>
      (∀ x ∈ t.loft.wiping, memAt x.1 ≠ z) ∧ (∀ x ∈ s.loft.wiping, memAt x.1 ≠ z → x ∈ t.loft.wiping) ∧ quiet t []

/-! ## The DRAM controller (11) -/

/-- DRAM windows and keep masks, and who writes them (R297, R313).
Model's choices that it rests on: log 92.
The conclusion is `exec … = .next t` (`Runs`) for: drcWinWrite, srKeepWrite. -/
def Obligations.DramIsDividedAndKept : Prop :=
  ∀ (s : State) (r : Requester) (n : Fin 32) (size : Bool) (v : BitVec 32) (h : Fin 2) (p : PageInfo),
    let a := if size then DRC_WIN_SIZE n.val else DRC_WIN n.val
    let pieces := 8 * s.dram.ranks
    let apart (base len x q : Nat) : Prop :=
      let lo := x * (s.dramU / 2) + q * (s.dramU / (2 * pieces))
      lo + s.dramU / (2 * pieces) ≤ base * 0x1000000 ∨ (base + len) * 0x1000000 ≤ lo
    let on (u : State) (x : Nat) : Bool := u.flag (DRC_WIN x) 31
    let pinned (u : State) (x : Nat) : Bool := u.flag (DRC_WIN x) 31 && u.flag (DRC_WIN x) 30
    let base (u : State) (x : Nat) : Nat := u.fld (DRC_WIN x) 11 0
    let len (u : State) (x : Nat) : Nat := u.fld (DRC_WIN_SIZE x) 12 0
    let counted (t : State) : Prop :=
      t.reg DRC_SR_REFUSE_CNT = min (s.reg DRC_SR_REFUSE_CNT + 1) 0xFFFFFFFF ∧ t.flag (hdr 0x1C0 0x10) 3 = true ∧
      SameRegs s t [DRC_SR_REFUSE_CNT, hdr 0x1C0 0x10, SCB_REFUSE_CNT (s.bayOf r)] ∧ SameCompute s t
    s.dram.ranks = 1 ∨ s.dram.ranks = 2 →
    (s.Accepts r a v.toNat p → Runs (.drcWinWrite r n size v) s fun t =>
      let x := n.val
      (size = false → t.fld a 31 29 = bitsOf v.toNat 31 29 ∧ t.fld a 26 24 = bitsOf v.toNat 26 24 ∧ t.fld a 11 0 = bitsOf v.toNat 11 0) ∧
      (size = true → len t x = bitsOf v.toNat 12 0 ∧ len t x ≤ 4096) ∧
      (isPlate r = false → t.flag (DRC_WIN x) 29 = false ∧ s.flag (DRC_WIN x) 29 = false) ∧
      (on t x = true → 0 < len t x ∧ (base t x + len t x) * 0x1000000 ≤ s.dramU ∧
        (∀ y < 32, y ≠ x → on t y = true → base t x + len t x ≤ base t y ∨ base t y + len t y ≤ base t x) ∧
        (on s x = true → t.fld (DRC_WIN x) 30 24 = s.fld (DRC_WIN x) 30 24 ∧ base t x = base s x ∧ len t x = len s x)) ∧
      (pinned t x = true → pinned s x = false → ∀ y < 2, ∀ q < pieces, t.flag (DRC_SR_KEEP y) q = false → apart (base t x) (len t x) y q) ∧
      SameRegs s t [a, hdr 0x1C0 0x2C] ∧ SameCompute s t) ∧
    (s.Offered r (DRC_WIN n.val) p → v.getLsbD 31 = true → v.getLsbD 30 = true → pinned s n.val = false →
      (∃ y < 2, ∃ q < pieces, s.flag (DRC_SR_KEEP y) q = false ∧ ¬apart (bitsOf v.toNat 11 0) (len s n.val) y q) →
      Runs (.drcWinWrite r n false v) s counted) ∧
    (s.Accepts r (DRC_SR_KEEP h.val) v.toNat p → Runs (.srKeepWrite r h v) s fun t =>
      t.fld (DRC_SR_KEEP h.val) 15 0 = bitsOf v.toNat 15 0 ∧
      (∀ q < pieces, v.getLsbD q = false → ∀ x < 32, pinned s x = true → apart (base s x) (len s x) h.val q) ∧
      SameRegs s t [DRC_SR_KEEP h.val, hdr 0x1C0 0x2C] ∧ SameCompute s t) ∧
    (s.Offered r (DRC_SR_KEEP h.val) p → (∃ q < pieces, v.getLsbD q = false ∧ ∃ x < 32, pinned s x = true ∧
        ¬apart (base s x) (len s x) h.val q) → Runs (.srKeepWrite r h v) s counted)

/-- A DRAM request is refused, answered with an error, queued or held; reads return the data they were accepted with; write
batches start and end (R298, R300 to R302, R304 to R308, R315). Refreshes, temperature codes, retraining and failed channels
(R309, R311, R315).
Model's choices that it rests on: log 78, 79, 80, 81, 82.
The conclusion is `exec … = .next t` (`Runs`) for: dramRequest, dramReadReturn, writeBatchStart, readAgeExpiry, dramRefresh,
dramTempRead, dramRetrain, channelFailed. -/
def Obligations.DramServesRequestsAndFails : Prop :=
  (∀ (s : State) (r : Requester) (addr : BitVec 48) (len : BitVec 7) (data : BitVec 512) (ch : ChanNo) (e : DramEntry) (i j : Fin 72),
     let a := addr.toNat
     let o := a - dramBase
     let n := len.toNat
     let c := (s.dramMap o).2.1
     let bank := (s.bankRow o).1
     let ag := s.agent r
     let inside := dramBase ≤ a ∧ a + n ≤ dramBase + s.dramU ∧ 1 ≤ n ∧ n ≤ 64 ∧ o / 256 = (o + n - 1) / 256
     let mine := ag.free = true ∨ s.inDramWindows ag.bay o n = true
     let up := s.islandUp 4 = true ∧ s.dram.wipedSegs = []
     let room := s.dram.selfRefresh = false ∧ ((s.dramCh c).queue.filter fun y => y.bank == bank).length < 16 ∧
       ∀ y ∈ (s.dramCh c).waiting, y.bank ≠ bank
     let queued (t : State) (w : Bool) (bs : List Byte) : Prop :=
       ∃ y, (t.dramCh c).queue = (s.dramCh c).queue ++ [y] ∧ y.who = r ∧ y.addr = addr ∧ y.len = n ∧ y.write = w ∧ y.data = bs ∧
         y.bank = bank ∧ y.since = s.ridge.ticks ∧ (t.dramCh c).waiting = (s.dramCh c).waiting
     let x := s.dramCh ch.val
     let y (t : State) : DramCh := t.dramCh ch.val
     let cnt (t : State) (k : Nat) (a : Nat) : Prop := t.reg a = min (s.reg a + k) 0xFFFFFFFF
     let eo := e.addr.toNat - dramBase
     let oldest := x.writing = false ∧ x.waiting = [] ∧ e.write = false ∧
       ((x.queue.filter fun z => !z.write && tget? x.openRow z.bank == some z.row).head? = some e ∨
         (x.queue = [e] ∧ tget? x.openRow e.bank ≠ some e.row))
     let served (t : State) : Prop := (y t).queue = x.queue.erase e ∧ SameCompute s t ∧ t.truss = s.truss
     let lo := s.fld DRC_BATCH 5 0
     let readsKept (t : State) : Prop := (y t).queue.filter (fun z => !z.write) = x.queue.filter fun z => !z.write
     let ready := x.writing = false ∧ 0 < x.writes ∧ (x.reads = 0 ∨ s.fld DRC_BATCH 13 8 ≤ x.writes)
     (inside → mine → up → s.flag DRC_STAT c = false → s.NoErrors →
       (room → Runs (.dramRequest r addr len true data) s fun t =>
         t.bytes a n = toBytes n data.toNat ∧ t.answer = .posted ∧ queued t true (toBytes n data.toNat) ∧
         (a % 8 = 0 ∧ n % 8 = 0 ∨ s.flag DRC_CFG 31 = false → t.reg DRC_MERGE_CNT = s.reg DRC_MERGE_CNT) ∧
         (s.flag DRC_CFG 31 = true → a % 8 + n ≤ 8 → n < 8 → cnt t 1 DRC_MERGE_CNT) ∧
         (∀ b, b < a ∨ a + n ≤ b → t.byte b = s.byte b) ∧ SameRegs s t [DRC_MERGE_CNT] ∧ t.cores = s.cores) ∧
       (room → Runs (.dramRequest r addr len false data) s fun t =>
         t.answer = .none ∧ queued t false (s.bytes a n) ∧ SameRegs s t [] ∧ SameCompute s t) ∧
       (∀ w, ¬room → Runs (.dramRequest r addr len w data) s fun t =>
         (t.dramCh c).queue = (s.dramCh c).queue ∧ (t.dramCh c).waiting.length = (s.dramCh c).waiting.length + 1 ∧
         SameRegs s t [] ∧ SameCompute s t)) ∧
     (∀ w, inside → ¬mine → up → Runs (.dramRequest r addr len w data) s fun t =>
       t.answer = .busError ∧ cnt t 1 DRC_WIN_REFUSE_CNT ∧ t.flag (hdr 0x1C0 0x10) 2 = true ∧ t.dram = s.dram ∧
       (s.flag (hdr 0x1C0 0x1C) 31 = false → t.fld (hdr 0x1C0 0x1C) 15 0 = 2 ∧ t.wide (hdr 0x1C0 0x20) = a) ∧ SameCompute s t) ∧
     (∀ w, inside → mine → up → s.flag DRC_STAT c = true → Runs (.dramRequest r addr len w data) s fun t =>
       t.answer = (if w then .busError else .uncorrectable) ∧ t.dram = s.dram ∧ SameRegs s t [] ∧ SameCompute s t) ∧
     (oldest →
       (e.errs = [] → Runs (.dramReadReturn ch) s fun t => t.answer = .data e.data ∧ served t ∧
         cnt t (if tget? x.openRow e.bank = some e.row then 0 else 1) (DRC_CH_ACT_CNT ch.val) ∧
         t.reg (DRC_CH_NBR_CNT ch.val) ≤ s.reg (DRC_CH_NBR_CNT ch.val) + (if tget? x.openRow e.bank = some e.row then 0 else 2) ∧
         SameRegs s t [DRC_CH_ACT_CNT ch.val, DRC_CH_NBR_CNT ch.val]) ∧
       (e.errs = [(eo / 8 * 8, BitVec.ofNat 72 (2 ^ i.val))] → s.flag DRC_CFG 31 = true → Runs (.dramReadReturn ch) s fun t =>
         t.answer = .data e.data ∧ cnt t 1 DRC_CE_CNT ∧ SameCompute s t ∧ t.truss = s.truss ∧
         ∃ z, (y t).queue = x.queue.erase e ++ [z] ∧ z.write = true ∧ z.len = 8 ∧ z.bank = e.bank ∧ z.row = e.row ∧
           z.addr = BitVec.ofNat 48 (dramBase + eo / 8 * 8) ∧ z.data = s.bytes (dramBase + eo / 8 * 8) 8) ∧
       (e.errs = [(eo / 8 * 8, BitVec.ofNat 72 (2 ^ i.val + 2 ^ j.val))] → i ≠ j → s.flag DRC_CFG 31 = true →
         Runs (.dramReadReturn ch) s fun t => t.answer = .uncorrectable ∧ served t ∧ cnt t 1 DRC_UE_CNT ∧
           t.flag (hdr 0x1C0 0x10) 0 = true ∧ t.dramErr = s.dramErr)) ∧
     (ready → x.waiting = [] → Runs (.writeBatchStart ch) s fun t =>
       readsKept t ∧ (y t).writes ≤ x.writes ∧ min x.writes (if x.reads = 0 then 0 else lo) ≤ (y t).writes ∧
       ((y t).writing = true ↔ (if x.reads = 0 then 0 else lo) < (y t).writes) ∧ SameCompute s t) ∧
     (¬ready → Runs (.writeBatchStart ch) s fun t => t.dram = s.dram ∧ SameRegs s t [] ∧ SameCompute s t) ∧
     (x.writing = true → x.waiting = [] → (x.queue.find? fun z => !z.write) = some e → Runs (.readAgeExpiry ch) s fun t =>
       (y t).writing = false ∧ readsKept t ∧ (y t).writes ≤ x.writes ∧ min x.writes lo ≤ (y t).writes ∧
       e.since + 10 * s.fld DRC_BATCH 23 16 ≤ t.ridge.ticks ∧ SameMemory s t)) ∧
  (∀ (s : State) (ch : ChanNo) (bank : Fin 32) (code : BitVec 5) (ok : Bool),
     let c := ch.val
     let runs := s.flag DRC_STAT c = false ∧ s.dram.selfRefresh = false ∧ s.islandUp 4 = true
     let rest (t : State) : Prop := (∀ k, k ≠ c → t.dramCh k = s.dramCh k) ∧ SameCompute s t
     let failed (t : State) : Prop :=
       t.flag DRC_STAT c = true ∧ t.fld (DRC_CH_STAT c) 2 0 = 5 ∧ (t.dramCh c).queue = [] ∧ (t.dramCh c).waiting = [] ∧
       t.flag LDG_STAT (c / 8) = false ∧ t.flag (hdr 0x1C0 0x10) 1 = true ∧ (6, c) ∈ t.faults.failed ∧
       (∀ k < 16, k ≠ c → t.flag DRC_STAT k = s.flag DRC_STAT k) ∧ (∀ k, k ≠ c → t.dramCh k = s.dramCh k) ∧ t.cores = s.cores ∧
       (s.flag LDG_STAT (1 - c / 8) = true → t.truss = s.truss ∧ SameMemory s t ∧
         SamePages s t [0x1C0, 0x1C1, 0x30, 0x8, 0x9])
     (runs → Runs (.dramRefresh ch bank) s fun t =>
       t.dramCh c = { s.dramCh c with openRow := tdel (s.dramCh c).openRow bank.val } ∧
       t.reg (DRC_CH_REF_CNT c) = min (s.reg (DRC_CH_REF_CNT c) + 1) 0xFFFFFFFF ∧ SameRegs s t [DRC_CH_REF_CNT c] ∧ rest t) ∧
     (runs → Runs (.dramTempRead ch code false) s fun t =>
       t.reg (DRC_CH_TEMP c) = code.toNat ∧ t.dram = s.dram ∧ SameRegs s t [DRC_CH_TEMP c] ∧ SameCompute s t) ∧
     (runs → Runs (.dramTempRead ch code true) s fun t => t.reg (DRC_CH_TEMP c) = code.toNat ∧ failed t) ∧
     (runs → (ok = true ∨ s.flag (DRC_CH_STAT c) 8 = false) → Runs (.dramRetrain ch ok) s fun t =>
       (∃ u, t.dramCh c = { s.dramCh c with openRow := [], retrain := u } ∧ t.ridge.ticks < u ∧ u ≤ t.ridge.ticks + 1000) ∧
       (∀ k < 16, (s.dramCh k).retrain ≤ t.ridge.ticks) ∧ t.flag (DRC_CH_STAT c) 8 = !ok ∧
       (ok = false → t.flag (hdr 0x1C0 0x10) 4 = true) ∧ SameRegs s t [DRC_CH_STAT c, hdr 0x1C0 0x10] ∧ rest t) ∧
     (runs → s.flag (DRC_CH_STAT c) 8 = true → Runs (.dramRetrain ch false) s failed) ∧
     (s.flag DRC_STAT c = false → Runs (.channelFailed ch) s failed) ∧
     (s.flag DRC_STAT c = true → Runs (.channelFailed ch) s fun t => t.dram = s.dram ∧ SameRegs s t [] ∧ SameCompute s t))

/-! ## Skid channels (12) -/

/-- go, abort, resume, skip and triggers in every state of a channel (R323, R324, R327 to R331, R490).
Model's choices that it rests on: log 85, 86.
The conclusion is `exec … = .next t` (`Runs`) for: skidGo, skidAbort, skidResume, skidSkip, skidSwTrig, skidTrigger. -/
def Obligations.SkidChannelsChangeState : Prop :=
  ∀ (s : State) (r : Requester) (ch : SkidNo) (v : BitVec 32) (kind : BitVec 2) (src : BitVec 6) (p : PageInfo),
    let c := ch.val
    let x := s.skidCh c
    let st := s.skidSt c
    let off := st = 0 ∨ st = 5 ∨ st = 6
    let page := hdr (skidPage c)
    let cnt (t : State) (a k : Nat) : Prop := t.reg a = min (s.reg a + k) 0xFFFFFFFF
    let plain := v.getLsbD 31 = false ∧ v.getLsbD 30 = false ∧ v.getLsbD 29 = false ∧ v.getLsbD 28 = false ∧ v.getLsbD 27 = false
    let word (b : Nat) : Nat := v.toNat + 2 ^ b
    let ctl (t : State) : Prop := t.fld (SKD_CH_CTL c) 12 12 = bitsOf v.toNat 12 12 ∧ t.fld (SKD_CH_CTL c) 10 8 = bitsOf v.toNat 10 8 ∧
      t.fld (SKD_CH_CTL c) 5 4 = bitsOf v.toNat 5 4 ∧ t.fld (SKD_CH_CTL c) 2 0 = bitsOf v.toNat 2 0
    let same (t : State) : Prop := t.skid = s.skid ∧ t.reg (SKD_CH_STAT c) = s.reg (SKD_CH_STAT c) ∧ t.truss = s.truss ∧
      SamePages s t [skidPage c] ∧ SameCompute s t
    let noEvent (t : State) : Prop :=
      t.reg (SKD_CH_EVT_CNT c) = s.reg (SKD_CH_EVT_CNT c) ∧ t.reg (SKD_CH_DESC_CNT c) = s.reg (SKD_CH_DESC_CNT c)
    let aborted (t : State) : Prop := t.skidSt c = 6 ∧ (t.skidCh c).cur = none ∧ t.flag (page 0x10) 5 = true
    let starts (d : SkidDesc) (t : State) : Prop :=
      t.skidSt c = 2 ∧ (t.skidCh c).cur = some d ∧ (t.skidCh c).phase = 2 ∧ (t.skidCh c).pos = 0 ∧
      (d.op ≠ 2 → t.reg (SKD_CH_REMAIN c) = d.len ∧ t.reg (SKD_CH_ROWS c) = d.rows % 0x10000 ∧ t.truss = s.truss) ∧ t.cores = s.cores
    let triggered (i : Instr) : Prop :=
      (off → Runs i s same) ∧
      (∀ d, st = 1 → s.skidHeldBack = false → x.cur = some d → Runs i s (starts d)) ∧
      (2 ≤ st ∧ st ≤ 4 → s.flag (SKD_CH_STAT c) 29 = false → Runs i s fun t =>
        t.flag (SKD_CH_STAT c) 29 = true ∧ t.skidSt c = st ∧ t.skid = s.skid ∧ t.reg (SKD_CH_TRIG_LOST_CNT c) = s.reg (SKD_CH_TRIG_LOST_CNT c)) ∧
      (2 ≤ st ∧ st ≤ 4 → s.flag (SKD_CH_STAT c) 29 = true → Runs i s fun t =>
        cnt t (SKD_CH_TRIG_LOST_CNT c) 1 ∧ t.flag (page 0x10) 3 = true ∧ t.skidSt c = st ∧ t.skid = s.skid)
    let mine := (kind = 1 ∨ kind = 2) ∧ s.fld (SKD_CH_TRIG c) 17 16 = kind.toNat ∧ s.fld (SKD_CH_TRIG c) 5 0 = src.toNat
    let foreign := (kind = 1 ∧ (32 ≤ src.toNat ∨ src.toNat / 4 ≠ s.owner (skidPage c))) ∨
      (kind = 2 ∧ s.owner (skidPage src.toNat) ≠ s.owner (skidPage c))
    let err := s.fld (SKD_CH_ERR_HI c) 21 19
    (plain → s.Accepts r (SKD_CH_CTL c) (word 31) p → Runs (.skidGo r ch v) s fun t =>
      ctl t ∧
      (off → t.skidSt c = 2 ∧ t.fld (SKD_CH_STAT c) 31 29 = 0 ∧ t.reg (SKD_CH_ERR_LO c) = 0 ∧ t.reg (SKD_CH_ERR_HI c) = 0 ∧
        t.wide (SKD_CH_CUR_LO c) = s.wide (SKD_CH_HEAD_LO c) ∧ (t.skidCh c).cur = none ∧ (t.skidCh c).nxt = none ∧
        SamePages s t [skidPage c] ∧ SameCompute s t) ∧
      (¬off → same t)) ∧
    (plain → s.Accepts r (SKD_CH_CTL c) (word 30) p → Runs (.skidAbort r ch v) s fun t =>
      (off → same t) ∧
      (¬off → x.cur = none ∨ st = 1 ∨ st = 4 ∨ x.phase < 2 → aborted t ∧ noEvent t ∧ SameCompute s t) ∧
      (∀ d e, ¬off → st ≠ 1 → st ≠ 4 → 2 ≤ x.phase → x.cur = some d → d.op = 2 → s.skidOffer c = some e →
        (e.taken = false → aborted t ∧ noEvent t ∧ t.skidOffer c = none) ∧
        (e.taken = true → (t.skidCh c).aborting = true ∧ t.skidSt c = st ∧ t.skidOffer c = some e)) ∧
      (∀ d, ¬off → st ≠ 1 → st ≠ 4 → 2 ≤ x.phase → x.cur = some d → d.op ≠ 2 →
        t.skidSt c = 6 ∨ (t.skidSt c = 5 ∧ t.flag (SKD_CH_STAT c) 31 = true))) ∧
    (plain → s.Accepts r (SKD_CH_CTL c) (word 29) p →
      (st ≠ 4 → Runs (.skidResume r ch v) s same) ∧
      (st = 4 → err = 0 → s.flag (SKD_CH_STAT c) 30 = false → Runs (.skidResume r ch v) s fun t =>
        t.skidSt c = 2 ∧ t.flag (SKD_CH_ERR_HI c) 31 = false ∧ t.skid = s.skid ∧ noEvent t ∧ SameCompute s t) ∧
      (∀ d, st = 4 → err = 2 → x.cur = some d → d.fetchErr = false → s.skidCheck c d ≠ 0 → Runs (.skidResume r ch v) s fun t =>
        t.skidSt c = 4 ∧ t.fld (SKD_CH_ERR_HI c) 27 24 = s.skidCheck c d % 16 ∧ t.fld (SKD_CH_ERR_HI c) 21 19 = 2 ∧
        cnt t (SKD_CH_ERR_CNT c) 1 ∧ noEvent t ∧ SameCompute s t)) ∧
    (plain → s.Accepts r (SKD_CH_CTL c) (word 28) p →
      (st ≠ 4 → Runs (.skidSkip r ch v) s same) ∧
      (∀ d, st = 4 → err = 0 → x.cur = some d → s.flag (SKD_CH_STAT c) 30 = false → Runs (.skidSkip r ch v) s fun t =>
        t.skidSt c = 2 ∧ t.flag (SKD_CH_ERR_HI c) 31 = false ∧ (t.skidCh c).pos = x.pos + 1 ∧ (t.skidCh c).skipped = x.skipped + 1 ∧
        (t.skidCh c).held = x.held.drop 1 ∧ noEvent t ∧ SameCompute s t) ∧
      (st = 4 → err = 1 ∨ err = 2 → Runs (.skidSkip r ch v) s fun t => aborted t ∧ noEvent t ∧ SameCompute s t)) ∧
    (plain → s.Accepts r (SKD_CH_CTL c) (word 27) p → triggered (.skidSwTrig r ch v)) ∧
    (mine → ¬foreign → triggered (.skidTrigger ch kind src)) ∧
    (¬mine ∨ foreign → Runs (.skidTrigger ch kind src) s fun t => t.skid = s.skid ∧ t.truss = s.truss ∧ SameRegs s t [] ∧ SameCompute s t)

/-- Descriptors are fetched, checked and started; rows are copied and filled, and the descriptor ends; a Frame's word is
written; an access answered with an error halts the channel (R319 to R322, R325 to R327, R329, R331).
Model's choices that it rests on: log 84, 85.
The conclusion is `exec … = .next t` (`Runs`) for: skidDescFetch, skidDescEnd, skidSubmitResult, skidHalt. -/
def Obligations.SkidRunsDescriptors : Prop :=
  ∀ (s : State) (ch : SkidNo) (d : SkidDesc) (bs : List Byte) (addr : BitVec 48) (more : Bool) (e : OnChip) (w : BitVec 64),
    let c := ch.val
    let x := s.skidCh c
    let st := s.skidSt c
    let page := hdr (skidPage c)
    let ag := s.skidAgent c
    let cnt (t : State) (a k : Nat) : Prop := t.reg a = min (s.reg a + k) 0xFFFFFFFF
    let at' := s.wide (SKD_CH_CUR_LO c) / 64 * 64
    let fetched : SkidDesc := ⟨BitVec.ofNat 48 at', (List.range 8).map fun i => BitVec.ofNat 64 (wordAt bs i), none, false⟩
    let code := s.skidCheck c fetched
    let halted (a dir kind code : Nat) (t : State) : Prop :=
      t.skidSt c = 4 ∧ t.reg (SKD_CH_ERR_LO c) = a % 2 ^ 32 ∧ t.fld (SKD_CH_ERR_HI c) 15 0 = a / 2 ^ 32 % 2 ^ 16 ∧
      t.flag (SKD_CH_ERR_HI c) 31 = true ∧ t.fld (SKD_CH_ERR_HI c) 27 24 = code ∧ t.fld (SKD_CH_ERR_HI c) 21 19 = kind ∧
      t.fld (SKD_CH_ERR_HI c) 16 16 = dir ∧ cnt t (SKD_CH_ERR_CNT c) 1 ∧ t.flag (page 0x10) 0 = true ∧
      t.flag (hdr 0x200 0x10) 0 = true ∧ t.reg (SKD_CH_DESC_CNT c) = s.reg (SKD_CH_DESC_CNT c) ∧
      t.reg (SKD_CH_EVT_CNT c) = s.reg (SKD_CH_EVT_CNT c) ∧ t.truss = s.truss ∧ t.cores = s.cores
    let unheard := ∀ f ∈ s.truss.frames, ∀ t ∈ f.tasks, t.evtKind ≠ 3 ∨ t.evtId ≠ c
    let ended (d : SkidDesc) (t : State) : Prop :=
      cnt t (SKD_CH_DESC_CNT c) 1 ∧ t.flag (SKD_CH_STAT c) 30 = false ∧ (d.f 0 59 59 = 1 → t.flag (page 0x10) 1 = true) ∧
      cnt t (SKD_CH_EVT_CNT c) (if d.f 0 58 58 = 1 ∨ d.next = 0 then 1 else 0) ∧
      (d.next = 0 → t.skidSt c = 5 ∧ (t.skidCh c).cur = none ∧ t.flag (page 0x10) 2 = true) ∧
      (d.next ≠ 0 → t.skidSt c = 2 ∧ (t.skidCh c).cur = none ∧ t.wide (SKD_CH_CUR_LO c) = d.next)
    let inside (a n : Nat) : Prop := a + n ≤ winBase ∨ (dramBase ≤ a ∧ a + n ≤ hostBase)
    let src (k : Nat) : Nat := d.src + k * d.f 3 31 0
    let dst (k : Nat) : Nat := d.dst + k * d.f 3 63 32
    let writes := d.rows = 1 ∨ d.len ≤ d.f 3 63 32
    let runs := st = 2 ∧ x.cur = some d ∧ x.phase = 2 ∧ x.pos = 0 ∧ x.skipped = 0 ∧ x.held = [] ∧ x.nxt = none ∧ 0 < d.len ∧ unheard ∧
      s.NoErrors ∧ (∀ k < d.rows, inside (dst k) d.len ∧ (s.memWrite ag (dst k) (List.replicate d.len 0)).1 = true)
    let copies := d.op = 0 ∧ ∀ k < d.rows, inside (src k) d.len ∧ ∃ b, (s.memRead ag (src k) d.len).1 = .ok b
    let filled (t : State) : Prop := ∀ k < d.rows, ∀ i < d.len,
      t.byte (dst k + i) = BitVec.ofNat 8 ((d.w.getD 5 0).toNat / 2 ^ (8 * ((dst k + i) % 8)))
    let copied (t : State) : Prop := ∀ k < d.rows, t.bytes (dst k) d.len = s.bytes (src k) d.len
    let note := d.addr.toNat + 56
    let others (t : State) (n : Nat) : Prop :=
      SameBytesBut s t (fun a => (∃ k < d.rows, inSpan (dst k) d.len a) ∨ inSpan note n a) ∧
      t.wide SKD_WR_BYTES_LO = (s.wide SKD_WR_BYTES_LO + d.rows * d.len) % 2 ^ 64 ∧
      t.wide SKD_RD_BYTES_LO = (s.wide SKD_RD_BYTES_LO + if d.op = 0 then d.rows * d.len else 0) % 2 ^ 64 ∧ t.truss = s.truss ∧ t.cores = s.cores
    let done (t : State) : Prop := if d.op = 0 then copied t else filled t
    let sep := d.op = 0 → d.rows = 1 ∨ overlaps d.extents.1 d.extents.2 = false
    let offered := s.skidOffer c = some e ∧ e.word = some w
    (st = 2 → x.cur = none → (s.memRead ag at' 64).1 = .ok bs →
      (code = 0 → fetched.f 0 57 57 = 0 ∨ (s.flag (SKD_CH_STAT c) 29 = true ∧ s.skidHeldBack = false) → fetched.op ≠ 2 →
        Runs (.skidDescFetch ch) s fun t =>
          t.skidSt c = 2 ∧ (t.skidCh c).cur = some fetched ∧ (t.skidCh c).phase = 2 ∧ t.reg (SKD_CH_REMAIN c) = fetched.len ∧
          t.reg (SKD_CH_ROWS c) = fetched.rows % 0x10000 ∧
          t.flag (SKD_CH_STAT c) 29 = (s.flag (SKD_CH_STAT c) 29 && fetched.f 0 57 57 == 0) ∧ t.truss = s.truss ∧ t.cores = s.cores) ∧
      (code = 0 → fetched.f 0 57 57 = 1 → s.flag (SKD_CH_STAT c) 29 = false → Runs (.skidDescFetch ch) s fun t =>
        t.skidSt c = 1 ∧ (t.skidCh c).cur = some fetched ∧ (t.skidCh c).phase = 1 ∧ t.truss = s.truss ∧ t.cores = s.cores) ∧
      (code ≠ 0 → code < 16 → Runs (.skidDescFetch ch) s (halted at' 0 2 code))) ∧
    (∀ er, st = 2 → x.cur = none → (s.memRead ag at' 64).1 = .error er → Runs (.skidDescFetch ch) s (halted at' 0 1 0)) ∧
    ((d.op > 2 ∨ d.f 6 63 0 ≠ 0 ∨ d.f 0 56 48 ≠ 0 ∨ d.f 4 63 48 ≠ 0 → s.skidCheck c d = 1) ∧
      (s.skidCheck c d = 0 → (d.next = 0 ∨ (d.next % 64 = 0 ∧ (loftBase ≤ d.next ∧ d.next < bufBase ∨ dramBase ≤ d.next))) ∧
        (d.op ≠ 2 → 0 < d.len) ∧ (d.op = 2 → s.qBay d.queue = s.owner (skidPage c)))) ∧
    (runs → (d.op = 1 ∨ copies) → sep → writes → s.flag (SKD_CH_CTL c) 12 = false → Runs (.skidDescEnd ch) s fun t =>
      ended d t ∧ done t ∧ others t 0) ∧
    (runs → (d.op = 1 ∨ copies) → sep → writes → s.flag (SKD_CH_CTL c) 12 = true → inside note 8 →
      (s.memWrite ag note (List.replicate 8 0)).1 = true → (∀ k < d.rows, note + 8 ≤ dst k ∨ dst k + d.len ≤ note) →
      Runs (.skidDescEnd ch) s fun t => ended d t ∧ done t ∧ others t 8 ∧ t.bytes note 8 = toBytes 8 (2 ^ 63 + s.ridge.ns.toNat)) ∧
    (st = 2 → x.cur = some d → d.op = 2 → offered → x.phase = 2 → x.aborting = false → unheard → x.nxt = none →
      s.flag (SKD_CH_CTL c) 12 = false →
      ((s.memWrite ag (d.src + 56) (toBytes 8 w.toNat)).1 = true → Runs (.skidSubmitResult ch) s fun t =>
        ended d t ∧ t.wide (SKD_CH_SUBMIT_LO c) = w.toNat ∧ t.skidOffer c = none ∧
        (∀ a, t.byte a = (s.put ag (d.src + 56) (toBytes 8 w.toNat)).byte a) ∧
        cnt t (SKD_CH_REFUSE_CNT c) (if w.getLsbD 62 then 1 else 0) ∧ (w.getLsbD 62 = true → t.flag (page 0x10) 4 = true)) ∧
      ((s.memWrite ag (d.src + 56) (toBytes 8 w.toNat)).1 = false → Runs (.skidSubmitResult ch) s (halted (d.src + 56) 1 4 0))) ∧
    (st = 2 → x.cur = some d → d.op = 2 → offered → x.aborting = true → Runs (.skidSubmitResult ch) s fun t =>
      t.skidSt c = 6 ∧ t.wide (SKD_CH_SUBMIT_LO c) = w.toNat ∧ t.skidOffer c = none ∧
      t.reg (SKD_CH_EVT_CNT c) = s.reg (SKD_CH_EVT_CNT c)) ∧
    (st = 2 → x.cur = none → addr.toNat = at' → Runs (.skidHalt ch addr false 1 more) s fun t =>
      halted addr.toNat 0 1 0 t ∧ t.flag (SKD_CH_ERR_HI c) 22 = more ∧ SameMemory s t) ∧
    (∀ n b, runs → d.op = 1 → writes → (d.beats.take n).all (fun y => y.1 != addr.toNat) = true → d.beats[n]? = some b →
      b.1 = addr.toNat → Runs (.skidHalt ch addr true 0 more) s fun t =>
        halted addr.toNat 1 0 0 t ∧ (t.skidCh c).pos = n ∧ (more = true → t.flag (SKD_CH_ERR_HI c) 22 = true) ∧
        (t.flag (SKD_CH_STAT c) 30 = decide (n + 1 = d.beats.length) || s.flag (SKD_CH_STAT c) 30) ∧
        (∀ y ∈ d.beats.take n, t.bytes y.1 y.2.2 = d.fill y.1 y.2.2) ∧
        (∀ y ∈ d.beats.drop n, ∀ i < y.2.2, (∀ z ∈ d.beats.take n, ¬inSpan z.1 z.2.2 (y.1 + i)) → t.byte (y.1 + i) = s.byte (y.1 + i)))

/-! ## Scarf and Peg lanes (13) -/

/-- Lane control writes, tables, the sequencer's steps, drops, PLL loss and lock, PERST and the test instruments (R345 to R361).
Model's choices that it rests on: log 87, 88, 89, 90, 91.
The conclusion is `exec … = .next t` (`Runs`) for: laneEnable, laneDisable, laneRestart, laneTest, laneProtoWrite,
tableLoadDone, seqActionSuccess, seqActionFail, linkDrop, quadPllLoss, pllRelockAttempt, quadPllLock, prbsClear,
prbsCheckerLock, prbsLockLoss, eyeStart, eyeDone, perstChange. -/
def Obligations.LanesRunTheirTables : Prop :=
  ∀ (s : State) (r : Requester) (l : LaneNo) (v : BitVec 32) (p : PageInfo) (info : BitVec 8) (cause : BitVec 4) (q : PllNo)
    (ok : Bool) (h : HostNo) (asserted : Bool),
    let n := l.val
    let f := s.laneFirst n
    let a := laneCtl n
    let irq (t : State) (k b : Nat) : Prop := t.flag (hdr (lanePage k) 0x10) b = true
    let cnt (t : State) (a k : Nat) : Prop := t.reg a = min (s.reg a + k) 0xFFFFFFFF
    let hosts : List Nat := if n < 16 then [0x340, 0x341, 0x342, 0x343] else []
    let group (k : Nat) : List Nat := (s.laneGroup k).map lanePage
    let frame (t : State) : Prop := SamePages s t (lanePage n :: group n ++ hosts) ∧ SameCompute s t ∧ t.lanes = s.lanes ∧ t.truss = s.truss
    let same (t : State) : Prop := SameRegs s t [] ∧ SameCompute s t ∧ t.lanes = s.lanes ∧ t.truss = s.truss
    let at' (t : State) (k st e : Nat) : Prop :=
      t.laneSt k = st ∧ t.fld (laneStat k) 24 20 = e ∧ t.fld (laneStat k) 15 8 = 0
    let code (k e : Nat) : Nat := bitsOf (s.seqEntry k e) 63 60
    let fits (k e : Nat) : Prop := 1 ≤ code k e ∧ code k e ≤ 6 ∧ s.actionOk k (bitsOf (s.seqEntry k e) 59 54) = true
    let failed (t : State) (k e : Nat) : Prop :=
      at' t k 7 e ∧ irq t k 2 ∧
        (s.flag (hdr (lanePage k) 0x1C) 31 = false → t.fld (hdr (lanePage k) 0x1C) 15 0 = 1 ∧ t.reg (hdr (lanePage k) 0x20) = e)
    let left (t : State) (k : Nat) : Prop := s.laneSt k = 6 → cnt t (laneReg k 0x108) 1 ∧ irq t k 1
    let enters (t : State) (k e : Nat) : Prop :=
      (fits k e → at' t k (code k e) e ∧ (code k e = 6 → s.laneSt k ≠ 6 → irq t k 0)) ∧ (¬fits k e → failed t k e ∧ t.fld (laneStat k) 7 4 = 7)
    let waits (t : State) (k : Nat) : Prop := code k 0 ≠ 0 → at' t k (code k 0) 0
    let starts (t : State) (k : Nat) : Prop := (s.laneHeld k = false → enters t k 0) ∧ (s.laneHeld k = true → waits t k)
    let kept (b : BitVec 32) : Prop :=
      bitsOf b.toNat 27 26 = s.laneProto n ∧ (48 ≤ n → bitsOf b.toNat 25 20 = s.fld a 25 20)
    let bits (b : Nat) : Prop := v.getLsbD b = s.flag a b
    let calm := v.getLsbD 31 = s.laneOn n ∧ v.getLsbD 30 = false
    let up := v ||| 0x80000000
    let down := v &&& 0x7FFFFFFF
    let again := v ||| 0x40000000
    let protoOk := if n < 16 then bitsOf v.toNat 27 26 = 0 ∨ bitsOf v.toNat 27 26 = 2
      else if n < 48 then bitsOf v.toNat 27 26 = 0 ∨ bitsOf v.toNat 27 26 = 1 else True
    let act := bitsOf (s.seqEntry f (s.fld (laneStat f) 24 20)) 59 54
    let word := s.seqEntry f (s.fld (laneStat f) 24 20)
    let tries := s.fld (laneStat f) 15 8
    let running := s.laneSteps f = true
    let next := bitsOf word 53 48 % 32
    let fail := bitsOf word 47 42
    let locked := s.pllLocked q.val
    let first := (pllLanes q.val).headD 0
    let most := if q.val < 12 then max 1 (s.fld (SCF_QUAD_CTL (4 * q.val)) 3 0) else 8
    let tried := tget s.lanes.relocks q.val 0
    let pll (t : State) : Prop := t.truss = s.truss ∧ SameCompute s t ∧
      SamePages s t (0x09 :: (pllLanes q.val).map lanePage ++ (s.pllFirsts q.val).flatMap group ++ [0x340, 0x341, 0x342, 0x343])
    let alone := ∀ k ∈ s.pllFirsts q.val, ∀ j ∈ s.laneGroup k, j ∈ pllLanes q.val
    let f0 := (s.hostLink h.val).1
    -- the control register (R350, R352, R354, R358)
    (s.laneOn n = false → v.getLsbD 29 = false → s.laneTest n = false → v.getLsbD 30 = false → kept v → s.Accepts r a up.toNat p →
      Runs (.laneEnable r l v) s fun t => t.laneOn n = true ∧ (f = n → starts t n) ∧ frame t) ∧
    (kept v → s.Accepts r a down.toNat p → Runs (.laneDisable r l v) s fun t =>
      t.laneOn n = false ∧ (s.laneOn n = true → at' t n 0 0 ∧ left t n) ∧ frame t) ∧
    (s.laneOn n = true → s.laneTest n = false → bits 31 → bits 29 → kept v → s.Accepts r a again.toNat p →
      Runs (.laneRestart r l v) s fun t => (f = n → starts t n ∧ left t n) ∧
        (s.pllLocked (pllOf n) = false → f = n → t.fld (laneStat n) 7 4 = 5) ∧ frame t) ∧
    (kept v → calm → s.Accepts r a v.toNat p → Runs (.laneTest r l v) s fun t => frame t ∧
      (v.getLsbD 29 = true → s.laneTest n = false →
        (s.mayTest n = true → t.laneTest n = true ∧ t.laneSt n = 8 ∧ left t n ∧ (s.laneSt n = 6 → t.fld (laneStat n) 7 4 = 6)) ∧
        (s.mayTest n = false → t.laneTest n = false ∧ t.reg (laneStat n) = s.reg (laneStat n))) ∧
      (v.getLsbD 29 = false → s.laneTest n = true → t.laneTest n = false ∧ t.fld a 9 8 = 0 ∧
        (s.laneOn n = true → f = n → s.pllLocked (pllOf n) = true → starts t n) ∧
        (s.laneOn n = true → f = n → s.pllLocked (pllOf n) = false → waits t n ∧ t.fld (laneStat n) 7 4 = 5) ∧
        (s.laneOn n = false → at' t n 0 0))) ∧
    (calm → bits 29 → (48 ≤ n → bits 20) → s.Accepts r a v.toNat p → Runs (.laneProtoWrite r l v) s fun t => frame t ∧
      t.laneProto n = (if protoOk then bitsOf v.toNat 27 26 else s.laneProto n) ∧
      t.flag (laneStat n) 27 = (s.flag (laneStat n) 27 || t.laneProto n != s.laneProto n ||
        (decide (48 ≤ n) && max 1 (bitsOf v.toNat 25 23) != s.fld a 25 23)) ∧ t.laneSt n = s.laneSt n ∧
      (48 ≤ n → s.laneOn n = true → t.flag a 21 = s.flag a 21)) ∧
    Runs (.tableLoadDone l) s (fun t => t.flag (laneStat n) 27 = false ∧ t.lanes = s.lanes ∧ SamePages s t [lanePage n] ∧ SameCompute s t ∧
      (s.flag (laneStat n) 27 = false → ∀ e < 32, t.seqEntry n e = s.seqEntry n e) ∧
      (s.flag (laneStat n) 27 = true → 16 ≤ n → n < 48 → s.laneProto n = 1 →
        (List.range 8).map (fun e => (bitsOf (t.seqEntry n e) 63 60, bitsOf (t.seqEntry n e) 59 54)) =
          [(1, 2), (2, 3), (2, 4), (3, 5), (4, 6), (4, 7), (5, 8), (6, 15)] ∧
        (s.fld a 25 24 = 0 → (s.laneGroup n).length = 1 → t.seqEntry n 1 = 0x20C2000D01F40001))) ∧
    -- the sequencer (R347 to R349, R351)
    (running → act ≠ 0x0F → Runs (.seqActionSuccess l info) s fun t =>
      enters t f next ∧ (act = 2 → t.flag (laneStat f) 0 = true) ∧
      (act = 4 → t.flag (laneStat f) 2 = info.getLsbD 0 ∧ (t.flag (laneStat f) 1 = true → info.getLsbD 1 = true ∧ s.flag (laneCtl f) 20 = true ∧ word % 2 = 1)) ∧
      (act = 11 → t.fld (laneStat f) 19 17 = word % 8) ∧
      (∀ k, act = 14 → s.laneHost f = some k → t.fld (HST_LINK_STAT k) 19 16 = 3 ∧
        t.fld (HST_LINK_STAT k) 11 8 ≤ max 1 (bitsOf word 15 0) ∧ t.fld (HST_LINK_STAT k) 4 0 ≤ (s.hostLink k).2 ∧
        t.flag (hdr (hstPage k) 0x10) 0 = true) ∧
      (s.laneHost f = none → t.truss = s.truss ∧ SameCompute s t ∧
        SamePages s t (lanePage f :: group f))) ∧
    (running → Runs (.seqActionFail l) s fun t => SameCompute s t ∧ t.truss = s.truss ∧ SamePages s t (lanePage f :: group f ++ [0x340, 0x341, 0x342, 0x343]) ∧
      (act = 1 ∨ act = 11 ∨ act = 15 → same t) ∧
      (act ≠ 1 → act ≠ 11 → act ≠ 15 →
        (tries < bitsOf word 41 34 → t.fld (laneStat f) 15 8 = tries + 1 ∧ t.laneSt f = s.laneSt f ∧ t.fld (laneStat f) 24 20 = s.fld (laneStat f) 24 20) ∧
        (bitsOf word 41 34 ≤ tries → (fail = 0x3F → failed t f (s.fld (laneStat f) 24 20)) ∧ (fail ≠ 0x3F → enters t f (fail % 32))))) ∧
    (¬running → Runs (.seqActionSuccess l info) s same ∧ Runs (.seqActionFail l) s same) ∧
    (s.laneSt f = 6 → s.laneOn f = true → Runs (.linkDrop l cause) s fun t => SameCompute s t ∧ t.truss = s.truss ∧
      SamePages s t (lanePage f :: group f ++ [0x340, 0x341, 0x342, 0x343]) ∧ cnt t (laneReg f 0x108) 1 ∧ irq t f 1 ∧
      (fail = 0x3F → failed t f (s.fld (laneStat f) 24 20) ∧ t.fld (laneStat f) 7 4 = cause.toNat) ∧
      (fail ≠ 0x3F → enters t f (fail % 32) ∧ (fits f (fail % 32) → code f (fail % 32) = 6 → irq t f 0) ∧ (fits f (fail % 32) → t.fld (laneStat f) 7 4 = cause.toNat)) ∧
      (∀ k, s.laneHost f = some k → t.fld (HST_LINK_STAT k) 19 0 = 0 ∧ (s.linkL0 k = true → cnt t (HST_LINKDOWN_CNT k) 1))) ∧
    (s.laneSt f ≠ 6 → Runs (.linkDrop l cause) s same) ∧
    -- the PLLs (R357, R361)
    (locked = false → Runs (.quadPllLoss q) s same) ∧
    (locked = true → Runs (.quadPllLoss q) s fun t => pll t ∧ t.pllLocked q.val = false ∧ irq t first 4 ∧
      (q.val < 12 → t.flag (SCF_QUAD_STAT first) 30 = true ∧ cnt t (SCF_QUAD_LOL_CNT first) 1) ∧
      (∀ k ∈ pllLanes q.val, s.laneOn k = true → t.fld (laneStat k) 7 4 = 5) ∧
      (alone → ∀ k ∈ s.pllFirsts q.val, s.laneOn k = true → s.laneTest k = false → waits t k ∧ (code k 0 ≠ 6 → left t k))) ∧
    (locked || s.pllFailed q.val || !s.pllOn q.val → Runs (.pllRelockAttempt q ok) s same ∧ Runs (.quadPllLock q) s same) ∧
    (locked = false → s.pllFailed q.val = false → s.pllOn q.val = true → 
      (∀ i, i = .pllRelockAttempt q true ∨ i = .quadPllLock q → Runs i s fun t => pll t ∧ t.pllLocked q.val = true ∧ tget? t.lanes.relocks q.val = none ∧
        (16 ≤ first → alone → ∀ k ∈ s.pllFirsts q.val, s.laneOn k = true → s.laneTest k = false → enters t k 0)) ∧
      Runs (.pllRelockAttempt q false) s fun t => pll t ∧ t.pllLocked q.val = false ∧
        tget t.lanes.relocks q.val 0 = tried + 1 ∧ t.pllFailed q.val = decide (most ≤ tried + 1) ∧
        (∀ k < 56, t.reg (laneStat k) = s.reg (laneStat k))) ∧
    -- the test instruments (R355, R356)
    (s.Accepts r (laneReg n 0x200) (v ||| 0x80000000).toNat p → Runs (.prbsClear r l v) s fun t =>
      t.wide (laneReg n 0x208) = 0 ∧ t.wide (laneReg n 0x210) = 0 ∧ t.flag (laneReg n 0x200) 19 = v.getLsbD 19 ∧
      t.flag (laneReg n 0x200) 20 = v.getLsbD 20 ∧ t.fld (laneReg n 0x200) 18 16 = (if 48 ≤ n ∧ bitsOf v.toNat 18 16 ≥ 6 then s.fld (laneReg n 0x200) 18 16 else bitsOf v.toNat 18 16) ∧
      frame t) ∧
    Runs (.prbsCheckerLock l) s (fun t => t.flag (laneReg n 0x204) 31 = (s.flag (laneReg n 0x204) 31 || s.prbsRuns n) ∧
      t.reg (laneStat n) = s.reg (laneStat n) ∧ frame t) ∧
    Runs (.prbsLockLoss l) s (fun t => frame t ∧
      (s.prbsRuns n = true → s.flag (laneReg n 0x204) 31 = true → t.flag (laneReg n 0x204) 31 = false ∧
        t.fld (laneReg n 0x204) 15 0 = min 0xFFFF (s.fld (laneReg n 0x204) 15 0 + 1) ∧ irq t n 3) ∧
      (s.prbsRuns n = false ∨ s.flag (laneReg n 0x204) 31 = false → same t)) ∧
    (s.Accepts r (laneReg n 0x240) (v ||| 0x80000000).toNat p → Runs (.eyeStart r l v) s fun t =>
      t.flag (laneReg n 0x240) 30 = true ∧ t.fld (laneReg n 0x240) 29 24 = max 10 (min 40 (bitsOf v.toNat 29 24)) ∧
      t.fld (laneReg n 0x240) 15 8 = (if bitsOf v.toNat 15 8 = 0x80 then 0x81 else bitsOf v.toNat 15 8) ∧ t.fld (laneReg n 0x240) 5 0 = bitsOf v.toNat 5 0 ∧
      t.fld (laneReg n 0x240) 21 20 = (if 48 ≤ n ∨ bitsOf v.toNat 21 20 = 3 then s.fld (laneReg n 0x240) 21 20 else bitsOf v.toNat 21 20) ∧ frame t) ∧
    Runs (.eyeDone l) s (fun t => frame t ∧ t.flag (laneReg n 0x240) 30 = false ∧
      (s.flag (laneReg n 0x240) 30 = true → irq t n 5 ∧ t.reg (laneReg n 0x244) ≤ 2 ^ s.fld (laneReg n 0x240) 29 24) ∧
      (s.flag (laneReg n 0x240) 30 = false → same t)) ∧
    -- PERST_N of a host (R352, R386)
    (s.flag (HST_LINK_STAT h.val) 31 = asserted → Runs (.perstChange h asserted) s same) ∧
    (s.flag (HST_LINK_STAT h.val) 31 ≠ asserted → Runs (.perstChange h asserted) s fun t =>
      t.flag (HST_LINK_STAT h.val) 31 = asserted ∧ t.flag (hdr (hstPage h.val) 0x10) 3 = true ∧ SameCompute s t ∧
      t.truss = s.truss ∧ SamePages s t ([0x340, 0x341, 0x342, 0x343] ++ (List.range 16).map lanePage) ∧
      (asserted = true → t.fld (HST_LINK_STAT h.val) 19 0 = 0) ∧
      ((s.hostLink h.val).2 ≠ 0 → s.laneHost f0 = some h.val → s.laneFirst f0 = f0 → s.laneOn f0 = true → s.laneTest f0 = false →
        (asserted = true → waits t f0) ∧
        (asserted = false → s.ridge.fwRuns = true → (∀ k ∈ s.laneGroup f0, s.pllLocked (pllOf k) = true) → enters t f0 0)))

/-! ## Girt, hosts and Bays (14) -/

/-- The classifier's and the flow groups' tables, the ports' settings, and what becomes of a frame that arrives (R363 to R374,
R379, R393).
Model's choices that it rests on: log 29, 94, 95, 96, 98, 130.
The conclusion is `exec … = .next t` (`Runs`) for: clsWrite, clsRead, clsDelete, fgWrite, fgRead, fgDelete, gclSwap,
portCfgWrite, frameReceived, receiveWindowOpen, receiveWindowClose. -/
def Obligations.GirtTakesFrames : Prop :=
  ∀ (s : State) (r : Requester) (v : BitVec 32) (pi : PageInfo) (port : Fin 40) (f : RxFrame) (e : Nat) (k a : BitVec 64)
    (x : Section) (w : Window) (bs : List Byte) (fl : FlowNo) (slot : BitVec 32) (symbol : BitVec 4),
    let p := port.val
    let cfg := GRT_PORT_CFG p
    let cnt (t : State) (a k : Nat) : Prop := t.reg a = min (s.reg a + k) 0xFFFFFFFF
    let idle (t : State) : Prop := t.truss = s.truss ∧ SameCompute s t
    let same (t : State) : Prop := t.girt = s.girt ∧ t.out = s.out ∧ SameRegs s t [] ∧ idle t
    -- table commands
    let i := bitsOf v.toNat 15 0
    let nk := BitVec.ofNat 64 (s.dataWord GRT_CLS_DATA 0)
    let na := BitVec.ofNat 64 (s.dataWord GRT_CLS_DATA 1)
    let twin := ∃ y ∈ s.girt.cls, y.1 ≠ i ∧ keyParts y.2.1.toNat = keyParts nk.toNat
    let fg := actFg na
    let foreign := (actType na = 1 ∨ actType na = 4) ∧ bitOf (s.fgWord fg 0) 63 = true ∧ s.fgBay fg ≠ actBay na
    let table (op : Nat) : Prop := s.Accepts r GRT_CLS_CMD (withOp v op).toNat pi
    let flows (op : Nat) : Prop := s.Accepts r GRT_FG_CMD (withOp v op).toNat pi
    let g := bitsOf v.toNat 11 0
    let regs0 (t : State) : Prop := SamePages s t [0x300] ∧ idle t
    (table 1 → twin ∨ foreign → Runs (.clsWrite r v) s fun t => t.flag GRT_CLS_CMD 30 = true ∧ t.girt = s.girt ∧ regs0 t) ∧
    (table 1 → ¬twin → ¬foreign → actType na ≤ 4 → actType na ≠ 3 ∨ actBay na = 0 → Runs (.clsWrite r v) s fun t =>
      t.flag GRT_CLS_CMD 30 = false ∧ tget? t.girt.cls i = some (nk, na) ∧ (∀ j ≠ i, tget? t.girt.cls j = tget? s.girt.cls j) ∧
      t.girt.fgs = s.girt.fgs ∧ t.girt.windows = s.girt.windows ∧ regs0 t) ∧
    (table 2 → Runs (.clsRead r v) s fun t => t.girt = s.girt ∧ regs0 t ∧
      (∀ q, tget? s.girt.cls i = some q → t.dataWord GRT_CLS_DATA 0 = q.1.toNat ∧ t.dataWord GRT_CLS_DATA 1 = q.2.toNat) ∧
      (∀ m n o d, tget? s.girt.clsCnt i = some [m, n, o, d] → t.reg (GRT_CLS_DATA 4) = m % 2 ^ 32 ∧
        t.reg (GRT_CLS_DATA 5) = n % 2 ^ 32 ∧ t.reg (GRT_CLS_DATA 6) = o % 2 ^ 32 ∧ t.reg (GRT_CLS_DATA 7) = d % 2 ^ 32)) ∧
    (table 3 → Runs (.clsDelete r v) s fun t => tget? t.girt.cls i = none ∧
      (∀ j ≠ i, tget? t.girt.cls j = tget? s.girt.cls j) ∧ t.girt.fgs = s.girt.fgs ∧ regs0 t) ∧
    (flows 1 → Runs (.fgWrite r v) s fun t => (∀ j < 5, t.fgWord g j = s.dataWord GRT_FG_DATA j) ∧
      (∀ j ≠ g, tget? t.girt.fgs j = tget? s.girt.fgs j) ∧ t.girt.cls = s.girt.cls ∧ regs0 t) ∧
    (flows 2 → Runs (.fgRead r v) s fun t => (∀ j < 5, t.dataWord GRT_FG_DATA j = s.fgWord g j) ∧ t.girt = s.girt ∧ regs0 t) ∧
    (flows 3 → Runs (.fgDelete r v) s fun t => tget? t.girt.fgs g = none ∧ tget? t.girt.windows g = none ∧
      (∀ j ≠ g, tget? t.girt.fgs j = tget? s.girt.fgs j) ∧ t.girt.cls = s.girt.cls ∧ regs0 t) ∧
    -- ports
    (s.Accepts r (GRT_PORT_GCL p) (v ||| 0x80000000).toNat pi → Runs (.gclSwap r port v) s fun t =>
      p ∈ t.girt.swapReq ∧ t.gclOper p = s.gclOper p ∧ SamePages s t [0x301] ∧ idle t) ∧
    (s.Accepts r cfg v.toNat pi → s.flag cfg 31 = v.getLsbD 31 → Runs (.portCfgWrite r port v) s fun t =>
      let sp := bitsOf v.toNat 29 28
      let old := s.fld cfg 29 28
      let m := bitsOf v.toNat 21 16
      let bad := (sp = 1 ∧ p % 2 = 1) ∨ (sp = 2 ∧ p % 4 ≠ 0) ∨ ∃ l ∈ speedLanes p old ++ speedLanes p sp, s.laneOn l = true
      (p < 32 → t.fld cfg 29 28 = if sp = old ∨ ¬bad then sp else old) ∧
      (t.fld cfg 21 16 = if m = 63 ∨ (m < 40 ∧ m ≠ p ∧ (p < 32 → m < 32 → m / 4 ≠ p / 4)) then m else s.fld cfg 21 16) ∧
      t.fld cfg 15 8 = bitsOf v.toNat 15 8 ∧ (p < 32 → sp ≠ old → bad → s.flag (hdr 0x301 0x1C) 31 = false →
        t.fld (hdr 0x301 0x1C) 15 0 = 1 ∧ t.reg (hdr 0x301 0x20) = p) ∧
      t.girt = s.girt ∧ SamePages s t [0x301] ∧ idle t) ∧
    -- a frame arrives
    let act := actType a
    let handled := s.Arrives p f ∧ f.headerOk = true ∧ f.revOk = true ∧ s.picks p f e k a ∧ ¬(a.getLsbD 57 = true ∧ s.sleepState = true)
    let dropped (t : State) : Prop := cnt t (GRT_PORT_DROP_CNT p) 1 ∧ t.girt = s.girt ∧ t.out = s.out ∧ SameRegs s t [GRT_PORT_DROP_CNT p] ∧ idle t
    let one (reg : Nat) (t : State) : Prop := cnt t reg 1 ∧ t.girt = s.girt ∧ t.out = s.out ∧ SameRegs s t [reg] ∧ idle t
    (s.portOn p = false ∨ s.portActive p = false → Runs (.frameReceived port f) s same) ∧
    (s.portOn p = true → s.portActive p = true → ¬s.Arrives p f → Runs (.frameReceived port f) s dropped) ∧
    (s.Arrives p f → f.headerOk = false ∨ f.revOk = false → Runs (.frameReceived port f) s (one GRT_BADHDR_CNT)) ∧
    (s.Arrives p f → f.headerOk = true → f.revOk = true → (∀ y ∈ s.girt.cls, ¬s.keyFits y.2.1 p f) →
      Runs (.frameReceived port f) s (one GRT_MISS_CNT)) ∧
    (s.Arrives p f → f.headerOk = true → f.revOk = true → s.picks p f e k a → a.getLsbD 57 = true → s.sleepState = true →
      Runs (.frameReceived port f) s fun t => t.girt.waiting = s.girt.waiting ++ [(p, f)] ∧ t.out = s.out ∧ SameRegs s t [] ∧ idle t) ∧
    (handled → act = 0 → Runs (.frameReceived port f) s dropped) ∧
    (handled → act = 3 ∨ act = 4 → Runs (.frameReceived port f) s fun t =>
      t.out = s.out ++ [.frame (if act = 3 then 45 else 46) f.bytes] ∧ t.girt = s.girt ∧ SameRegs s t [] ∧ idle t) ∧
    -- a packet ring (R379)
    let b := actBay a
    let rg := actRing a
    let n := s.reg (GRT_RX_PROD b rg)
    let ent := (s.pktRing b 0 rg).1 + 32 * (n % (s.pktRing b 0 rg).2)
    let free := s.flag (GRT_RING_CTL b 0 rg) 31 = true ∧ sub32 n (s.reg (GRT_RX_CONS b rg)) < (s.pktRing b 0 rg).2 ∧ s.ringHeld (s.pktRing b 0 rg).1 = false
    let cut := f.bytes.take (bitsOf (wordAt bs 1) 31 16)
    let buf := bitsOf (wordAt bs 0) 47 0
    let ag := girtAgent b
    (handled → act = 2 → ¬free → Runs (.frameReceived port f) s fun t => cnt t (GRT_RING_DROP_CNT b 0 rg) 1 ∧
      t.flag (hdr (grtView b) 0x10) 1 = true ∧ t.girt = s.girt ∧ SamePages s t [grtView b] ∧ idle t) ∧
    (handled → act = 2 → free → a.getLsbD 56 = false → f.ptpEvent = false → s.NoErrors → (s.memRead ag ent 32).1 = .ok bs →
      (s.memWrite ag ent (List.replicate 32 0)).1 = true → (s.memWrite ag buf (List.replicate cut.length 0)).1 = true →
      ent + 32 ≤ hostBase → buf + cut.length ≤ hostBase → buf + cut.length ≤ ent ∨ ent + 32 ≤ buf → Runs (.frameReceived port f) s fun t =>
        t.bytes buf cut.length = cut ∧
        t.bytes ent 32 = toBytes 8 (putBits (wordAt bs 0) 63 63 1) ++
          toBytes 8 (p * 2 ^ 48 + bitsOf (wordAt bs 1) 31 16 * 2 ^ 16 + cut.length) ++ toBytes 8 0 ++
          toBytes 8 (bitNat (cut.length < f.bytes.length) * 2 ^ 16 + e) ∧
        t.reg (GRT_RX_PROD b rg) = add32 n 1 ∧ t.flag (hdr (grtView b) 0x10) 0 = true ∧ t.girt = s.girt ∧ t.truss = s.truss ∧
        SameBytesBut s t (fun y => inSpan buf cut.length y ∨ inSpan ent 32 y) ∧ SamePages s t (grtView b :: memoryPages)) ∧
    -- sections (R370 to R374)
    let fg := actFg a
    let st := actStream a
    let fmt := s.reg (GRT_FMT (s.fgFmt fg))
    let method := if bitOf fmt 8 then bitsOf fmt 15 12 else x.method.toNat
    let width := if bitOf fmt 8 then bitsOf fmt 4 0 else if x.width = 0 then 16 else x.width.toNat
    let names := method = bitsOf fmt 15 12 ∧ width = bitsOf fmt 4 0 ∧ method ≠ 15
    let awake := s.fgCar fg ∉ s.power.asleep
    let early := ∀ y, tget? s.girt.windows fg = some y → s.now < s.closeTime fg y
    let uplane := handled ∧ act = 1 ∧ s.girtHeld = false ∧ f.sections = [x] ∧ bitOf (s.fgWord fg 0) 63 = true ∧
      bitOf (s.fgWord fg 0) 62 = false ∧ s.fgPrach fg = false ∧
      (tget s.girt.clsCnt e [0, 0, 0, 0]).length = 4 ∧ (tget s.girt.fgCnt fg [0, 0, 0, 0]).length = 4
    let ec (t : State) (j : Nat) : Nat := (tget t.girt.clsCnt e [0, 0, 0, 0]).getD j 0
    let fc (t : State) (j : Nat) : Nat := (tget t.girt.fgCnt fg [0, 0, 0, 0]).getD j 0
    let unseen (t : State) : Prop := t.girt.windows = s.girt.windows ∧ SameRegs s t [] ∧ idle t
    let sound := x.subframeId.toNat < 10 ∧ x.slotId.toNat < s.fgSlots fg ∧ x.symbolId.toNat < (s.shape (s.fgCar fg)).perSlot ∧
      x.payload.length = x.numPrb.toNat * prbBytes method width
    let open' := tget? s.girt.windows fg = some w
    let prbs := (List.range x.numPrb.toNat).map (x.firstPrb.toNat + ·)
    let mine := prbs.filter (s.inGroup fg)
    let again := mine.filter fun q => w.got.contains (st, q)
    let unheard (fg : Nat) : Prop := ∀ h ∈ s.truss.frames, ∀ t ∈ h.tasks, t.evtKind ≠ 1 ∨ t.evtId ≠ fg
    let bytesOf (q : Nat) : List Byte := (x.payload.drop (prbBytes method width * (q - x.firstPrb.toNat))).take (prbBytes method width)
    (uplane → early → sound → ¬names → Runs (.frameReceived port f) s fun t => fc t 3 = heldSum (fc s 3) 1 ∧ t.girt.clsCnt = s.girt.clsCnt ∧ unseen t) ∧
    (uplane → ¬sound → Runs (.frameReceived port f) s (one GRT_BADHDR_CNT)) ∧
    (uplane → early → sound → names → (tget? s.girt.windows fg = none ∨ ¬awake ∨ (open' ∧ 0 < s.sectionAhead fg w x)) → Runs (.frameReceived port f) s fun t =>
      ec t 2 = heldSum (ec s 2) 1 ∧ t.girt.fgCnt = s.girt.fgCnt ∧ unseen t) ∧
    (uplane → early → awake → sound → names → open' → s.sectionAhead fg w x < 0 → Runs (.frameReceived port f) s fun t =>
      ec t 1 = heldSum (ec s 1) 1 ∧ t.girt.fgCnt = s.girt.fgCnt ∧ unseen t) ∧
    (uplane → sound → open' → s.closeTime fg w ≤ s.now → Runs (.frameReceived port f) s fun t => tget? t.girt.windows fg = none) ∧
    (uplane → early → awake → sound → names → (method = 0 ∧ width = 16) ∨ (method = 1 ∧ 1 ≤ width ∧ width ≤ 16) → open' → s.sectionAhead fg w x = 0 → s.NoErrors → unheard fg →
      (∀ q ∈ mine, (s.girtPut (s.fgBay fg) (s.prbAddr fg w st q) (List.replicate 48 0)).1 = true) → Runs (.frameReceived port f) s fun t =>
        (∀ q ∈ mine, ∀ i < 24, t.bytes (s.prbAddr fg w st q + 2 * i) 2 = toBytes 2 (wrap 16 (prbPart method width (bytesOf q) i))) ∧
        SameBytesBut s t (fun y => ∃ q ∈ mine, inSpan (s.prbAddr fg w st q) 48 y) ∧
        fc t 2 = heldSum (fc s 2) (prbs.length - mine.length) ∧ ec t 3 = heldSum (ec s 3) again.length ∧
        ∃ u, tget? t.girt.windows fg = some u ∧ u.slot = w.slot ∧ u.symbol = w.symbol ∧
          (∀ y, y ∈ u.got ↔ y ∈ w.got ∨ (y.1 = st ∧ y.2 ∈ mine)) ∧
          (u.raised = true ↔ w.raised = true ∨ ∀ k < s.fgStreams fg, ∀ q, s.inGroup fg q = true → (k, q) ∈ u.got) ∧
          (u.raised = true → w.raised = false → s.ToldIn t fg w.slot.toNat w.symbol)) ∧
    -- receive windows (R369, R372)
    let fn := fl.toNat
    let car := s.fgCar fn
    let no := s.symNo car slot.toNat symbol.toNat 0
    let may := bitOf (s.fgWord fn 0) 63 = true ∧ bitOf (s.fgWord fn 0) 62 = false ∧ s.flag GRT_CTL 0 = true ∧ s.islandUp 3 = true ∧
      s.carStarted car = true ∧ car ∉ s.power.asleep ∧ (∀ y ∈ tget s.ridge.skipped car [], ¬(y.1 < no + 1 ∧ no + 1 ≤ y.2)) ∧ symbol.toNat < (s.shape car).perSlot ∧
      (∀ l, tget? s.girt.lastWindow fn = some l → s.symNo car l.1.toNat l.2 0 < no) ∧
      (s.fgPrach fn = true → symbol.toNat = s.fgFirstSym fn)
    (may → Runs (.receiveWindowOpen fl slot symbol) s fun t =>
      tget? t.girt.windows fn = some ⟨slot, symbol.toNat, [], false⟩ ∧ tget? t.girt.lastWindow fn = some (slot, symbol.toNat)) ∧
    (¬may → Runs (.receiveWindowOpen fl slot symbol) s same) ∧
    (tget? s.girt.windows fn = none → Runs (.receiveWindowClose fl) s same) ∧
    (tget? s.girt.windows fn = some w → Runs (.receiveWindowClose fl) s fun t => tget? t.girt.windows fn = none) ∧
    (tget s.ridge.skipped car [] = [] → s.closeTime fn w = s.symTime car (s.symNo car w.slot.toNat w.symbol
      (if s.fgPrach fn = true then s.fgReps fn + 1 else 2)) + s.fgOff fn * (nsUnit : Int)) ∧
    (tget? s.girt.windows fn = some w → s.NoErrors → unheard fn → s.fgPrach fn = false →
      (∀ k < s.fgStreams fn, ∀ q, s.inGroup fn q = true →
        (s.girtPut (s.fgBay fn) (s.prbAddr fn w k q) (List.replicate 48 0)).1 = true) →
      (∀ k < s.fgStreams fn, ∀ j < s.fgStreams fn, ∀ q q', s.inGroup fn q = true → s.inGroup fn q' = true → (k, q) ≠ (j, q') →
        s.prbAddr fn w k q + 48 ≤ s.prbAddr fn w j q' ∨ s.prbAddr fn w j q' + 48 ≤ s.prbAddr fn w k q) →
      s.closeTime fn w ≤ s.now → Runs (.receiveWindowClose fl) s fun t =>
        tget? t.girt.windows fn = none ∧ (w.raised = false → car ∉ s.power.asleep → s.ToldIn t fn w.slot.toNat w.symbol) ∧
        (∀ y, s.fgStreams fn = 1 → s.flowEntry fn 0 = some y → (tget s.girt.clsCnt y [0, 0, 0, 0]).length = 4 →
          (tget t.girt.clsCnt y [0, 0, 0, 0]).getD 0 0 = heldSum ((tget s.girt.clsCnt y [0, 0, 0, 0]).getD 0 0)
            (if s.lacks fn w 0 = [] then 0 else 1)) ∧
        ∀ k < s.fgStreams fn, ∀ q, s.inGroup fn q = true →
          t.bytes (s.prbAddr fn w k q) 48 = if (k, q) ∈ w.got then s.bytes (s.prbAddr fn w k q) 48 else List.replicate 48 0)

/-- The gate lists' cycles, sections built from marked planes and sent, and packets of the TX rings (R376, R377, R380).
Model's choices that it rests on: log 93, 96, 97.
The conclusion is `exec … = .next t` (`Runs`) for: gclAnchor, gclIntervalEnd, txSectionsBuild, txFrameSent, txRingProducer. -/
def Obligations.GirtSendsUnderGates : Prop :=
  ∀ (s : State) (r : Requester) (pi : PageInfo) (port : Fin 40) (slot : BitVec 32) (symbol : BitVec 4) (fl : FlowNo) (b : BayNo)
    (ring : Fin 16) (bs frame : List Byte) (x : TxItem) (w : Nat) (xs : List Int),
    let p := port.val
    let car := s.portAnchor p
    let no := s.symNo car slot.toNat symbol.toNat 0
    let idle (t : State) : Prop := t.truss = s.truss ∧ SameCompute s t
    let same (t : State) : Prop := t.girt = s.girt ∧ t.out = s.out ∧ SameRegs s t [] ∧ idle t
    let fc (t : State) (g j : Nat) : Nat := (tget t.girt.fgCnt g [0, 0, 0, 0]).getD j 0
    let counts := ∀ g, (tget s.girt.fgCnt g [0, 0, 0, 0]).length = 4
    let may := s.portOn p = true ∧ s.carStarted car = true ∧ symbol.toNat < (s.shape car).perSlot ∧
      (∀ y ∈ tget s.ridge.skipped car [], ¬(y.1 < no ∧ no ≤ y.2)) ∧ ∀ l, tget? s.girt.cycleSym p = some l → s.symNo car l.1.toNat l.2 0 < no
    let swap := p ∈ s.girt.swapReq
    let fits (g c n : Nat) : Prop := ∀ e, s.gateEnd g c = some e → s.now * s.portRate p + ((8 * n * nsUnit : Nat) : Int) ≤ e * s.portRate p
    -- the anchor event: the list in use starts again
    (may → Runs (.gclAnchor port slot symbol) s fun t =>
      tget? t.girt.gate p = some 0 ∧ tget? t.girt.cycleSym p = some (slot, symbol.toNat) ∧ p ∉ t.girt.swapReq ∧
      (s.gclOper p < 2 → t.gclOper p = if swap then 1 - s.gclOper p else s.gclOper p) ∧
      (∀ m ∈ t.girt.marks, m ∈ s.girt.marks) ∧
      (∀ q, ∀ y ∈ tget t.girt.txq q [], y ∈ tget s.girt.txq q [] ∧
        ¬(s.fgPort y.fg = p ∧ bitOf (tget s.girt.opened p 0) y.cls = true ∧ y.cls < 8 ∧ bitOf (t.gates p) y.cls = false)) ∧ t.girt.cls = s.girt.cls ∧ t.girt.fgs = s.girt.fgs ∧ SameCompute s t ∧ t.out = s.out) ∧
    (¬may → Runs (.gclAnchor port slot symbol) s same) ∧
    -- a gate closes on groups that are not ready, and opens no others
    (∀ l, tget? s.girt.cycleSym p = some l → s.portOn p = true → s.carStarted car = true → counts → tget s.girt.gate p 0 + 1 < s.gclLen p →
      let at' := s.anchorTime p l.1.toNat l.2 + (s.gclTime p (tget s.girt.gate p 0 + 1) : Int) * (nsUnit : Int)
      at' ≤ s.now → at' < s.symTime car (s.symNo car l.1.toNat l.2 1) - (s.reg (GRT_PORT_ADV p) : Int) * (nsUnit : Int) →
      Runs (.gclIntervalEnd port) s fun t =>
        let next := bitsOf (s.reg (gclEntry p (s.gclOper p) (tget s.girt.gate p 0 + 1))) 31 24
        let shut (g : Nat) : Prop := bitOf (s.gates p) (s.fgClass g) = true ∧ bitOf next (s.fgClass g) = false
        tget? t.girt.gate p = some (tget s.girt.gate p 0 + 1) ∧ t.gates p = next ∧
        (∀ g, g ∈ s.liveFgs p → s.girt.fgs.map (·.1) = (s.girt.fgs.map (·.1)).eraseDups → shut g → s.markFor g = none → g ∉ s.girt.sent →
          g ∈ t.girt.sent ∧ fc t g 0 = heldSum (fc s g 0) (s.fgStreams g)) ∧
        (∀ q, ∀ y ∈ tget t.girt.txq q [], s.fgPort y.fg = p → ¬(bitOf (s.gates p) y.cls = true ∧ bitOf next y.cls = false)) ∧
        SameCompute s t ∧ t.out = s.out) ∧
    (tget? s.girt.cycleSym p = none ∨ s.portOn p = false ∨ s.carStarted car = false → Runs (.gclIntervalEnd port) s same) ∧
    -- sections
    (let g := fl.toNat
     let q := s.fgPort g
     let fmt := s.reg (GRT_FMT (s.fgFmt g))
     let go := g ∈ s.liveFgs q ∧ s.portOn q = true ∧ g ∉ s.girt.sent ∧ bitOf (s.gates q) (s.fgClass g) = true ∧ bitsOf fmt 15 12 ≠ 15
     let via := if g ∈ s.girt.viaMate then (s.mate q).getD q else q
     let step := if bitsOf (s.fgWord g 4) 23 16 = 0 then s.fgPrbs g else bitsOf (s.fgWord g 4) 23 16
     let ax := bitsOf (s.fgWord g 4) 15 0
     (s.markFor g = none ∨ ¬go → Runs (.txSectionsBuild fl) s same) ∧
     (∀ m, s.markFor g = some m → go → s.NoErrors → s.fgStreams g = 1 → 0 < s.fgPrbs g → s.fgPrbs g ≤ step →
       let a := s.fgBase g + m.2.1 * s.fgSymStride g
       (s.memRead (girtAgent (s.fgBay g)) a (48 * s.fgPrbs g)).1 = .ok bs → a + 48 * s.fgPrbs g ≤ hostBase → Runs (.txSectionsBuild fl) s fun t =>
         let sq := tget s.girt.seqNo (q * 65536 + ax) 0
         let parts (i : Nat) : List Int := ofCi16 ((bs.drop (48 * i)).take 48)
         t.girt.txq = tput s.girt.txq via (tget s.girt.txq via [] ++ [⟨g, s.fgClass g, ax, sq, m.2.2.1, m.2.2.2, s.fgFirstPrb g, s.fgPrbs g,
           s.fgHeader g ++ (List.range (s.fgPrbs g)).flatMap fun i => (packPrb (bitsOf fmt 15 12) (bitsOf fmt 4 0) (parts i)).1⟩]) ∧
         tget? t.girt.seqNo (q * 65536 + ax) = some ((sq + 1) % 256) ∧ m ∉ t.girt.marks ∧ g ∈ t.girt.sent ∧
         t.out = s.out ∧ SamePages s t (0x30A :: memoryPages) ∧ idle t)) ∧
    -- BFP compression (R374)
    (w = 8 ∨ w = 9 ∨ w = 12 ∨ w = 14 → xs.length = 24 → ∃ e ≤ 15,
      let z := (packPrb 1 w xs).1
      z.length = 1 + 3 * w ∧ z.headD 0 = BitVec.ofNat 8 e ∧ (fitsBfp w xs e ∨ e = 15) ∧ (∀ d < e, ¬fitsBfp w xs d) ∧
      (∀ i < 24, sgn w (netBits (z.drop 1) (w * i) w) = (satRule w true (rnd (xs.getD i 0) e)).toInt) ∧
      (fitsBfp w xs e → (packPrb 1 w xs).2 = 0)) ∧
    -- what leaves a port
    (let sends := s.portOn p = true ∧ s.portActive p = true ∧ tget? s.girt.txq p = some [x] ∧ x.cls < 8 ∧
       bitOf (s.gates (s.fgPort x.fg)) x.cls = true ∧ tget s.girt.pktq p [] = []
     (sends → ¬fits (s.fgPort x.fg) x.cls x.bytes.length → Runs (.txFrameSent port) s same) ∧
     (sends → fits (s.fgPort x.fg) x.cls x.bytes.length → Runs (.txFrameSent port) s fun t =>
        t.out = s.out ++ [.sections p x.eaxc x.seqNo x.slot x.symbol x.firstPrb x.numPrb x.bytes] ∧ tget t.girt.txq p [] = [] ∧ SameRegs s t [] ∧ idle t)) ∧
    (s.portOn p = false ∨ s.portActive p = false → tget? s.girt.txq p = some [x] → tget s.girt.pktq p [] = [] → counts →
      Runs (.txFrameSent port) s fun t => fc t x.fg 1 = heldSum (fc s x.fg 1) 1 ∧ tget? t.girt.txq p = none ∧ t.out = s.out ∧
        SameRegs s t [] ∧ idle t) ∧
    -- a TX packet ring of one entry: it waits at its port, is sent, and completes
    (let i := s.reg (GRT_TX_CONS b.val ring.val)
     let ag := girtAgent b.val
     let rg := s.pktRing b.val 1 ring.val
     let ent := rg.1 + 32 * (i % rg.2)
     let w0 := wordAt bs 0
     let dest := bitsOf (wordAt bs 1) 21 16
     let read := (s.memRead ag ent 16).1 = .ok bs ∧ (s.memWrite ag ent (List.replicate 8 0)).1 = true ∧ ent + 16 ≤ hostBase ∧ s.NoErrors
     let completed (t : State) (err : Nat) : Prop := t.bytes ent 8 = toBytes 8 (putBits w0 63 62 (2 + err)) ∧
       t.reg (GRT_TX_CONS b.val ring.val) = add32 i 1 ∧ t.flag (hdr (grtView b.val) 0x10) 2 = true ∧
       SameBytesBut s t (inSpan ent 8)
     let run := s.flag (GRT_RING_CTL b.val 1 ring.val) 31 = true ∧ s.ringHeld rg.1 = false ∧
       (∀ e ∈ s.girt.pktq, ∀ y ∈ e.2, y.1 ≠ b.val ∨ y.2.1 ≠ ring.val)
     (s.Accepts r (GRT_TX_PROD b.val ring.val) (add32 i 1) pi → i < 2 ^ 32 → run → read →
       (dest < 40 → s.portOn dest = true → s.portActive dest = true → Runs (.txRingProducer r b ring (BitVec.ofNat 32 (add32 i 1))) s fun t =>
         tget? t.girt.pktq dest = some (tget s.girt.pktq dest [] ++ [(b.val, ring.val, i)]) ∧ t.out = s.out ∧ SameMemory s t ∧
         t.reg (GRT_TX_CONS b.val ring.val) = i ∧ t.truss = s.truss) ∧
       (40 ≤ dest ∨ s.portOn dest = false ∨ s.portActive dest = false → Runs (.txRingProducer r b ring (BitVec.ofNat 32 (add32 i 1))) s fun t =>
         completed t 1 ∧ t.girt = s.girt ∧ t.truss = s.truss)) ∧
     (s.portOn p = true → s.portActive p = true → tget s.girt.txq p [] = [] → tget? s.girt.pktq p = some [(b.val, ring.val, i)] →
       bitOf (s.gates p) (bitsOf (wordAt bs 1) 26 24) = true → fits p (bitsOf (wordAt bs 1) 26 24) (bitsOf (wordAt bs 1) 15 0) → bitsOf (wordAt bs 1) 28 27 = 0 → read → i < 2 ^ 32 →
       s.reg (GRT_TX_PROD b.val ring.val) = add32 i 1 →
       (s.memRead ag (bitsOf w0 47 0) (bitsOf (wordAt bs 1) 15 0)).1 = .ok frame → bitsOf w0 47 0 + bitsOf (wordAt bs 1) 15 0 ≤ hostBase →
       Runs (.txFrameSent port) s fun t =>
         Output.frame p frame ∈ t.out ∧ completed t 0 ∧ tget t.girt.pktq p [] = [] ∧ t.truss = s.truss))

/-- Functions, their vectors and resets, accesses through the BARs and to host windows, and the Bays' Bents, engines and resets
(R382 to R386, R390, R391).
Model's choices that it rests on: log 13, 20, 21, 22, 99.
The conclusion is `exec … = .next t` (`Runs`) for: fnCfgWrite, bayIrqWrite, hostConfigWrite, functionLevelReset,
hostWindowRequest, hostCompletion, hostCompletionTimeout, hostBar0Access, registerWrite, wideLatchRead, hostBar2Access,
hostBar4Access, bayBentsWrite, bentMoveDone, bayEngWrite, bayReset, bayResetDone. -/
def Obligations.HostsAndBays : Prop :=
  ∀ (s : State) (r : Requester) (h : HostNo) (fn : FnNo) (b : BayNo) (n : BentNo) (cls : Fin 9) (v : BitVec 32) (pi : PageInfo)
    (w : ConfigWrite) (addr off : BitVec 48) (o : BitVec 32) (len : BitVec 7) (data : BitVec 512) (x : BitVec 64) (size : AccessSize)
    (st : CplStatus) (bs : List Byte) (q : HostNo × HostReq) (write : Bool) (nb : Nat),
    let cnt (t : State) (a k : Nat) : Prop := t.reg a = min (s.reg a + k) 0xFFFFFFFF
    let calm (t : State) : Prop := t.truss = s.truss ∧ SameCompute s t
    let same (t : State) : Prop := SameRegs s t [] ∧ calm t ∧ t.fns = s.fns ∧ t.out = s.out
    let event (t : State) (p k : Nat) : Prop := t.flag (hdr p 0x10) k = true
    -- functions and vectors (R382, R385, R386)
    (s.Accepts r (HST_FN_CFG h.val) v.toNat pi → Runs (.fnCfgWrite r h v) s fun t =>
      let k := s.fld (HST_FN_SEL h.val) 4 0
      t.fnOn h.val k = v.getLsbD 31 ∧ t.fnBay h.val k = bitsOf v.toNat 2 0 ∧ t.fns = s.fns ∧
      (∀ j < 17, j ≠ k → t.fnOn h.val j = s.fnOn h.val j ∧ t.fnBay h.val j = s.fnBay h.val j)) ∧
    (s.Accepts r (BAY_IRQ b.val) v.toNat pi → Runs (.bayIrqWrite r b v) s fun t =>
      let host := bitsOf v.toNat 9 8
      let f := bitsOf v.toNat 4 0
      t.fld (BAY_IRQ b.val) 9 8 = host ∧ t.fld (BAY_IRQ b.val) 4 0 = f ∧ t.flag (BAY_IRQ b.val) 31 = v.getLsbD 31 ∧
      (v.getLsbD 31 = false → ∀ k ∈ s.bayPend, k ∈ t.bayPend) ∧
      (v.getLsbD 31 = true → (∀ k ∈ t.bayPend, k / 256 ≠ b.val) ∧ ∀ i < 256, b.val * 256 + i ∈ s.bayPend →
        if s.msixReady host f i then
          let e := tget s.msix (msixKey host f i) ⟨0, 0, true⟩
          .msix (Fin.ofNat 4 host) (Fin.ofNat 17 f) e.addr e.data ∈ t.out
        else msixKey host f i ∈ t.pba)) ∧
    (s.linkL0 h.val = false → Runs (.hostConfigWrite h fn w) s same) ∧
    (s.linkL0 h.val = true → s.life.booted = false → Runs (.hostConfigWrite h fn w) s fun t => t.answer = .retry ∧ same t) ∧
    (s.linkL0 h.val = true → s.life.booted = true → Runs (.hostConfigWrite h fn w) s fun t =>
      (t.fn h.val fn.val = match w with
        | .busMaster on => { s.fn h.val fn.val with bme := on }
        | .msixEnable on => { s.fn h.val fn.val with msixEn := on }
        | .functionMask on => { s.fn h.val fn.val with masked := on }) ∧
      (∀ i < 256, t.msixReady h.val fn.val i = true → msixKey h.val fn.val i ∉ t.pba)) ∧
    (let gone (t : State) (g : Nat) : Prop := t.fn h.val g = ⟨false, false, false, false, false⟩ ∧
       ∀ i < 256, msixKey h.val g i ∉ t.pba ∧ tget? t.msix (msixKey h.val g i) = none
     let left (t : State) : Prop := calm t ∧ t.bayResets = s.bayResets
     Runs (.functionLevelReset h (.flr fn)) s (fun t => left t ∧ event t (hstPage h.val) 2 ∧ tget? t.fns (fnKey h.val fn.val) = none ∧
       (∀ k ∈ t.fns, k ∈ s.fns) ∧ SamePages s t [hstPage h.val]) ∧
     Runs (.functionLevelReset h .hotReset) s (fun t => left t ∧ (∀ g < 17, gone t g) ∧ SameRegs s t []) ∧
     Runs (.functionLevelReset h .linkDown) s (fun t => left t ∧ t.linkL0 h.val = false ∧
       (∀ g < 17, gone t g) ∧
       (s.linkL0 h.val = true → cnt t (HST_LINKDOWN_CNT h.val) 1 ∧ event t (hstPage h.val) 1))) ∧
    -- host windows (R384)
    (let a := addr.toNat
     let k := (a - hostBase) / 0x100000000000
     let bay := (s.agent r).bay
     let g := s.fld (BAY_HWIN_FN bay k) 4 0
     let dest := BitVec.ofNat 64 ((s.wide (BAY_HWIN_LO bay k) / 4096 * 4096 + (a - hostBase - k * 0x100000000000)) % 2 ^ 64)
     let good := s.fnBay k g = bay ∧ s.fnOn k g = true ∧ (s.fn k g).bme = true ∧ s.linkL0 k = true
     let reqs := isHost r = false ∧ hostBase ≤ a ∧ a + len.toNat ≤ hostBase + 0x400000000000 ∧ 0 < len.toNat ∧
       (a + len.toNat - 1 - hostBase) / 0x100000000000 = k ∧ s.islandUp 3 = true
     (reqs → good → Runs (.hostWindowRequest r addr len true data) s fun t =>
       t.out = s.out ++ [.hostWrite (Fin.ofNat 4 k) (Fin.ofNat 17 g) dest (toBytes len.toNat data.toNat)] ∧ t.answer = .posted ∧
       t.hostReqs = s.hostReqs ∧ SameRegs s t [] ∧ calm t) ∧
     (reqs → good → Runs (.hostWindowRequest r addr len false data) s fun t =>
       t.out = s.out ++ [.hostRead (Fin.ofNat 4 k) (Fin.ofNat 17 g) dest len.toNat] ∧ t.answer = .held ∧
       t.hostReqs = s.hostReqs ++ [(Fin.ofNat 4 k, ⟨r, Fin.ofNat 17 g, dest, len.toNat, s.ridge.ticks⟩)] ∧ SameRegs s t [] ∧ calm t) ∧
     (reqs → ¬good → Runs (.hostWindowRequest r addr len write data) s fun t =>
       t.answer = .busError ∧ t.hostReqs = s.hostReqs ∧ same t)) ∧
    (s.hostReqs.find? (fun y => y.1 == h) = none →
      Runs (.hostCompletion h st data) s same ∧ Runs (.hostCompletionTimeout h) s same) ∧
    (s.hostReqs.find? (fun y => y.1 == h) = some q →
      (Runs (.hostCompletion h .ok data) s fun t => t.answer = .data (toBytes q.2.len data.toNat) ∧ t.hostReqs = s.hostReqs.erase q ∧ same t) ∧
      (st ≠ .ok → Runs (.hostCompletion h st data) s fun t => t.answer = .busError ∧ t.hostReqs = s.hostReqs.erase q ∧
        cnt t (HST_CPL_ERR_CNT h.val) 1 ∧ SameRegs s t [HST_CPL_ERR_CNT h.val] ∧ calm t) ∧
      Runs (.hostCompletionTimeout h) s fun t => t.answer = .busError ∧ t.hostReqs = s.hostReqs.erase q ∧
        cnt t (HST_CPL_ERR_CNT h.val) 1 ∧ t.ridge.ticks = max s.ridge.ticks (q.2.since + 50000000) ∧ calm t) ∧
    -- BARs (R383)
    (let who := Requester.host h fn
     let own := o.toNat / 4096 = 6 ∨ o.toNat / 4096 = 7
     let e := s.msix
     let key := msixKey h.val fn.val (o.toNat % 4096 / 16)
     (o.toNat < 0x4000000 → ¬own →
       exec (.hostBar0Access h fn o size true x) s = exec (.registerWrite who (BitVec.ofNat 26 o.toNat) size x) s ∧
       exec (.hostBar0Access h fn o .b4 false x) s = exec (.wideLatchRead who (BitVec.ofNat 26 o.toNat)) s) ∧
     (0x4000000 ≤ o.toNat → s.gateOf who (o.toNat / 4096) = .open → Runs (.hostBar0Access h fn o size false x) s fun t =>
       t.answer = .unsupported ∧ cnt t (HST_UR_CNT h.val) 1 ∧ SameRegs s t [HST_UR_CNT h.val] ∧ calm t) ∧
     (o.toNat / 4096 = 6 → o.toNat % 16 = 8 → s.gateOf who 6 = .open → Runs (.hostBar0Access h fn o .b4 true x) s fun t =>
       t.answer = .posted ∧ tget? t.msix key = some { tget e key ⟨0, 0, true⟩ with data := x.setWidth 32 } ∧
       (∀ j ≠ key, tget? t.msix j = tget? e j) ∧ SameRegs s t [] ∧ calm t) ∧
     (o.toNat / 4096 = 6 → o.toNat % 16 = 8 → s.gateOf who 6 = .open → Runs (.hostBar0Access h fn o .b4 false x) s fun t =>
       t.answer = .value ((tget e key ⟨0, 0, true⟩).data.setWidth 64) ∧ same t) ∧
     (o.toNat / 4096 = 7 → o.toNat % 4 = 0 → o.toNat % 4096 < 32 → s.gateOf who 7 = .open → Runs (.hostBar0Access h fn o .b4 false x) s fun t =>
       (∃ y : BitVec 64, t.answer = .value y ∧ ∀ i < 32, y.getLsbD i = decide (msixKey h.val fn.val (8 * (o.toNat % 4096) + i) ∈ s.pba)) ∧ same t)) ∧
    (let reach := s.life.inReset = false ∧ s.life.refclkLost = false ∧ s.pins.resetN = true ∧ s.linkL0 h.val = true ∧ s.life.booted = true ∧
       s.flag TRS_STAT 0 = false ∧ s.fnOn h.val fn.val = true
     let normal := reach ∧ s.devState ≠ 3
     let ag := s.agent (.host h fn)
     let l := len.toNat
     let mapped (a : Nat) (i : Bool → Instr) : Prop :=
       (s.NoErrors → (s.memRead ag a l).1 = .ok bs → Runs (i false) s fun t => t.answer = .data bs ∧ SameMemory s t ∧ t.cores = s.cores ∧ t.truss = s.truss) ∧
       ((s.memRead ag a l).1 = .error .bus → Runs (i false) s fun t =>
         t.answer = .completerAbort ∧ cnt t (HST_CA_CNT h.val) 1 ∧ t.truss = s.truss) ∧
       (s.NoErrors → (s.memWrite ag a (toBytes l data.toNat)).1 = true → Runs (i true) s fun t =>
         t.answer = .posted ∧ t.bytes a l = toBytes l data.toNat ∧ SameBytesBut s t (inSpan a l) ∧ t.cores = s.cores ∧ t.truss = s.truss) ∧
       (0 < l → (s.memWrite ag a (toBytes l data.toNat)).1 = false → l ≤ 1 → Runs (i true) s fun t =>
         t.answer = .posted ∧ (t.fn h.val fn.val).targetAbort = true ∧ (t.fn h.val fn.val).aerAbort = true ∧ SameMemory s t ∧ t.truss = s.truss)
     let unmapped (i : Bool → Instr) : Prop :=
       (Runs (i false) s fun t => t.answer = .unsupported ∧ cnt t (HST_UR_CNT h.val) 1 ∧ SameRegs s t [HST_UR_CNT h.val] ∧ calm t) ∧
       Runs (i true) s fun t => t.answer = .posted ∧ same t
     let bar2 (wr : Bool) : Instr := .hostBar2Access h fn off len wr data
     let bar4 (wr : Bool) : Instr := .hostBar4Access h fn off len wr data
     (reach → s.devState = 3 → unmapped bar2 ∧ unmapped bar4) ∧
     (normal →
       (off.toNat + l ≤ 0x3000000 → mapped (loftBase + off.toNat) bar2) ∧
       (0x3000000 ≤ off.toNat → off.toNat + l ≤ 0x3C00000 → mapped (bufBase + (off.toNat - 0x3000000)) bar2) ∧
       (0x3C00000 < off.toNat + l → unmapped bar2) ∧
       (off.toNat + l ≤ 2 ^ s.fld (HST_CFG h.val) 2 0 * 2 ^ 30 → off.toNat + l ≤ s.dramU → mapped (dramBase + off.toNat) bar4) ∧
       (s.dramU < off.toNat + l ∨ 2 ^ s.fld (HST_CFG h.val) 2 0 * 2 ^ 30 < off.toNat + l → unmapped bar4))) ∧
    -- Bents and engines (R390)
    ((b.val ∈ s.bayResets ∨ ∃ k < 8, k ≠ b.val ∧ Nat.land (s.reg (BAY_BENTS 0 k)) (v.toNat % 256) ≠ 0) →
      s.turnsDown r (BAY_BENTS 0 b.val) v.toNat = true) ∧
    (s.Accepts r (BAY_BENTS 0 b.val) v.toNat pi → Runs (.bayBentsWrite r b v) s fun t =>
      t.reg (BAY_BENTS 0 b.val) = v.toNat % 256 ∧ (∀ k < 8, k ≠ b.val → t.reg (BAY_BENTS 0 k) = s.reg (BAY_BENTS 0 k)) ∧
      ∀ k < 8, (∀ m ∈ s.bentMoves, m.1 ≠ k) →
        (t.bentBay k = s.owner (0x40 + k) → (t.island (8 + k)).crossing = (s.island (8 + k)).crossing ∧ ∀ m ∈ t.bentMoves, m.1 ≠ k) ∧
        (t.bentBay k ≠ s.owner (0x40 + k) → (k, t.bentBay k) ∈ t.bentMoves ∧ (t.island (8 + k)).crossing = .resetting)) ∧
    (s.bentMoves.find? (fun m => m.1 == n.val) = none → Runs (.bentMoveDone n) s same) ∧
    (s.bentMoves.find? (fun m => m.1 == n.val) = some (n.val, nb) → nb < 8 → Runs (.bentMoveDone n) s fun t =>
      (∀ m ∈ t.bentMoves, m.1 ≠ n.val) ∧ t.owner (0x40 + n.val) = nb ∧ (∀ k < 9, t.owner (0x80 + 9 * n.val + k) = nb) ∧
      (t.island (8 + n.val)).crossing = .active ∧ event t (0x360 + nb) 1) ∧
    (b.val ∈ s.bayResets → s.turnsDown r (BAY_ENG 0 b.val cls.val) v.toNat = true) ∧
    (s.Accepts r (BAY_ENG 0 b.val cls.val) v.toNat pi → Runs (.bayEngWrite r b cls v) s fun t =>
      t.reg (BAY_ENG 0 b.val cls.val) = v.toNat % 0x10000 ∧ SameRegs s t [BAY_ENG 0 b.val cls.val, hdr 0x360 0x2C] ∧ calm t) ∧
    -- Bay resets (R391)
    (∀ zero : Bool, s.Accepts r (if zero then BAY_RESET_REQ 0 b.val else BAY_CTL b.val) (v ||| (if zero then 1 else 0x80000000)).toNat pi →
      (b.val ∈ s.bayResets → Runs (.bayReset r b zero v) s fun t =>
        t.bayResets = s.bayResets ∧ t.islands = s.islands ∧ t.loft = s.loft ∧ t.skid = s.skid ∧ calm t) ∧
      (b.val ∉ s.bayResets → s.flag TRS_STAT 0 = false → Runs (.bayReset r b zero v) s fun t =>
        t.flag (BAY_STAT b.val) 31 = true ∧ t.bayResets = s.bayResets ++ [b.val] ∧
        (∀ k < 8, s.owner (0x40 + k) = b.val → (s.island (8 + k)).crossing ≠ .off → (t.island (8 + k)).crossing = .resetting) ∧
        (∀ c < 64, s.owner (skidPage c) = b.val → t.skidSt c = 0) ∧ (∀ y ∈ s.windowRanges b.val, y ∈ t.loft.wiping) ∧
        t.girt.fgs = s.girt.fgs ∧ t.girt.cls = s.girt.cls ∧ t.ridge.cars = s.ridge.cars)) ∧
    (b.val ∉ s.bayResets → Runs (.bayResetDone b) s same) ∧
    (b.val ∈ s.bayResets → Runs (.bayResetDone b) s fun t => t.flag (BAY_STAT b.val) 31 = false ∧ b.val ∉ t.bayResets ∧
      event t (0x360 + b.val) 0 ∧ (∀ p ∈ s.bayPages b.val, t.flag (hdr p 0x08) 31 = false) ∧
      (∀ k < 8, s.owner (0x40 + k) = b.val → 8 + k ∈ s.islandResets → (∀ m ∈ s.bentMoves, m.1 ≠ k) → (t.island (8 + k)).crossing = .active))

/-! ## Islands, resets, boot and life cycle (15) -/

/-- Crossings, quarantine and island resets, routers, and PLL partners (R397 to R406, R452, R457).
Model's choices that it rests on: log 100.
The conclusion is `exec … = .next t` (`Runs`) for: crossingHold, quarantineEntry, islandReset, islandResetDone, routerDown,
rerouteComplete, purlinTimeout, pllPartnerTakeover. -/
def Obligations.IslandsAndRouters : Prop :=
  ∀ (s : State) (r : Requester) (v : BitVec 32) (pi : PageInfo) (isl : IslandNo) (qc : BitVec 2) (n : RouterNo) (host : Bool),
    let i := isl.toNat
    let cnt (t : State) (a k : Nat) : Prop := t.reg a = min (s.reg a + k) 0xFFFFFFFF
    let calm (t : State) : Prop := t.truss = s.truss ∧ SameCompute s t
    let same (t : State) : Prop := t.islands = s.islands ∧ SameRegs s t [] ∧ calm t
    let event (t : State) (p k : Nat) : Prop := t.flag (hdr p 0x10) k = true
    let x (t : State) (i : Nat) : Island := t.island i
    let others (t : State) (i : Nat) : Prop := ∀ j < 128, j ≠ i → t.island j = s.island j
    let mapped (t : State) : Bool := t.flag (XNG_QUAR_MAP (i / 32)) (i % 32)
    let sel := s.fld XNG_ISL_SEL 6 0
    let asks := s.Accepts r XNG_ISL_CTL (v ||| 0x80000000).toNat pi
    -- holds and quarantine
    (islandUsed i = true → (x s i).held = false → (x s i).crossing = .active → Runs (.crossingHold isl) s fun t =>
      (x t i).held = true ∧ (x t i).crossing = .active ∧ others t i ∧ cnt t XNG_HOLD_CNT 1 ∧ event t 3 3 ∧
      SameRegs s t [XNG_HOLD_CNT, hdr 3 0x10] ∧ calm t) ∧
    (islandUsed i = false ∨ (x s i).held = true ∨ (x s i).crossing ≠ .active → Runs (.crossingHold isl) s same) ∧
    (islandUsed i = true → mapped s = false → qc ≠ 0 → Runs (.quarantineEntry isl qc) s fun t =>
      (x t i).crossing = .quarantine ∧ (x t i).qcause = qc.toNat ∧ mapped t = true ∧ event t 3 0 ∧
      cnt t XNG_QUAR_CNT 1 ∧ (qc = 2 → others t i ∧ calm t ∧ (x t i).power = (x s i).power) ∧
      (qc = 1 → i < 8 ∨ 96 ≤ i → (x t i).power = 3) ∧
      (∀ j < 128, j ≠ i → (x s j).crossing = .active → (x t j).crossing = .active)) ∧
    (islandUsed i = false ∨ mapped s = true ∨ qc = 0 → Runs (.quarantineEntry isl qc) s same) ∧
    -- island resets
    (asks → islandAlone sel = false ∨ (x s sel).crossing = .off → Runs (.islandReset r v) s fun t =>
      t.islands = s.islands ∧ (s.flag (hdr 3 0x1C) 31 = false → t.fld (hdr 3 0x1C) 15 0 = 1 ∧ t.reg (hdr 3 0x20) = sel) ∧
      SamePages s t [3] ∧ calm t) ∧
    (asks → islandAlone sel = true → (x s sel).crossing = .resetting ∨ s.bayCovers sel = true → (x s sel).crossing ≠ .off →
      Runs (.islandReset r v) s fun t => t.islands = s.islands ∧ SamePages s t [3] ∧ calm t) ∧
    (asks → islandAlone sel = true → (x s sel).crossing ≠ .resetting → s.bayCovers sel = false → (x s sel).crossing ≠ .off →
      s.flag TRS_STAT 0 = false → Runs (.islandReset r v) s fun t =>
        (x t sel).crossing = .resetting ∧ others t sel ∧ sel ∈ t.islandResets ∧
        (16 ≤ sel → sel < 83 → (t.eng (sel - 16)).task = none) ∧
        (96 ≤ sel → calm t ∧ ∀ l ∈ pllLanes (sel - 96), t.laneSt l = 0) ∧
        (∀ c < 9, 8 ≤ sel → sel < 16 → t.flag (RFT_RUN (9 * (sel - 8) + c)) 0 = s.flag (RFT_RUN (9 * (sel - 8) + c)) 0 ∧
          t.executes (9 * (sel - 8) + c) = false)) ∧
    (i ∉ s.islandResets → Runs (.islandResetDone isl) s same) ∧
    (i ∈ s.islandResets → Runs (.islandResetDone isl) s fun t =>
      (x t i).crossing = .active ∧ (x t i).qcause = 0 ∧ others t i ∧ i ∉ t.islandResets ∧ mapped t = false ∧ event t 3 2 ∧
      (mapped s = true → event t 3 1) ∧ t.truss = s.truss ∧
      (16 ≤ i → i < 83 → ∀ a, a % 4 = 0 → a / 4096 = 0x100 + (i - 16) → 0x100 ≤ a % 4096 →
        t.reg a = (warmWord a (BitVec.ofNat 32 (s.reg a))).toNat)) ∧
    -- routers
    (s.flag (PUR_RTR_STAT n.val) 31 = true → Runs (.routerDown n) s same) ∧
    (s.flag (PUR_RTR_STAT n.val) 31 = false → Runs (.routerDown n) s fun t =>
      t.flag (PUR_RTR_STAT n.val) 31 = true ∧ t.flag (if n.val < 32 then PUR_DOWN_LO else PUR_DOWN_HI) (n.val % 32) = true ∧
      t.flag PUR_STAT 31 = true ∧ event t 0x3C0 0 ∧ (7, n.val) ∈ t.faults.failed ∧ t.islands = s.islands ∧ calm t) ∧
    (s.flag PUR_STAT 31 = true → Runs .rerouteComplete s fun t =>
      t.flag PUR_STAT 31 = false ∧ cnt t PUR_REROUTE_CNT 1 ∧ event t 0x3C0 1 ∧
      SameRegs s t [PUR_STAT, PUR_REROUTE_CNT, hdr 0x3C0 0x10] ∧ calm t) ∧
    (s.flag PUR_STAT 31 = false → Runs .rerouteComplete s same) ∧
    (host = true ∨ (s.flag (PUR_RTR_STAT n.val) 31 = true ∧ s.flag PUR_STAT 31 = false) → Runs (.purlinTimeout r n host) s same) ∧
    (host = false → s.flag (PUR_RTR_STAT n.val) 31 = false ∨ s.flag PUR_STAT 31 = true → Runs (.purlinTimeout r n host) s fun t =>
      t.answer = .busError ∧ cnt t PUR_TIMEOUT_CNT 1 ∧ event t 0x3C0 2 ∧ SameRegs s t [PUR_TIMEOUT_CNT, hdr 0x3C0 0x10] ∧ calm t) ∧
    -- a PLL's partner
    (i = 0 ∨ i = 2 ∨ i = 3 ∨ i = 4 → Runs (.pllPartnerTakeover isl) s fun t =>
      (x t i).pll = false ∧ (x t i).crossing = (x s i).crossing ∧ others t i ∧ t.flag PLT_FLT_DEGRADED 11 = true ∧
      t.reg PLT_FLT_HEAD = (s.reg PLT_FLT_HEAD + 1) % 2 ^ 32 ∧ calm t) ∧
    (i ≠ 0 → i ≠ 2 → i ≠ 3 → i ≠ 4 → Runs (.pllPartnerTakeover isl) s same)

/-- Cold and warm resets, the boot and its sources, and life-cycle transitions (R396, R404 to R417, R469).
Model's choices that it rests on: log 101, 102, 103, 104, 118, 121.
The conclusion is `exec … = .next t` (`Runs`) for: coldReset, hostBootGo, hostBootTimeout, refclkLoss, refclkRestored,
resetNAssert, warmReset, lcTransitionGo. -/
def Obligations.ResetsBootAndLifeCycle : Prop :=
  ∀ (s : State) (r : Requester) (v w : BitVec 32) (pi : PageInfo) (power : Bool) (sel : BitVec 2) (strap : BitVec 3),
    let blank (t : State) : Prop := ∀ a < 2 ^ 48, t.byte a = 0
    let calm (t : State) : Prop := t.truss = s.truss ∧ SameCompute s t
    let same (t : State) : Prop := SameRegs s t [] ∧ calm t ∧ t.life = s.life
    let l := s.life
    let done := l.inTransition = true ∧ power = false
    let st' := if done then l.pendingState.getD l.state else l.state
    let cause := if done then 5 else if l.pendingState.isSome then 4 else if power then 0 else 1
    let state := if done then st' else l.pendingState.getD l.state
    let strapBad := (state = 0 ∨ state = 3) ∧ 1 < strap.toNat
    let up (t : State) (cause source : Nat) : Prop :=
      t.life.booted = true ∧ t.life.awaitHost = false ∧ t.life.inReset = false ∧ t.life.source = source ∧ t.reg LCS_BOOT_STAT = 0 ∧
      t.reg XNG_RESET_CAUSE = cause ∧ t.reg TRS_EPOCH = (max l.epochA.toNat l.epochB.toNat + 1) % 2 ^ 32 ∧
      t.flag (hdr 1 0x10) 0 = true ∧ t.truss.frames = [] ∧ t.servo = 0 ∧ (∀ k, 16 ≤ k → k < 56 → t.laneSt k = 0) ∧
      (∀ k, k < 1024 → t.qOn k = false)
    let halted (t : State) (code : Nat) : Prop := t.reg LCS_BOOT_STAT = code ∧ t.life.booted = false ∧ t.life.awaitHost = false ∧
      t.ridge.fwRuns = false
    let good := l.trainFail = 0 ∧ l.faulty = [] ∧ l.bistFail = [] ∧ s.faults.failed = []
    let epochs := max l.epochA.toNat l.epochB.toNat + 1 < 2 ^ 32
    let goes (P : State → Prop) : Prop := Runs (.coldReset power sel strap) s P
    let asserted := s.flag (HST_LINK_STAT 0) 31 = true
    -- cold resets (R404, R409 to R411, R414, R417)
    (state = 4 → asserted → goes fun t => halted t 9 ∧ blank t ∧ t.life.state = 4) ∧
    (state ≠ 4 → sel = 3 ∨ strapBad → asserted → goes fun t => halted t 8 ∧ blank t) ∧
    (state ≠ 4 → ¬strapBad → sel = 1 ∨ (sel = 2 ∧ l.flashA ≠ 0 ∧ l.flashB ≠ 0) → asserted → goes fun t =>
      t.life.awaitHost = true ∧ t.life.booted = false ∧ t.ridge.fwRuns = false ∧ blank t ∧ t.reg XNG_RESET_CAUSE = cause) ∧
    (state ≠ 4 → ¬strapBad → sel = 0 → l.flashA ≠ 0 → l.flashB ≠ 0 → l.flashB < 16 → asserted → goes fun t => halted t l.flashB ∧ blank t) ∧
    (state ≠ 4 → state ≠ 0 → ¬strapBad → sel = 0 ∨ sel = 2 → l.flashA = 0 ∨ l.flashB = 0 → good → epochs → goes fun t =>
      up t cause (if l.flashA = 0 then 0 else 1) ∧ blank t ∧ t.truss.admits = true ∧ t.truss.dispatch = true ∧ t.life.state = state ∧
      t.life.pendingState = none ∧ t.life.inTransition = false ∧ t.life.bootSel = sel ∧ t.life.strap = strap ∧
      t.life.resumes = (if l.pendingState.isSome ∧ ¬done then l.resumes + 1 else 0)) ∧
    -- an image from HOST[0] (R410)
    (s.Accepts r LCS_BOOT_GO (v ||| 1).toNat pi → l.awaitHost = false → Runs (.hostBootGo r v) s fun t => t.life = l ∧ SamePages s t [1] ∧ calm t) ∧
    (s.Accepts r LCS_BOOT_GO (v ||| 1).toNat pi → l.awaitHost = true → s.fld LCS_BOOT_LEN 23 0 = 0 → Runs (.hostBootGo r v) s fun t =>
      t.reg LCS_BOOT_STAT = 5 ∧ t.life = l ∧ SamePages s t [1] ∧ calm t) ∧
    (s.Accepts r LCS_BOOT_GO (v ||| 1).toNat pi → l.awaitHost = true → 0 < s.fld LCS_BOOT_LEN 23 0 → good → Runs (.hostBootGo r v) s fun t =>
      (t.life.booted = true ∧ t.life.source = 2 ∧ t.reg LCS_BOOT_STAT = 0) ∨
        (t.life = l ∧ 2 ≤ t.reg LCS_BOOT_STAT ∧ t.reg LCS_BOOT_STAT ≤ 5 ∧ SamePages s t [1] ∧ calm t)) ∧
    (l.awaitHost = true → asserted → Runs .hostBootTimeout s fun t =>
      t.reg LCS_BOOT_STAT = 7 ∧ t.life.booted = false ∧ t.life.awaitHost = false ∧ calm t) ∧
    (l.awaitHost = false → Runs .hostBootTimeout s same) ∧
    -- REFCLK_SYS and RESET_N (R396, R469)
    Runs .refclkLoss s (fun t => t.life.refclkLost = true ∧ t.life.booted = false ∧ blank t ∧ t.reg XNG_RESET_CAUSE = 6) ∧
    (l.refclkLost = false → Runs .refclkRestored s same) ∧
    (l.refclkLost = true → l.pendingState = none → l.state = 1 ∨ l.state = 2 → l.bootSel = 0 → l.flashA = 0 → good → epochs →
      Runs .refclkRestored s fun t => up t 6 0 ∧ blank t ∧ t.life.refclkLost = false) ∧
    (w.toNat < 100 → Runs (.resetNAssert w) s same) ∧
    (1000 ≤ w.toNat → Runs (.resetNAssert w) s fun t => t.pins.resetN = false ∧ t.life.booted = false ∧ blank t ∧ t.reg XNG_RESET_CAUSE = 1) ∧
    -- warm resets (R404, R405, R407, R408)
    (let warmed (t : State) (cause : Nat) : Prop :=
       t.flag TRS_STAT 0 = true ∧ t.reg PLT_FW_STAT = 0xF02 ∧ t.reg XNG_RESET_CAUSE = cause ∧ t.truss.admits = false ∧ t.truss.dispatch = false ∧
       t.truss.frames = s.truss.frames ∧ (s.servo = 2 → t.servo = 3) ∧ (s.servo ≠ 2 → t.servo = s.servo) ∧
       (∀ a, (loftBase ≤ a ∧ a < loftBase + 0x3000000) ∨ (bufBase ≤ a ∧ a < bufBase + 0xC00000) ∨ (dataBase ≤ a ∧ a < dataBase + 0x2400000) →
         t.byte a = 0) ∧
       (s.NoErrors → ∀ a, dramBase ≤ a → a < hostBase → t.byte a = s.byte a) ∧
       (∀ a, a % 4 = 0 → lanePages (a / 4096) = true → t.reg a = s.reg a) ∧ t.fns = s.fns ∧ t.msix = s.msix ∧
       t.reg TRS_EPOCH = s.reg TRS_EPOCH ∧ t.hub.fifo.length = 1
     let idle := (∀ c < 64, s.skidSt c = 0 ∧ (s.skidCh c).cur = none) ∧ ∀ c < 64, s.skidOffer c = none
     (l.inTransition = false → l.booted = true → s.flag TRS_STAT 0 = false → idle →
       Runs (.warmReset true r v) s (fun t => warmed t 2) ∧
       (s.Accepts r XNG_RESET_CTL (v ||| 0x80000000).toNat pi → Runs (.warmReset false r v) s fun t => warmed t 3)) ∧
     (l.inTransition = false → l.booted = false ∨ s.flag TRS_STAT 0 = true → Runs (.warmReset true r v) s same)) ∧
    -- life-cycle transitions (R415, R416)
    (s.Accepts r LCS_TRANS_GO v.toNat pi → l.inTransition = false →
      let tgt := s.fld LCS_TRANS_TGT 2 0
      let plate := isPlate r
      let exists' := (plate = true ∧ l.state = 0 ∧ tgt = 1) ∨ (l.state = 1 ∧ tgt = 2) ∨ (l.state = 2 ∧ tgt = 3) ∨
        ((l.state = 1 ∨ l.state = 2 ∨ l.state = 3) ∧ tgt = 4)
      let refused (t : State) (code : Nat) : Prop := t.reg LCS_TRANS_STAT = code ∧ t.flag (hdr 1 0x10) 1 = true ∧ t.life = l ∧
        SamePages s t [1] ∧ calm t
      let runs (t : State) : Prop := t.life.pendingState = some (BitVec.ofNat 3 tgt) ∧ t.life.inTransition = true ∧ t.life.state = l.state ∧
        t.truss.admits = false ∧ t.truss.dispatch = false ∧
        max t.life.epochA.toNat t.life.epochB.toNat = max l.epochA.toNat l.epochB.toNat + 1 ∧
        (∀ a, (loftBase ≤ a ∧ a < loftBase + 0x3000000) ∨ (dramBase ≤ a ∧ a < dramBase + 0x1000000000) → t.byte a = 0)
      (v ≠ 0x4C435854 → Runs (.lcTransitionGo r v) s fun t => refused t 2) ∧
      (v = 0x4C435854 → ¬exists' → Runs (.lcTransitionGo r v) s fun t => refused t 1) ∧
      (v = 0x4C435854 → exists' → epochs → Runs (.lcTransitionGo r v) s fun t => runs t ∨ (l.state = 2 ∧ tgt = 3 ∧ refused t 3)) ∧
      (v = 0x4C435854 → exists' → epochs → tgt ≠ 3 → Runs (.lcTransitionGo r v) s runs))

/-! ## Power states, wake, carrier sleep and profiles (16) -/

/-- Requests and their refusers, NAP and RETAIN, island states, TRIM, wakes, carrier sleep, profiles and the supply voltage
(R421, R422, R424 to R433, R435 to R437).
Model's choices that it rests on: log 105, 106, 107, 108, 113.
The conclusion is `exec … = .next t` (`Runs`) for: pwrDevRequest, powerTransitionDone, powerEntryAbort, pwrIslRequest,
trimGate, trimUngate, doorbell, deviceWake, wakePin, carrierSleepRequest, carrierSleepBoundary, profileSwitch,
profileSwitchDone, avsAdjust. -/
def Obligations.PowerStatesAndProfiles : Prop :=
  ∀ (s : State) (r : Requester) (v : BitVec 32) (pi : PageInfo) (isl : IslandNo) (rec : RecNo) (cause : BitVec 2)
    (src : WakeSource) (det : BitVec 12) (k : Fin 8) (high : Bool) (w : BitVec 32) (car : CarrierNo) (mv : BitVec 10)
    (f : Frame) (num : Nat) (x : Task),
    let cnt (t : State) (a : Nat) : Prop := t.reg a = min (s.reg a + 1) 0xFFFFFFFF
    let calm (t : State) : Prop := t.truss = s.truss ∧ SameCompute s t
    let event (t : State) (n : Nat) : Prop := t.flag (hdr 2 0x10) n = true
    let same (t : State) : Prop := t.power = s.power ∧ t.islands = s.islands ∧ SameRegs s t [] ∧ calm t
    let page (t : State) : Prop := SamePages s t [2] ∧ calm t
    let cur := s.fld PWR_DEV_STAT 1 0
    let prior := s.fld PWR_DEV_STAT 5 4
    let at' (t : State) (n : Nat) : Prop := t.fld PWR_DEV_STAT 1 0 = n
    let st := bitsOf v.toNat 1 0
    let bay := s.bayOf r
    let asks (a : Nat) : Prop := s.Accepts r a v.toNat pi
    let cross (t : State) (j : Nat) : Crossing := (t.island j).crossing
    let powered (j : Nat) : Prop := 8 ≤ j ∧ j ≤ 82
    let clock (p : Nat) : Nat := if p = 0 ∧ s.flag PWR_PROF_STAT 30 = false then 1800 else 1600
    let live (y : Task) : Prop := (∃ g ∈ s.truss.frames, y ∈ g.tasks) ∧ (y.st = .ready ∨ y.st = .running)
    let objects (st n : Nat) : Prop :=
      (n = 1 ∧ ∃ b < 8, s.flag (PWR_KEEP b) 0 = true) ∨ (n = 2 ∧ ∃ y, live y) ∨
      (n = 3 ∧ st = 3 ∧ ∃ c < 64, s.skidSt c = 2 ∨ s.skidSt c = 3) ∨
      (n = 4 ∧ ∃ l < 56, s.laneOn l = true ∧ 1 ≤ s.laneSt (s.laneFirst l) ∧ s.laneSt (s.laneFirst l) ≤ 5) ∨
      (n = 5 ∧ st = 3 ∧ s.planeBusy = true) ∨ (n = 6 ∧ st = 3 ∧ ∃ c < 16, s.flag DRC_STAT c = false ∧ s.ridge.ticks < (s.dramCh c).retrain)
    let free := s.power.target = none ∧ s.power.retCheck = none
    let waits := st = 3 ∧ s.planeBusy = true
    let calmRings := ∀ b < 8, ∀ n < 16, s.reg (GRT_TX_PROD b n) = s.reg (GRT_TX_CONS b n)
    let superseded (t : State) (old from' isl : Nat) : Prop := cnt t PWR_SUPERSEDE_CNT ∧ event t 3 ∧
      t.fld PWR_LAST_SUPERSEDED 26 24 = from' ∧ t.fld PWR_LAST_SUPERSEDED 14 8 = isl ∧ t.fld PWR_LAST_SUPERSEDED 1 0 = old
    -- device requests (R426, R427)
    (asks PWR_DEV_REQ →
      (free → st = cur → Runs (.pwrDevRequest r v) s fun t =>
        t.power = s.power ∧ t.islands = s.islands ∧ at' t cur ∧ page t) ∧
      (free → cur < 2 → st < 2 → st ≠ cur → Runs (.pwrDevRequest r v) s fun t =>
        at' t st ∧ event t 0 ∧ t.power = s.power ∧ page t ∧
        ∀ j, powered j → cross t j = if st = 0 ∧ cross s j = .gated then .active else cross s j) ∧
      (free → cur < 2 → waits → Runs (.pwrDevRequest r v) s fun t =>
        t.power = { s.power with retCheck := some (bay, s.ridge.ticks) } ∧ t.islands = s.islands ∧ at' t cur ∧ page t) ∧
      (free → cur < 2 → 2 ≤ st → ¬waits → (∃ n, objects st n) → (∀ y, live y → y.queue < 1024) → Runs (.pwrDevRequest r v) s fun t =>
        at' t cur ∧ event t 1 ∧ t.power = s.power ∧ t.islands = s.islands ∧ page t ∧ t.fld PWR_LAST_REFUSE 31 24 = bay % 256 ∧
        objects st (t.fld PWR_LAST_REFUSE 3 0) ∧ (∀ n, objects st n → t.fld PWR_LAST_REFUSE 3 0 ≤ n) ∧
        (t.fld PWR_LAST_REFUSE 3 0 = 1 → s.flag (PWR_KEEP (t.fld PWR_LAST_REFUSE 23 4)) 0 = true) ∧
        ∀ n, 1 ≤ n → n ≤ 6 → (objects st n → cnt t (PWR_REFUSE_CNT (n - 1))) ∧
          (¬objects st n → t.reg (PWR_REFUSE_CNT (n - 1)) = s.reg (PWR_REFUSE_CNT (n - 1)))) ∧
      (free → cur < 2 → 2 ≤ st → ¬waits → (¬∃ n, objects st n) → Runs (.pwrDevRequest r v) s fun t =>
        at' t cur ∧ t.fld PWR_DEV_STAT 5 4 = cur ∧ t.power.target = some st ∧ t.power.sleeping = true ∧ t.power.wakes = 0 ∧
        t.truss.dispatch = false ∧ (st = 3 → t.truss.admits = false) ∧ (st = 2 → t.truss.admits = s.truss.admits) ∧
        t.truss.frames = s.truss.frames ∧ t.islands = s.islands ∧ SamePages s t [2] ∧ SameCompute s t) ∧
      (free → 2 ≤ cur → st ≠ cur → Runs (.pwrDevRequest r v) s fun t =>
        t.power.next = some (st, bay) ∧ t.power.target = some prior ∧ at' t cur ∧ t.islands = s.islands ∧ page t ∧
        (s.power.wakes = 0 → event t 4 ∧ t.fld PWR_WAKE_LAST 31 28 = 6)) ∧
      (¬free → s.power.next = none → Runs (.pwrDevRequest r v) s fun t =>
        t.power = { s.power with next := some (st, bay) } ∧ t.islands = s.islands ∧ at' t cur ∧
        t.reg PWR_SUPERSEDE_CNT = s.reg PWR_SUPERSEDE_CNT ∧ page t) ∧
      (∀ old b, ¬free → s.power.next = some (old, b) → old < 4 → b < 8 → Runs (.pwrDevRequest r v) s fun t =>
        t.power = { s.power with next := some (st, bay) } ∧ t.islands = s.islands ∧ at' t cur ∧ superseded t old b 0 ∧ page t)) ∧
    -- transitions of the device (R429 to R432)
    (free → Runs (.powerTransitionDone none) s same) ∧
    -- a RETAIN request that waited for the walkers has its check (R427)
    (∀ b since, s.power.target = none → s.power.retCheck = some (b, since) → s.power.next = none →
      let late := ∃ n, n ≠ 6 ∧ objects 3 n ∨ (n = 6 ∧ ∃ c < 16, s.flag DRC_STAT c = false ∧
        max s.ridge.ticks (since + 2000) < (s.dramCh c).retrain)
      Runs (.powerTransitionDone none) s fun t => t.power.retCheck = none ∧ t.ridge.ticks = max s.ridge.ticks (since + 2000) ∧ at' t cur ∧
        t.islands = s.islands ∧
        (late → t.power.target = none ∧ event t 1 ∧ (s.planeBusy = true → cnt t (PWR_REFUSE_CNT 4)) ∧ page t) ∧
        (¬late → t.power.target = some 3 ∧ t.power.sleeping = true ∧ t.truss.dispatch = false ∧ t.truss.admits = false)) ∧
    (s.power.target = some 2 → Runs (.powerTransitionDone none) s fun t =>
      at' t 2 ∧ event t 0 ∧ (∀ j, powered j → cross t j = if cross s j = .active then .gated else cross s j) ∧ t.power.sleeping = s.power.sleeping ∧
      calm t ∧ (s.power.wakePending = true → t.power.target = some prior) ∧
      (s.power.wakePending = false → s.power.next = none → (∀ n < 8, s.flag (PWR_WAKE_CFG n) 0 = false) → t.power.target = none)) ∧
    (s.power.target = some 3 → Runs (.powerTransitionDone none) s fun t =>
      at' t 3 ∧ event t 0 ∧ (∀ j, powered j → cross s j = .active ∨ cross s j = .gated → cross t j = .off ∧ (t.island j).power = 3) ∧
      (∀ b < 60, (b ∈ t.loft.retained ↔ b < 48 ∧ bitOf (s.wide LFT_RET_EN0) b = true) ∧ (b ∈ t.loft.off ↔ b ∉ t.loft.retained)) ∧
      t.dram.selfRefresh = true ∧ (s.power.wakePending = true → t.power.target = some prior) ∧
      (s.truss.frames = [] → s.NoErrors → (∀ c < 72, (s.airCh c).jobs = []) → ∀ a, loftBase ≤ a → a < hostBase → t.byte a = s.byte a)) ∧
    (∀ y, s.power.target = some y → y < 2 → s.power.next = none → s.girt.waiting = [] → calmRings → (∀ c < 64, (s.skidCh c).cur = none) →
      Runs (.powerTransitionDone none) s fun t =>
        at' t prior ∧ event t 0 ∧ t.power.target = none ∧ t.power.sleeping = false ∧ t.power.wakes = 0 ∧
        (∀ n < 8, t.power.pinLatch.getD n false = false) ∧ t.truss.dispatch = true ∧
        (cur ≠ 3 → (∀ j, powered j → cross t j = if cross s j = .gated then .active else cross s j) ∧ t.truss.admits = s.truss.admits ∧
          t.truss.frames = s.truss.frames ∧ SamePages s t (2 :: (List.range 8).map (0x40 + ·)) ∧ SameCompute s t) ∧
        t.power.profDeferred = false ∧
        (∀ b < 8, (s.power.profDeferred = true → t.reg (BNT_CLK b) = clock (s.fld PWR_PROF_STAT 1 0)) ∧
          (s.power.profDeferred = false → cur ≠ 3 → t.reg (BNT_CLK b) = s.reg (BNT_CLK b))) ∧
        (cur = 3 → (∀ j, powered j → cross s j = .off → cross t j = .active ∧ (t.island j).power = 0) ∧
          t.loft.retained = [] ∧ t.loft.off = [] ∧ t.dram.selfRefresh = false ∧
          (s.truss.frames = [] → s.NoErrors → t.truss.admits = !s.flag LDG_STAT 3 ∧ ∀ h < 2, ∀ q < 16, bitOf (s.keepMask h) q = false →
            ∀ o, h * (s.dramU / 2) + q * (s.dramU / 32) ≤ o → o < h * (s.dramU / 2) + (q + 1) * (s.dramU / 32) → t.byte (dramBase + o) = 0))) ∧
    (s.power.target = none ∨ cause = 0 ∨ s.power.target = some 0 ∨ s.power.target = some 1 → Runs (.powerEntryAbort cause) s same) ∧
    (∀ y, s.power.target = some y → 2 ≤ y → cause ≠ 0 → (y = 2 → cause = 1) → s.power.next = none → s.girt.waiting = [] → calmRings →
      (∀ c < 64, (s.skidCh c).cur = none) → Runs (.powerEntryAbort cause) s fun t =>
        at' t prior ∧ event t 2 ∧ cnt t PWR_ABORT_CNT ∧ t.fld PWR_DEV_STAT 19 16 = cause.toNat ∧ t.power.target = none ∧
        t.truss.dispatch = true ∧ (y = 2 → t.truss.frames = s.truss.frames ∧ SameCompute s t) ∧
        ∀ j, powered j → (cross s j = .active → cross t j = .active) ∧ (cross s j = .gated → cross t j = if y = 2 then .gated else .active)) ∧
    -- islands (R422, R425 to R427)
    (asks PWR_ISL_REQ →
      let i := s.fld PWR_ISL_SEL 6 0
      let z := s.island i
      let spare := (16 ≤ i ∧ s.flag (MRT_STAT (i - 16)) 8 = true) ∨ z.crossing = .quarantine
      let alone := ∃ y, live y ∧ (∃ c ∈ allConsumers, consumerIsland c = i ∧ s.eligible c y.queue = true) ∧
        ∀ c ∈ allConsumers, consumerIsland c ≠ i → s.consumerOn c = true → s.eligible c y.queue = false
      let others (t : State) : Prop := ∀ j < 128, j ≠ i → t.island j = s.island j
      (¬powered i ∨ st = 2 → Runs (.pwrIslRequest r v) s fun t => t.islands = s.islands ∧ t.power = s.power ∧ page t) ∧
      (powered i → st ≠ 2 → spare → Runs (.pwrIslRequest r v) s fun t => t.islands = s.islands ∧ t.power = s.power ∧ page t ∧
        (s.flag (hdr 2 0x1C) 31 = false → t.fld (hdr 2 0x1C) 15 0 = 2 ∧ t.reg (hdr 2 0x20) = i)) ∧
      (powered i → st ≠ 2 → ¬spare → z.target = none →
        (z.power = st → Runs (.pwrIslRequest r v) s fun t => t.islands = s.islands ∧ page t) ∧
        (z.power ≠ st → st = 0 ∨ ¬alone → Runs (.pwrIslRequest r v) s fun t => t.island i = { z with target := some st } ∧ others t ∧ page t) ∧
        (z.power ≠ st → st ≠ 0 → alone → (∀ y, live y → y.queue < 1024) → Runs (.pwrIslRequest r v) s fun t => t.islands = s.islands ∧ page t ∧ event t 1 ∧
          cnt t (PWR_REFUSE_CNT 1) ∧ t.fld PWR_LAST_REFUSE 3 0 = 2 ∧ t.fld PWR_LAST_REFUSE 31 24 = bay % 256)) ∧
      (∀ y, powered i → st ≠ 2 → ¬spare → z.target = some y →
        (z.next = none → Runs (.pwrIslRequest r v) s fun t => t.island i = { z with next := some (st, bay) } ∧ others t ∧ page t) ∧
        (∀ old b, z.next = some (old, b) → old < 4 → b < 8 → Runs (.pwrIslRequest r v) s fun t =>
          t.island i = { z with next := some (st, bay) } ∧ superseded t old b i ∧ others t ∧ page t))) ∧
    (let i := isl.toNat
     let z := s.island i
     let others (t : State) : Prop := ∀ j < 128, j ≠ i → t.island j = s.island j
     let goesTo (st : Nat) (from' : Crossing) (P : State → Prop) : Prop := powered i → z.target = some st → z.next = none → z.crossing = from' →
       Runs (.powerTransitionDone (some isl)) s fun t => (t.island i).target = none ∧ others t ∧ t.power = s.power ∧ P t
     (¬powered i ∨ z.target = none → Runs (.powerTransitionDone (some isl)) s same) ∧
     goesTo 0 .gated (fun t => (t.island i).crossing = .active ∧ (t.island i).power = 0 ∧ SameRegs s t [] ∧ calm t) ∧
     goesTo 0 .off (fun t => (t.island i).crossing = .active ∧ (t.island i).power = 0) ∧
     goesTo 1 .active (fun t => (t.island i).crossing = .gated ∧ (t.island i).power = 1 ∧ calm t ∧ SameRegs s t [BNT_GATE_CNT (i - 8)]) ∧
     goesTo 3 .active (fun t => (t.island i).crossing = .off ∧ (t.island i).power = 3 ∧ (16 ≤ i → (t.eng (i - 16)).task = none) ∧
       (i < 16 → ∀ c < 9, t.executes (9 * (i - 8) + c) = false)) ∧
     -- TRIM (R424)
     let idle := z.crossing = .active ∧ z.target = none ∧
       (i < 16 → ∀ c, 9 * (i - 8) ≤ c → c < 9 * (i - 8) + 9 → s.coreServes c = true → s.coreSt c = 3 ∧ tget? s.truss.holding c = none) ∧
       (16 ≤ i → s.flag (MRT_STAT (i - 16)) 8 = false ∧ (s.engShow (i - 16) = 1 ∨ s.engShow (i - 16) = 2) ∧ (s.eng (i - 16)).task = none ∧ (s.eng (i - 16)).fenced = false)
     (cur = 1 → powered i → idle → Runs (.trimGate isl) s fun t =>
       t.island i = { z with crossing := .gated, power := 1 } ∧ others t ∧
         t.ridge.ticks = max s.ridge.ticks (s.trimSince i + s.fld PWR_TRIM_IDLE 15 0) ∧ SameRegs s t [BNT_GATE_CNT (i - 8)] ∧ calm t) ∧
     (cur ≠ 1 ∨ ¬powered i ∨ ¬idle → Runs (.trimGate isl) s same)) ∧
    (s.taskAt rec.toNat = none ∨ cur ≠ 1 → Runs (.trimUngate rec) s same) ∧
    (s.taskAt rec.toNat = some (f, num, x) → cur = 1 →
      let waits (c : Nat) : Prop := c ∈ allConsumers ∧ cross s (consumerIsland c) = .gated ∧ s.eligible c x.queue = true ∧
        (128 ≤ c ∨ s.coreServes c = true)
      let near (c : Nat) : Prop := x.aff ≠ 0 ∧ tget s.truss.lastTag c 0 = x.aff
      (x.st ≠ .ready ∨ (∀ c, ¬waits c) → Runs (.trimUngate rec) s same) ∧
      (∀ c, x.st = .ready → waits c → (near c ∨ ∀ d, waits d → ¬near d) → (∀ d, waits d → (near d ↔ near c) → c ≤ d) → Runs (.trimUngate rec) s fun t =>
        cross t (consumerIsland c) = .active ∧ (∀ j < 128, j ≠ consumerIsland c → t.island j = s.island j) ∧
        t.ridge.ticks = max s.ridge.ticks (tget s.readySince x.idx 0 + 100) ∧ SameRegs s t [] ∧ calm t)) ∧
    -- wakes (R432, R433)
    (let enabled := match src with
      | .pin => det.toNat < 8 ∧ s.flag (PWR_WAKE_CFG det.toNat) 0 = true
      | .timer => det.toNat < 32 ∧ s.flag PWR_WAKE_TMR det.toNat = true
      | .doorbell => s.flag PWR_WAKE_EN 0 = true ∧ det.toNat < 1024 ∧ s.qOn det.toNat = true
      | .flow => s.flag PWR_WAKE_EN 1 = true
      | .ready => cur = 2 ∨ s.power.target = some 2
      | .req => False
     let asleep := 2 ≤ cur ∨ s.power.sleeping = true
     let code := match src with | .pin => 1 | .timer => 2 | .doorbell => 3 | .flow => 4 | .ready => 5 | .req => 6
     let goes (t : State) : Prop := (s.power.target = none → t.power.target = some prior) ∧
       (∀ y, s.power.target = some y → t.power.target = some y ∧ (2 ≤ y → t.power.wakePending = true)) ∧
       t.power.wakes = s.power.wakes + 1 ∧ t.islands = s.islands ∧ page t
     (¬enabled ∨ ¬asleep → Runs (.deviceWake src det) s same) ∧
     (enabled → asleep → s.power.wakes = 0 → Runs (.deviceWake src det) s fun t => goes t ∧ event t 4 ∧
       t.reg PWR_WAKE_LAST = code * 2 ^ 28 + det.toNat * 2 ^ 16 ∧ t.reg PWR_WAKE_NS = s.ridge.ns.toNat ∧ t.reg PWR_WAKE_CNT = s.reg PWR_WAKE_CNT) ∧
     (enabled → asleep → 0 < s.power.wakes → Runs (.deviceWake src det) s fun t => goes t ∧ cnt t PWR_WAKE_CNT ∧ SameRegs s t [PWR_WAKE_CNT])) ∧
    (let cfg := PWR_WAKE_CFG k.val
     let edge := s.power.pinLevel.getD k.val false ≠ high ∧ high ≠ s.flag cfg 1 ∧ 100 ≤ w.toNat
     let sees := s.flag cfg 0 = true ∧ (if s.flag cfg 2 then 2 ≤ cur ∧ high ≠ s.flag cfg 1 else edge)
     let asleep := 2 ≤ cur ∨ s.power.sleeping = true
     let level (t : State) : Prop := t.power.pinLevel = s.power.pinLevel.setIfInBounds k.val high ∧ t.islands = s.islands ∧ calm t
     (¬sees → Runs (.wakePin k high w) s fun t => level t ∧ t.power.pinLatch = s.power.pinLatch ∧ SameRegs s t []) ∧
     (sees → ¬asleep → Runs (.wakePin k high w) s fun t => level t ∧ t.power.pinLatch = s.power.pinLatch.setIfInBounds k.val true ∧ SameRegs s t []) ∧
     (sees → asleep → Runs (.wakePin k high w) s fun t => level t ∧ SamePages s t [2] ∧ t.power.wakes = s.power.wakes + 1 ∧
       (s.power.wakes = 0 → t.reg PWR_WAKE_LAST = 2 ^ 28 + k.val * 2 ^ 16))) ∧
    -- carriers (R435)
    (asks PWR_CAR_REQ → Runs (.carrierSleepRequest r v) s fun t =>
      let c := s.fld PWR_CAR_SEL 7 0
      tget? t.power.carReq c = some (v.getLsbD 31, BitVec.ofNat 32 (s.reg (bank c PWR_CAR_SLOT)), s.ridge.ticks) ∧ (∀ d ≠ c, tget? t.power.carReq d = tget? s.power.carReq d) ∧
      t.power.asleep = s.power.asleep ∧ page t) ∧
    (tget? s.power.carReq car.val = none → Runs (.carrierSleepBoundary car) s same) ∧
    (∀ wake slot tick, tget? s.power.carReq car.val = some (wake, slot, tick) → Runs (.carrierSleepBoundary car) s fun t =>
      tget? t.power.carReq car.val = none ∧ (car.val ∈ t.power.asleep ↔ wake = false) ∧
      (∀ d ≠ car.val, d ∈ t.power.asleep ↔ d ∈ s.power.asleep) ∧ event t 6 ∧
      ∃ n : Int, let b := s.symTime car.val (n * (s.shape car.val).perSlot)
        s.now + ((tick + 100000 - s.ridge.ticks : Nat) : Int) * (nsUnit : Int) ≤ b ∧ s.nearSlot car.val slot.toNat ≤ n ∧ t.ridge = (s.untilTime b).ridge ∧ SameRegs s t [hdr 2 0x10] ∧ calm t) ∧
    -- profiles and VDD_CORE (R436, R437)
    (let range (p : Nat) : Nat × Nat := match p with
      | 0 => if s.flag PWR_PROF_STAT 30 then (660, 740) else (720, 780)
      | 1 => (660, 740)
      | _ => (620, 700)
     let put (p n : Nat) : Nat := max (range p).1 (min (range p).2 n)
     let p := st
     (asks PWR_PROFILE → p ≠ 3 → Runs (.profileSwitch r v) s fun t =>
       t.power.profileTarget = some p ∧ t.flag PWR_PROF_STAT 31 = true ∧ t.fld TRS_CTL 9 8 = (if p = 0 then 1 else if p = 1 then 0 else 2) ∧
       t.fld PLN_CTL 9 8 = (if p = 2 then 1 else 0) ∧ SamePages s t [2, TRS_CTL / 4096, PLN_CTL / 4096] ∧ calm t) ∧
     (asks PWR_PROFILE → p = 3 → Runs (.profileSwitch r v) s fun t =>
       t.power = s.power ∧ page t) ∧
     (s.power.profileTarget = none → Runs .profileSwitchDone s same) ∧
     (∀ q < 3, s.power.profileTarget = some q → Runs .profileSwitchDone s fun t =>
       t.fld PWR_PROF_STAT 1 0 = q ∧ t.flag PWR_PROF_STAT 31 = false ∧ event t 5 ∧ t.power.profileTarget = none ∧
       t.fld DRC_CFG 9 8 = (if q = 1 then 1 else 0) ∧
       t.fld PWR_AVS_STAT 9 0 = (if cur < 2 then put q (s.fld PWR_AVS_STAT 9 0) else s.fld PWR_AVS_STAT 9 0) ∧
       (∀ b < 8, t.reg (BNT_CLK b) = if cur < 2 then clock q else s.reg (BNT_CLK b)) ∧ (2 ≤ cur → t.power.profDeferred = true) ∧ calm t) ∧
     (s.fld PWR_PROF_STAT 1 0 < 3 → Runs (.avsAdjust mv) s fun t =>
       t.fld PWR_AVS_STAT 9 0 = put (s.fld PWR_PROF_STAT 1 0) ((mv.toNat + 4) / 5 * 5) ∧ SameRegs s t [PWR_AVS_STAT] ∧ calm t ∧
       (t.reg PWR_AVS_STAT ≠ s.reg PWR_AVS_STAT → t.out = s.out ++ [.vout (t.fld PWR_AVS_STAT 9 0)])))
/-! ## Gauge, spares, the fault log and the service pins (17 to 19) -/

/-- Triggers and conversions of the Gauge, spare engines and cores, the fault log, service, SMBus and JTAG (R439, R440, R442 to
R449, R453, R454, R456, R460, R461, R463, R471, R472).
Model's choices that it rests on: log 4, 109, 110, 111, 112.
The conclusion is `exec … = .next t` (`Runs`) for: gaugeSwStart, gaugeTrigger, conversionEnd, spareStandIn, coreSpareStart,
faultLogFetch, serviceClear, smbusReadWord, jtagTapAccess. -/
def Obligations.GaugeSparesAndServicePins : Prop :=
  ∀ (s : State) (r : Requester) (v : BitVec 32) (pi : PageInfo) (timer : Fin 32) (code owCode : BitVec 16) (quarter : Fin 4)
    (en : EngineNo) (cn : CoreNo) (addr : BitVec 7) (cmd : BitVec 8) (write : Bool) (ins : JtagInstr) (scan : BitVec 64),
    let cnt (t : State) (a : Nat) : Prop := t.reg a = min (s.reg a + 1) 0xFFFFFFFF
    let calm (t : State) : Prop := t.truss = s.truss ∧ SameCompute s t
    let event (t : State) (p n : Nat) : Prop := t.flag (hdr p 0x10) n = true
    let same (t : State) : Prop := t.out = s.out ∧ t.gauge = s.gauge ∧ t.faults = s.faults ∧ SameRegs s t [] ∧ calm t
    let asks (a : Nat) (w : BitVec 32) : Prop := s.Accepts r a w.toNat pi
    -- the Gauge's passes (R442 to R446)
    let up := s.islandUp 5 = true
    let busy := s.flag GAU_STAT 31 = true
    let g := s.gauge
    let every (e : Nat) : Nat := if s.fld (GAU_SCAN e) 21 20 = 2 then 2 ^ s.fld (GAU_SCAN e) 19 16 else 1
    let due (grp pos pass e : Nat) : Prop := pos ≤ e ∧ e < s.fld GAU_SCAN_LEN 6 0 ∧ s.fld (GAU_SCAN e) 24 24 = grp ∧ pass % every e = 0
    let first (grp pos pass e : Nat) : Prop := due grp pos pass e ∧ ∀ d, due grp pos pass d → e ≤ d
    let one (e : Nat) : Nat := if s.fld (GAU_SCAN e) 21 20 = 1 then 8000 else 500
    let length (warm : Prop) [Decidable warm] (e : Nat) : Nat := (if warm then 0 else 3200) + one e +
      if s.fld (GAU_SCAN e) 14 12 = 0 then 0 else 1000 * s.fld GAU_OW_CFG 7 0 + one e
    let converts (t : State) (from' e : Nat) (warm : Bool) : Prop := t.flag GAU_STAT 31 = true ∧ t.flag GAU_STAT 29 = true ∧
      t.fld GAU_STAT 13 8 = e % 64 ∧ t.gauge.endsAt = from' + length (warm = true) e ∧
      t.gauge.lim = s.reg (GAU_LIM e) ∧ t.gauge.thr = s.fld GAU_OW_CFG 31 16
    let entries := up ∧ ∃ e, due 1 0 0 e
    let trigger (R : (State → Prop) → Prop) (also : List Nat) : Prop :=
      let frame (t : State) (regs : List Nat) : Prop := SameRegs s t (regs ++ also) ∧ calm t
      (s.flag GAU_CTL 3 = true → ¬entries → busy → R fun t => t.gauge = g ∧ frame t []) ∧
      (s.flag GAU_CTL 3 = true → entries → g.inPass = false → busy → R fun t =>
        t.gauge = { g with inPass := true, pos1 := 0 } ∧ frame t []) ∧
      (∀ e, s.flag GAU_CTL 3 = true → g.inPass = false → ¬busy → up → first 1 0 g.pass1 e → R fun t =>
        converts t s.ridge.ticks e (s.flag GAU_STAT 29) ∧ t.gauge.inPass = true ∧ t.gauge.pos1 = e + 1 ∧ t.gauge.pos0 = g.pos0 ∧
        frame t [GAU_STAT]) ∧
      (s.flag GAU_CTL 3 = true → entries → g.inPass = true → busy → s.flag GAU_STAT 30 = false → R fun t =>
        t.flag GAU_STAT 30 = true ∧ t.gauge = g ∧ t.reg GAU_TRIG_LOST_CNT = s.reg GAU_TRIG_LOST_CNT ∧ frame t [GAU_STAT]) ∧
      (s.flag GAU_CTL 3 = true → entries → g.inPass = true → busy → s.flag GAU_STAT 30 = true → R fun t =>
        t.flag GAU_STAT 30 = true ∧ t.gauge = g ∧ cnt t GAU_TRIG_LOST_CNT ∧ event t 0x380 3 ∧ frame t [GAU_TRIG_LOST_CNT, hdr 0x380 0x10])
    (asks GAU_CTL (v ||| 0x80000000) → (∀ n, 1 ≤ n → n ≤ 4 → v.getLsbD n = s.flag GAU_CTL n) →
      trigger (Runs (.gaugeSwStart r v) s) [hdr 0x380 0x2C]) ∧
    (asks GAU_CTL (v ||| 0x80000000) → v.getLsbD 3 = false → Runs (.gaugeSwStart r v) s fun t =>
      t.gauge.inPass = false ∧ t.flag GAU_STAT 30 = false ∧ (∀ n, 1 ≤ n → n ≤ 4 → t.flag GAU_CTL n = v.getLsbD n) ∧
      (busy → t.fld GAU_STAT 13 8 = s.fld GAU_STAT 13 8 ∧ t.gauge.endsAt = g.endsAt) ∧ SamePages s t [0x380] ∧ calm t) ∧
    (s.flag GAU_TRIG 8 = true → s.fld GAU_TRIG 4 0 = timer.val → trigger (Runs (.gaugeTrigger timer) s) []) ∧
    (s.flag GAU_TRIG 8 = false ∨ s.fld GAU_TRIG 4 0 ≠ timer.val ∨ s.flag GAU_CTL 3 = false ∨ ¬up → Runs (.gaugeTrigger timer) s same) ∧
    -- a conversion ends (R439, R440, R444, R445, R447 to R449)
    (¬busy ∨ ¬up → Runs (.conversionEnd code owCode quarter) s same) ∧
    (busy → up →
      let e := s.fld GAU_STAT 13 8
      let diff := s.flag (GAU_SCAN e) 7
      let value (c : Nat) : Int := if diff then (BitVec.ofNat 16 c).toInt else (c % 0x10000 : Nat)
      let c := value code.toNat
      let result := if s.flag GAU_CTL 1 then code.setWidth 32 <<< 16 else if diff then code.signExtend 32 else code.setWidth 32
      let alarm := s.flag (GAU_SCAN e) 8 && (decide (value (bitsOf g.lim 31 16) < c) || decide (c < value (bitsOf g.lim 15 0)))
      let isOpen := decide (s.fld (GAU_SCAN e) 14 12 ≠ 0) && decide (g.thr < (c - value owCode.toNat).natAbs)
      let marks (t : State) (lo hi : Nat) (on : Bool) : Prop := ∀ n < 64,
        t.flag (if n < 32 then lo else hi) (n % 32) = (s.flag (if n < 32 then lo else hi) (n % 32) || (on && n == e))
      let grp := s.fld (GAU_SCAN e) 24 24
      let ringAt := s.fld GAU_RING_HI 15 0 * 0x100000000 + s.fld GAU_RING_LO 31 6 * 64 + 16 * (s.reg GAU_RING_PROD % 2 ^ s.fld GAU_RING_LO 4 0)
      let ag : Agent := ⟨.gauge, 0, false⟩
      let e1 := s.untilTick g.endsAt
      let full := 2 ^ s.fld GAU_RING_LO 4 0 ≤ (s.reg GAU_RING_PROD + 2 ^ 32 - s.reg GAU_RING_CONS) % 2 ^ 32
      let ends (t : State) : Prop := t.reg (GAU_RES e) = result.toNat ∧ marks t GAU_ALARM_LO GAU_ALARM_HI alarm ∧
        marks t GAU_OPEN_LO GAU_OPEN_HI isOpen ∧ (alarm = true → event t 0x380 1) ∧ (isOpen = true → event t 0x380 2) ∧
        t.ridge = e1.ridge ∧ t.truss = s.truss ∧ t.cores = s.cores ∧ SamePages s t (0x380 :: memoryPages)
      Runs (.conversionEnd code owCode quarter) s ends ∧
      (s.flag GAU_CTL 2 = false → Runs (.conversionEnd code owCode quarter) s fun t => ends t ∧ SameMemory s t ∧
        t.reg GAU_RING_PROD = s.reg GAU_RING_PROD ∧ t.reg GAU_RING_DROP_CNT = s.reg GAU_RING_DROP_CNT) ∧
      (s.flag GAU_CTL 2 = true → full → Runs (.conversionEnd code owCode quarter) s fun t => ends t ∧ SameMemory s t ∧
        t.reg GAU_RING_PROD = s.reg GAU_RING_PROD ∧ cnt t GAU_RING_DROP_CNT ∧ event t 0x380 4) ∧
      (∀ q, s.flag GAU_CTL 2 = true → ¬full → s.NoErrors → s.place .gauge ringAt 16 = .sram q → s.accessRefused ag (.sram q) 16 ringAt = none →
        Runs (.conversionEnd code owCode quarter) s fun t =>
          t.reg GAU_RING_PROD = (s.reg GAU_RING_PROD + 1) % 2 ^ 32 ∧ (∀ b, b < q ∨ q + 16 ≤ b → t.byte b = s.byte b) ∧
          t.bytes q 8 = toBytes 8 (result.toNat + e * 2 ^ 32 + grp * 2 ^ 40 + bitNat alarm * 2 ^ 41 + bitNat isOpen * 2 ^ 42 +
            (if grp = 1 then g.pass1 else g.pass0) % 2 ^ 16 * 2 ^ 48) ∧
          t.bytes (q + 8) 8 = toBytes 8 (e1.ridge.ns.toNat + e1.ridge.sec.toNat % 2 ^ 18 * 2 ^ 30 + quarter.val * 2 ^ 48)) ∧
      (s.flag GAU_CTL 2 = true → ¬full → s.place .gauge ringAt 16 = .none → Runs (.conversionEnd code owCode quarter) s fun t =>
        ends t ∧ SameMemory s t ∧ t.flag GAU_CTL 2 = false ∧ t.reg GAU_RING_PROD = s.reg GAU_RING_PROD ∧ event t 0x380 5 ∧
        (s.flag (hdr 0x380 0x1C) 31 = false → t.fld (hdr 0x380 0x1C) 15 0 = 1 ∧ t.wide (hdr 0x380 0x20) = ringAt)) ∧
      -- what converts next
      let warm : Bool := s.flag GAU_STAT 29 && decide (s.fld (GAU_SCAN e) 21 20 ≠ 2)
      let goes (P : State → Prop) : Prop := Runs (.conversionEnd code owCode quarter) s P
      (∀ d, g.inPass = true → first 1 g.pos1 g.pass1 d → goes fun t => converts t e1.ridge.ticks d warm ∧ t.gauge.inPass = true ∧
        t.gauge.pos1 = d + 1 ∧ t.gauge.pass1 = g.pass1 ∧ t.gauge.pos0 = g.pos0 ∧ t.reg GAU_PASS_CNT = s.reg GAU_PASS_CNT) ∧
      (g.inPass = true → (∀ d, ¬due 1 g.pos1 g.pass1 d) → s.flag GAU_STAT 30 = false → goes fun t =>
        cnt t GAU_PASS_CNT ∧ event t 0x380 0 ∧ t.gauge.inPass = false ∧ t.gauge.pass1 = g.pass1 + 1) ∧
      (∀ d, g.inPass = true → (∀ d, ¬due 1 g.pos1 g.pass1 d) → s.flag GAU_STAT 30 = true → first 1 0 (g.pass1 + 1) d → goes fun t =>
        cnt t GAU_PASS_CNT ∧ event t 0x380 0 ∧ t.gauge.inPass = true ∧ t.flag GAU_STAT 30 = false ∧ converts t e1.ridge.ticks d warm) ∧
      (∀ d, g.inPass = false → s.flag GAU_CTL 4 = true → first 0 g.pos0 g.pass0 d → goes fun t =>
        converts t e1.ridge.ticks d warm ∧ t.gauge.pos0 = d + 1 ∧ t.gauge.pass0 = g.pass0) ∧
      (g.inPass = false → s.flag GAU_CTL 4 = false → goes fun t => t.flag GAU_STAT 31 = false ∧ t.flag GAU_STAT 29 = false)) ∧
    -- spares (R453, R454, R456, R460)
    (let logged (t : State) (kind unit cause action : Nat) : Prop :=
       let seq := (s.reg PLT_FLT_HEAD + 1) % 2 ^ 32
       t.reg PLT_FLT_HEAD = seq ∧ event t 9 0 ∧ tget? t.faults.log (seq % 64) =
         some ⟨BitVec.ofNat 64 (seq + action * 2 ^ 32 + cause * 2 ^ 40 + unit * 2 ^ 48 + kind * 2 ^ 56), BitVec.ofNat 64 s.quarterTime⟩
     let declared (t : State) (kind unit cause action : Nat) : Prop := logged t kind unit cause action ∧ (kind, unit) ∈ t.faults.failed ∧
       t.flag PLT_FLT_DEGRADED kind = true ∧ (s.flag PLT_FLT_DEGRADED kind = false → event t 9 1)
     let e := en.val
     let sp := spareOf e
     let free := sp ≠ e ∧ s.engHeld sp = true ∧ s.islandUp (16 + sp) = true ∧ (s.eng sp).fenced = false
     let gone (t : State) : Prop := (t.eng e).fenced = true ∧
       (s.flag (XNG_QUAR_MAP ((16 + e) / 32)) ((16 + e) % 32) = false → (t.island (16 + e)).crossing = .quarantine ∧
         (t.island (16 + e)).qcause = 2 ∧ (t.island (16 + e)).power = 3) ∧
       (∀ j < 128, j ≠ 16 + e → t.island j = s.island j) ∧ calm t
     (s.engSt e ≠ 5 ∨ (s.eng e).fenced = true → Runs (.spareStandIn en) s same) ∧
     (s.engSt e = 5 → (s.eng e).fenced = false → free → Runs (.spareStandIn en) s fun t => gone t ∧ declared t 2 e 1 1 ∧
       t.fld (MRT_STAT sp) 23 16 = s.fld (MRT_STAT e) 23 16 ∧ t.owner (engPage sp) = s.owner (engPage e) ∧
       t.fld (hdr (engPage sp) 0x28) 23 16 = s.fld (hdr (engPage e) 0x28) 23 16 ∧ event t (engPage sp) 5 ∧
       t.reg (MRT_FAULT_CNT sp) = 0 ∧ t.reg (MRT_ABANDON_CNT sp) = 0) ∧
     (s.engSt e = 5 → (s.eng e).fenced = false → ¬free → Runs (.spareStandIn en) s fun t => gone t ∧ declared t 2 e 1 2) ∧
     let c := cn.val
     let b := c / 9
     let k := 9 * b + 8
     let recent := ((s.core c).progEcc.filter fun t => decide (s.ridge.ticks < t + 1000000000)).length
     let cause := if 128 + c ∈ s.loft.failing then 3 else if 3 ≤ recent then 2 else 1
     let held := (tget? s.truss.holding c).isSome = true
     let stands := c % 9 ≠ 8 ∧ s.fld (BNT_STAT b) 31 28 = 15 ∧ s.coreFailed k = false
     (s.coreFailed c = true → Runs (.coreSpareStart cn) s same) ∧
     (s.coreFailed c = false → cause = 3 → held → Runs (.coreSpareStart cn) s fun t =>
       c ∈ t.truss.drained ∧ t.truss.frames = s.truss.frames ∧ t.faults = s.faults ∧ SameRegs s t [] ∧ SameCompute s t) ∧
     (s.coreFailed c = false → ¬held → s.truss.frames = [] → s.NoErrors → Runs (.coreSpareStart cn) s fun t =>
       t.coreSt c = 5 ∧ t.coreFailed c = true ∧ c ∈ t.truss.drained ∧ event t (0x40 + b) 0 ∧
       declared t 1 c cause (if stands then 1 else 2) ∧
       (stands → t.fld (BNT_STAT b) 31 28 = c % 9 ∧ t.flag (RFT_RUN k) 0 = s.flag (RFT_RUN c) 0 ∧
         t.wide (RFT_BOOT_LO k) = s.wide (RFT_BOOT_LO c) ∧ t.reg (RFT_BOOT_LEN k) = s.reg (RFT_BOOT_LEN c) ∧
         t.reg (RFT_BOOT_ENT k) = s.reg (RFT_BOOT_ENT c) ∧ event t (0x40 + b) 1) ∧
       (¬stands → s.fld (BNT_STAT b) 31 28 = t.fld (BNT_STAT b) 31 28)) ∧
     -- the fault log and service (R461, R463)
     (asks PLT_FLT_RD_SEQ v →
       let head := s.reg PLT_FLT_HEAD
       let quiet (t : State) : Prop := t.faults = s.faults ∧ SamePages s t [9] ∧ calm t
       (∀ y, 0 < v.toNat → v.toNat ≤ head → head < v.toNat + 64 → tget? s.faults.log (v.toNat % 64) = some y →
         Runs (.faultLogFetch r v) s fun t => t.reg PLT_FLT_RD_STAT = 0 ∧ t.wide (PLT_FLT_RD_DATA 0) = y.w0.toNat ∧
           t.wide (PLT_FLT_RD_DATA 2) = y.w1.toNat ∧ quiet t) ∧
       (v.toNat + 64 ≤ head → Runs (.faultLogFetch r v) s fun t => t.reg PLT_FLT_RD_STAT = 2 ∧ quiet t)) ∧
     (asks PLT_SVC_CLR v →
       let unit := (s.fld PLT_SVC_UNIT 15 8, s.fld PLT_SVC_UNIT 7 0)
       (v = 0x53564352 → unit ∈ s.faults.failed → Runs (.serviceClear r v) s fun t =>
         unit ∉ t.faults.failed ∧ (∀ y, y ≠ unit → (y ∈ t.faults.failed ↔ y ∈ s.faults.failed)) ∧ logged t unit.1 unit.2 0 5 ∧
         t.reg PLT_FLT_DEGRADED = s.reg PLT_FLT_DEGRADED ∧ t.islands = s.islands ∧ SamePages s t [9] ∧ calm t) ∧
       (v ≠ 0x53564352 ∨ unit ∉ s.faults.failed → Runs (.serviceClear r v) s fun t =>
         t.faults = s.faults ∧ t.reg PLT_FLT_HEAD = s.reg PLT_FLT_HEAD ∧ SamePages s t [9] ∧ calm t))) ∧
    -- SMBus and JTAG (R471, R472)
    (let sends (o : Output) (t : State) : Prop := t.out = s.out ++ [o] ∧ t.pins = s.pins ∧ SameRegs s t [] ∧ calm t
     let bus := Runs (.smbusReadWord addr cmd write) s
     let word (n : Nat) : Output := .smbus (BitVec.ofNat 16 n)
     (s.life.inReset = true ∨ (addr ≠ 0x3A ∧ addr ≠ 0x0C) → bus same) ∧
     (s.life.inReset = false → addr = 0x3A → write = true ∨ 3 < cmd.toNat → bus (sends .smbusNack)) ∧
     (s.life.inReset = false → addr = 0x0C → write = false → bus (sends (.smbusAlert 0x3A))) ∧
     (s.life.inReset = false → addr = 0x3A → write = false →
       (cmd = 0 → bus fun t => ∃ n, t.out = s.out ++ [word n] ∧ SameRegs s t [] ∧ calm t) ∧
       (cmd = 1 → bus (sends (word (s.life.state.toNat * 256 + s.fld LCS_BOOT_STAT 3 0)))) ∧
       (cmd = 2 → bus (sends (word (s.fld PLT_FLT_DEGRADED 11 0)))) ∧
       (cmd = 3 → bus (sends (word (s.reg PWR_AVS_STAT))))) ∧
     let tap := Runs (.jtagTapAccess ins scan) s
     let bypass (P : Pins → Prop) : Prop := tap fun t => t.out = s.out ++ [.tdo (scan <<< 1)] ∧ P t.pins ∧ SameRegs s t [] ∧ calm t
     (ins = .idcode → tap fun t => ∃ o : BitVec 64, t.out = s.out ++ [.tdo o] ∧ o.setWidth 32 = 0x19640A2F ∧ t.pins = s.pins ∧ SameRegs s t [] ∧ calm t) ∧
     (ins = .bypass → bypass fun p => p = { s.pins with jtagScan := false }) ∧
     (ins = .extest ∨ ins = .extestPulse ∨ ins = .extestTrain ∨ ins = .clamp ∨ ins = .highz → s.pins.resetN = true → bypass fun p => p = s.pins) ∧
     (ins = .clamp ∨ ins = .highz → s.pins.resetN = false → bypass fun p => p = { s.pins with jtagScan := true }) ∧
     (ins = .extest ∨ ins = .extestPulse ∨ ins = .extestTrain → s.pins.resetN = false → tap fun t =>
       t.pins = { s.pins with jtagScan := true, bscan := scan } ∧ (∃ o, t.out = s.out ++ [.tdo o]) ∧ SameRegs s t [] ∧ calm t) ∧
     (ins = .sample → tap fun t => t.pins.jtagScan = s.pins.jtagScan ∧ t.pins.resetN = s.pins.resetN ∧ (∃ o, t.out = s.out ++ [.tdo o]) ∧
       SameRegs s t [] ∧ calm t) ∧
     (ins = .plateDebug → (s.life.state = 2 ∨ s.life.state = 4 ∨ s.life.strap ≠ 1) → s.life.state.toNat ≤ 4 → bypass fun p => p = s.pins))
end

