-- ==== Sys2Proof/Laws/Ops.lean ====
section
/-! SUPPORT. What the named operations do: tables, register words and their fields, bytes of memory, and the canonical
form of memory. -/

namespace Sys2Proof.Machine

/-! ## Tables -/

theorem lookup_cons_key {α : Type} (k j : Nat) (v : α) (t : Table α) :
    List.lookup j ((k, v) :: t) = if j = k then some v else t.lookup j := by
  by_cases h : j = k
  · simp [List.lookup, h]
  · have hb : (j == k) = false := by simp [h]
    simp [List.lookup, hb, h]

theorem lookup_tput {α : Type} (t : Table α) (k j : Nat) (v : α) :
    (tput t k v).lookup j = if j = k then some v else t.lookup j := by
  induction t with
  | nil => exact lookup_cons_key k j v []
  | cons e t ih =>
    obtain ⟨i, w⟩ := e
    unfold tput
    split
    · rw [lookup_cons_key]
    · split
      · rename_i h2
        subst h2
        rw [lookup_cons_key, lookup_cons_key]
        split <;> rfl
      · rename_i h2
        rw [lookup_cons_key, lookup_cons_key, ih]
        split
        · rename_i h
          rw [if_neg (fun e => h2 (e.symm.trans h))]
        · rfl

theorem lookup_tdel {α : Type} (t : Table α) (k j : Nat) :
    (tdel t k).lookup j = if j = k then none else t.lookup j := by
  induction t with
  | nil => simp [tdel]
  | cons e t ih =>
    obtain ⟨i, w⟩ := e
    rw [lookup_cons_key]
    by_cases hi : i = k
    · subst hi
      have : tdel ((i, w) :: t) i = tdel t i := by simp [tdel]
      rw [this, ih]
      split <;> rfl
    · have : tdel ((i, w) :: t) k = (i, w) :: tdel t k := by simp [tdel, hi]
      rw [this, lookup_cons_key, ih]
      split
      · rename_i h
        rw [if_neg (fun e => hi (h.symm.trans e))]
      · rfl

@[simp] theorem tget?_tput {α : Type} (t : Table α) (k j : Nat) (v : α) :
    tget? (tput t k v) j = if j = k then some v else tget? t j := lookup_tput t k j v

@[simp] theorem tget_tput {α : Type} (t : Table α) (k j : Nat) (v d : α) :
    tget (tput t k v) j d = if j = k then v else tget t j d := by
  unfold tget
  rw [lookup_tput]
  split <;> rfl

@[simp] theorem tget?_tdel {α : Type} (t : Table α) (k j : Nat) :
    tget? (tdel t k) j = if j = k then none else tget? t j := lookup_tdel t k j

@[simp] theorem tget_tdel {α : Type} (t : Table α) (k j : Nat) (d : α) :
    tget (tdel t k) j d = if j = k then d else tget t j d := by
  unfold tget
  rw [lookup_tdel]
  split <;> rfl

/-! ## Register words and fields -/

@[simp] theorem reg_setReg (s : State) (a b v : Nat) :
    (s.setReg a v).reg b = if b = a then v % 2 ^ 32 else s.reg b := by
  unfold State.reg State.setReg
  simp only
  split
  · rename_i h
    rw [lookup_tdel]
    split
    · rename_i hb; subst hb
      rw [Option.getD_none, ← h, BitVec.toNat_ofNat]
    · rfl
  · rw [lookup_tput]
    split
    · rw [Option.getD_some, BitVec.toNat_ofNat]
    · rfl

theorem reg_lt (s : State) (a : Nat) : s.reg a < 2 ^ 32 := (((s.regs.lookup a).getD (coldWord a))).isLt

theorem bitsOf_putBits (n hi lo v : Nat) (h : lo ≤ hi + 1) :
    bitsOf (putBits n hi lo v) hi lo = v % 2 ^ (hi + 1 - lo) := by
  unfold bitsOf putBits
  have e : 2 ^ (hi + 1) = 2 ^ lo * 2 ^ (hi + 1 - lo) := by rw [← pow_add]; congr 1; omega
  simp only [e]
  have p : 0 < 2 ^ lo := by positivity
  have hr : n % 2 ^ lo / 2 ^ lo = 0 := Nat.div_eq_of_lt (Nat.mod_lt _ p)
  have : n / (2 ^ lo * 2 ^ (hi + 1 - lo)) * (2 ^ lo * 2 ^ (hi + 1 - lo)) + v % 2 ^ (hi + 1 - lo) * 2 ^ lo + n % 2 ^ lo
      = n % 2 ^ lo + 2 ^ lo * (v % 2 ^ (hi + 1 - lo) + 2 ^ (hi + 1 - lo) * (n / (2 ^ lo * 2 ^ (hi + 1 - lo)))) := by ring
  rw [this, Nat.add_mul_div_left _ _ p, hr, Nat.zero_add, Nat.add_mul_mod_self_left, Nat.mod_mod]

theorem putBits_lt (n hi lo v w : Nat) (hn : n < 2 ^ w) (h : lo ≤ hi) (hw : hi < w) : putBits n hi lo v < 2 ^ w := by
  unfold putBits
  have e : 2 ^ (hi + 1) = 2 ^ lo * 2 ^ (hi + 1 - lo) := by rw [← pow_add]; congr 1; omega
  have ew : 2 ^ w = 2 ^ (hi + 1) * 2 ^ (w - (hi + 1)) := by rw [← pow_add]; congr 1; omega
  have p : 0 < 2 ^ lo := by positivity
  have q : 0 < 2 ^ (hi + 1 - lo) := by positivity
  have a1 : n / 2 ^ (hi + 1) < 2 ^ (w - (hi + 1)) := by
    rw [Nat.div_lt_iff_lt_mul (by positivity)]; rw [ew] at hn; linarith [Nat.mul_comm (2 ^ (hi + 1)) (2 ^ (w - (hi + 1)))]
  have a2 : v % 2 ^ (hi + 1 - lo) < 2 ^ (hi + 1 - lo) := Nat.mod_lt _ q
  have a3 : n % 2 ^ lo < 2 ^ lo := Nat.mod_lt _ p
  have b2 : v % 2 ^ (hi + 1 - lo) * 2 ^ lo + n % 2 ^ lo < 2 ^ (hi + 1) := by
    have : v % 2 ^ (hi + 1 - lo) + 1 ≤ 2 ^ (hi + 1 - lo) := a2
    calc v % 2 ^ (hi + 1 - lo) * 2 ^ lo + n % 2 ^ lo < (v % 2 ^ (hi + 1 - lo) + 1) * 2 ^ lo := by rw [Nat.add_mul]; omega
      _ ≤ 2 ^ (hi + 1 - lo) * 2 ^ lo := Nat.mul_le_mul_right _ this
      _ = 2 ^ (hi + 1) := by rw [e, Nat.mul_comm]
  have b1 : n / 2 ^ (hi + 1) + 1 ≤ 2 ^ (w - (hi + 1)) := a1
  calc n / 2 ^ (hi + 1) * 2 ^ (hi + 1) + v % 2 ^ (hi + 1 - lo) * 2 ^ lo + n % 2 ^ lo
      < (n / 2 ^ (hi + 1) + 1) * 2 ^ (hi + 1) := by rw [Nat.add_mul]; omega
    _ ≤ 2 ^ (w - (hi + 1)) * 2 ^ (hi + 1) := Nat.mul_le_mul_right _ b1
    _ = 2 ^ w := by rw [ew, Nat.mul_comm]

/-- A field set reads back: the fields of a register word lie in its 32 bits. -/
theorem fld_setFld (s : State) (a hi lo v : Nat) (h : lo ≤ hi) (h' : hi < 32) :
    (s.setFld a hi lo v).fld a hi lo = v % 2 ^ (hi + 1 - lo) := by
  unfold State.fld State.setFld
  rw [reg_setReg, if_pos rfl, Nat.mod_eq_of_lt (putBits_lt _ _ _ _ _ (reg_lt s a) h h')]
  exact bitsOf_putBits _ _ _ _ (by omega)

/-- A field of another register is left alone. -/
theorem fld_setFld_ne (s : State) (a b hi lo hi' lo' v : Nat) (h : b ≠ a) :
    (s.setFld a hi lo v).fld b hi' lo' = s.fld b hi' lo' := by
  unfold State.fld State.setFld
  rw [reg_setReg, if_neg h]

/-- A counter counts one, and holds at its largest value. -/
theorem reg_bump (s : State) (a b : Nat) :
    (s.bump a).reg b = if b = a then min (s.reg a + 1) 0xFFFFFFFF else s.reg b := by
  unfold State.bump State.bumpBy
  rw [reg_setReg]
  split
  · exact Nat.mod_eq_of_lt (by omega)
  · rfl

/-! ## Memory -/

/-- Keys of a canonical memory rise from its first. -/
theorem wf_cons {k : Nat} {b : Byte} {m : List Host.Cell} :
    Memory.wf ((k, b) :: m) = true ↔ b ≠ 0 ∧ (∀ e ∈ m, k < e.1) ∧ Memory.wf m = true := by
  constructor
  · intro h
    induction m generalizing k b with
    | nil => simpa [Memory.wf] using h
    | cons e m ih =>
      obtain ⟨j, c⟩ := e
      rw [Memory.wf] at h
      simp only [Bool.and_eq_true, bne_iff_ne, ne_eq, decide_eq_true_eq] at h
      obtain ⟨⟨hb, hkj⟩, hm⟩ := h
      refine ⟨hb, ?_, hm⟩
      intro e he
      rcases List.mem_cons.mp he with rfl | he
      · exact hkj
      · exact lt_trans hkj ((ih hm).2.1 e he)
  · rintro ⟨hb, hk, hm⟩
    cases m with
    | nil => simpa [Memory.wf] using hb
    | cons e m =>
      obtain ⟨j, c⟩ := e
      rw [Memory.wf]
      simp only [Bool.and_eq_true, bne_iff_ne, ne_eq, decide_eq_true_eq]
      exact ⟨⟨hb, hk (j, c) (List.mem_cons_self ..)⟩, hm⟩

theorem wf_filter (p : Host.Cell → Bool) {m : List Host.Cell} (h : Memory.wf m = true) : Memory.wf (m.filter p) = true := by
  induction m with
  | nil => rfl
  | cons e m ih =>
    obtain ⟨k, b⟩ := e
    obtain ⟨hb, hk, hm⟩ := wf_cons.mp h
    by_cases hp : p (k, b)
    · rw [List.filter_cons_of_pos hp]
      exact wf_cons.mpr ⟨hb, fun e he => hk e (List.mem_filter.mp he).1, ih hm⟩
    · rw [List.filter_cons_of_neg hp]
      exact ih hm

theorem mem_tput {m : List Host.Cell} {k : Nat} {b : Byte} {e : Host.Cell} (h : e ∈ tput m k b) : e = (k, b) ∨ e ∈ m := by
  induction m with
  | nil => exact Or.inl (List.mem_singleton.mp h)
  | cons c m ih =>
    obtain ⟨j, w⟩ := c
    unfold tput at h
    split at h
    · rcases List.mem_cons.mp h with h | h
      · exact Or.inl h
      · exact Or.inr h
    · split at h
      · rcases List.mem_cons.mp h with h | h
        · exact Or.inl h
        · exact Or.inr (List.mem_cons_of_mem _ h)
      · rcases List.mem_cons.mp h with h | h
        · exact Or.inr (h ▸ List.mem_cons_self ..)
        · rcases ih h with h | h
          · exact Or.inl h
          · exact Or.inr (List.mem_cons_of_mem _ h)

theorem wf_tput {m : List Host.Cell} {k : Nat} {b : Byte} (hb : b ≠ 0) (h : Memory.wf m = true) :
    Memory.wf (tput m k b) = true := by
  induction m with
  | nil => exact wf_cons.mpr ⟨hb, by simp, rfl⟩
  | cons c m ih =>
    obtain ⟨j, w⟩ := c
    obtain ⟨hw, hj, hm⟩ := wf_cons.mp h
    unfold tput
    split
    · rename_i hkj
      refine wf_cons.mpr ⟨hb, ?_, h⟩
      intro e he
      rcases List.mem_cons.mp he with rfl | he
      · exact hkj
      · exact lt_trans hkj (hj e he)
    · split
      · rename_i hkj
        exact wf_cons.mpr ⟨hb, fun e he => hkj ▸ hj e he, hm⟩
      · rename_i h1 h2
        refine wf_cons.mpr ⟨hw, ?_, ih hm⟩
        intro e he
        rcases mem_tput he with rfl | he
        · show j < k
          omega
        · exact hj e he

theorem wf_memPut {m : List Host.Cell} (a : Nat) (b : Byte) (h : Memory.wf m = true) : Memory.wf (memPut m a b) = true := by
  unfold memPut
  split
  · exact wf_filter _ h
  · exact wf_tput (by assumption) h

theorem wf_memPutAll {m : List Host.Cell} (a : Nat) (bs : List Byte) (h : Memory.wf m = true) :
    Memory.wf (memPutAll m a bs) = true := by
  induction bs generalizing m a with
  | nil => exact h
  | cons b bs ih => exact ih (a + 1) (wf_memPut a b h)

theorem wf_apply {m : List Host.Cell} (o : MemOp) (h : Memory.wf m = true) : Memory.wf (o.apply m) = true := by
  cases o with
  | put a bs => exact wf_memPutAll a bs h
  | wipe lo n => exact wf_filter _ h

/-- The stores of a command keep memory's canonical form. -/
theorem wf_stores (w : List MemOp) {m : List Host.Cell} (h : Memory.wf m = true) :
    Memory.wf (w.foldr (fun o m => o.apply m) m) = true := by
  induction w with
  | nil => exact h
  | cons o w ih => exact wf_apply o ih

theorem memGet_memPut (m : List Host.Cell) (a x : Nat) (b : Byte) :
    memGet (memPut m a b) x = if x = a then b else memGet m x := by
  unfold memGet memPut
  split
  · rename_i h
    rw [lookup_tdel]
    split
    · exact h.symm
    · rfl
  · rw [lookup_tput]
    split <;> rfl

theorem memGet_memPutAll (m : List Host.Cell) (a x : Nat) (bs : List Byte) :
    memGet (memPutAll m a bs) x = if a ≤ x ∧ x < a + bs.length then bs.getD (x - a) 0 else memGet m x := by
  induction bs generalizing m a with
  | nil =>
    have : ¬(a ≤ x ∧ x < a) := by omega
    simp [memPutAll, this]
  | cons b bs ih =>
    rw [memPutAll, ih, memGet_memPut]
    simp only [List.length_cons]
    by_cases h1 : a + 1 ≤ x ∧ x < a + 1 + bs.length
    · have h2 : a ≤ x ∧ x < a + (bs.length + 1) := by omega
      have h3 : x - a = (x - (a + 1)) + 1 := by omega
      rw [if_pos h1, if_pos h2, h3, List.getD_cons_succ]
    · rw [if_neg h1]
      by_cases h4 : x = a
      · have h2 : a ≤ x ∧ x < a + (bs.length + 1) := by omega
        rw [if_pos h4, if_pos h2, h4, Nat.sub_self, List.getD_cons_zero]
      · have h2 : ¬(a ≤ x ∧ x < a + (bs.length + 1)) := by omega
        rw [if_neg h4, if_neg h2]

theorem lookup_filter_key (p : Nat → Bool) (m : List Host.Cell) (x : Nat) :
    (m.filter fun e => p e.1).lookup x = if p x then m.lookup x else none := by
  induction m with
  | nil => simp
  | cons e m ih =>
    obtain ⟨k, b⟩ := e
    by_cases hp : p k
    · rw [List.filter_cons_of_pos (by simpa using hp)]
      by_cases hx : x = k
      · subst hx; simp [List.lookup, hp]
      · have hb : (x == k) = false := by simp [hx]
        simp [List.lookup, hb, ih]
    · rw [List.filter_cons_of_neg (by simpa using hp), ih]
      by_cases hx : x = k
      · subst hx; simp [hp]
      · have hb : (x == k) = false := by simp [hx]
        simp [List.lookup, hb]

theorem memGet_memWipe (m : List Host.Cell) (lo n x : Nat) :
    memGet (memWipe m lo n) x = if lo ≤ x ∧ x < lo + n then 0 else memGet m x := by
  unfold memGet memWipe
  rw [lookup_filter_key (fun k => !decide (lo ≤ k ∧ k < lo + n))]
  by_cases h : lo ≤ x ∧ x < lo + n <;> simp [h]

/-- A byte after a command: what the command's own stores made of it. -/
theorem memGet_stores (w : List MemOp) (m : List Host.Cell) (x : Nat) :
    memGet (w.foldr (fun o m => o.apply m) m) x = (wrGet w x).getD (memGet m x) := by
  induction w with
  | nil => rfl
  | cons o w ih =>
    rw [List.foldr_cons]
    cases o with
    | put a bs =>
      simp only [MemOp.apply, memGet_memPutAll, wrGet]
      split
      · rename_i h
        rw [List.getElem?_eq_getElem (by omega), Option.getD_some, List.getD_eq_getElem _ _ (by omega)]
      · exact ih
    | wipe lo n =>
      simp only [MemOp.apply, memGet_memWipe, wrGet]
      split
      · rfl
      · exact ih

/-- Byte `x` of memory between commands. -/
theorem byte_of_wr_nil {s : State} (h : s.wr = []) (x : Nat) : s.byte x = memGet s.mem x := by
  simp [State.byte, h, wrGet]

/-- Byte `x` after a command that began with no store waiting is the byte that the command left. -/
theorem byte_after {s t : State} (h : t.mem = s.mem) (x : Nat) : (s.after t).byte x = t.byte x := by
  simp only [State.byte, State.after, wrGet, Option.getD_none, memGet_stores, h]

end Sys2Proof.Machine
end

