-- ==== Sys2Proof/Laws/State.lean ====
section
/-! SUPPORT. What each update of State does to each field, true by definition. -/

namespace Sys2Proof.Machine

/-! ## setReg -/

@[simp] theorem setReg_mem (s : State) (a v : Nat) : (s.setReg a v).mem = s.mem := rfl
@[simp] theorem setReg_sramErr (s : State) (a v : Nat) : (s.setReg a v).sramErr = s.sramErr := rfl
@[simp] theorem setReg_progErr (s : State) (a v : Nat) : (s.setReg a v).progErr = s.progErr := rfl
@[simp] theorem setReg_dramErr (s : State) (a v : Nat) : (s.setReg a v).dramErr = s.dramErr := rfl
@[simp] theorem setReg_wr (s : State) (a v : Nat) : (s.setReg a v).wr = s.wr := rfl
@[simp] theorem setReg_free (s : State) (a v : Nat) : (s.setReg a v).free = s.free := rfl
@[simp] theorem setReg_out (s : State) (a v : Nat) : (s.setReg a v).out = s.out := rfl
@[simp] theorem setReg_answer (s : State) (a v : Nat) : (s.setReg a v).answer = s.answer := rfl
@[simp] theorem setReg_hub (s : State) (a v : Nat) : (s.setReg a v).hub = s.hub := rfl
@[simp] theorem setReg_msix (s : State) (a v : Nat) : (s.setReg a v).msix = s.msix := rfl
@[simp] theorem setReg_pba (s : State) (a v : Nat) : (s.setReg a v).pba = s.pba := rfl
@[simp] theorem setReg_bayPend (s : State) (a v : Nat) : (s.setReg a v).bayPend = s.bayPend := rfl
@[simp] theorem setReg_fns (s : State) (a v : Nat) : (s.setReg a v).fns = s.fns := rfl
@[simp] theorem setReg_hostReqs (s : State) (a v : Nat) : (s.setReg a v).hostReqs = s.hostReqs := rfl
@[simp] theorem setReg_ridge (s : State) (a v : Nat) : (s.setReg a v).ridge = s.ridge := rfl
@[simp] theorem setReg_truss (s : State) (a v : Nat) : (s.setReg a v).truss = s.truss := rfl
@[simp] theorem setReg_idleSince (s : State) (a v : Nat) : (s.setReg a v).idleSince = s.idleSince := rfl
@[simp] theorem setReg_readySince (s : State) (a v : Nat) : (s.setReg a v).readySince = s.readySince := rfl
@[simp] theorem setReg_cores (s : State) (a v : Nat) : (s.setReg a v).cores = s.cores := rfl
@[simp] theorem setReg_engines (s : State) (a v : Nat) : (s.setReg a v).engines = s.engines := rfl
@[simp] theorem setReg_air (s : State) (a v : Nat) : (s.setReg a v).air = s.air := rfl
@[simp] theorem setReg_tys (s : State) (a v : Nat) : (s.setReg a v).tys = s.tys := rfl
@[simp] theorem setReg_loft (s : State) (a v : Nat) : (s.setReg a v).loft = s.loft := rfl
@[simp] theorem setReg_dram (s : State) (a v : Nat) : (s.setReg a v).dram = s.dram := rfl
@[simp] theorem setReg_skid (s : State) (a v : Nat) : (s.setReg a v).skid = s.skid := rfl
@[simp] theorem setReg_lanes (s : State) (a v : Nat) : (s.setReg a v).lanes = s.lanes := rfl
@[simp] theorem setReg_girt (s : State) (a v : Nat) : (s.setReg a v).girt = s.girt := rfl
@[simp] theorem setReg_islands (s : State) (a v : Nat) : (s.setReg a v).islands = s.islands := rfl
@[simp] theorem setReg_islandResets (s : State) (a v : Nat) : (s.setReg a v).islandResets = s.islandResets := rfl
@[simp] theorem setReg_bayResets (s : State) (a v : Nat) : (s.setReg a v).bayResets = s.bayResets := rfl
@[simp] theorem setReg_bentMoves (s : State) (a v : Nat) : (s.setReg a v).bentMoves = s.bentMoves := rfl
@[simp] theorem setReg_power (s : State) (a v : Nat) : (s.setReg a v).power = s.power := rfl
@[simp] theorem setReg_gauge (s : State) (a v : Nat) : (s.setReg a v).gauge = s.gauge := rfl
@[simp] theorem setReg_faults (s : State) (a v : Nat) : (s.setReg a v).faults = s.faults := rfl
@[simp] theorem setReg_life (s : State) (a v : Nat) : (s.setReg a v).life = s.life := rfl
@[simp] theorem setReg_pins (s : State) (a v : Nat) : (s.setReg a v).pins = s.pins := rfl
@[simp] theorem setReg_pending (s : State) (a v : Nat) : (s.setReg a v).pending = s.pending := rfl

/-! ## setFld -/

@[simp] theorem setFld_mem (s : State) (a hi lo v : Nat) : (s.setFld a hi lo v).mem = s.mem := rfl
@[simp] theorem setFld_sramErr (s : State) (a hi lo v : Nat) : (s.setFld a hi lo v).sramErr = s.sramErr := rfl
@[simp] theorem setFld_progErr (s : State) (a hi lo v : Nat) : (s.setFld a hi lo v).progErr = s.progErr := rfl
@[simp] theorem setFld_dramErr (s : State) (a hi lo v : Nat) : (s.setFld a hi lo v).dramErr = s.dramErr := rfl
@[simp] theorem setFld_wr (s : State) (a hi lo v : Nat) : (s.setFld a hi lo v).wr = s.wr := rfl
@[simp] theorem setFld_free (s : State) (a hi lo v : Nat) : (s.setFld a hi lo v).free = s.free := rfl
@[simp] theorem setFld_out (s : State) (a hi lo v : Nat) : (s.setFld a hi lo v).out = s.out := rfl
@[simp] theorem setFld_answer (s : State) (a hi lo v : Nat) : (s.setFld a hi lo v).answer = s.answer := rfl
@[simp] theorem setFld_hub (s : State) (a hi lo v : Nat) : (s.setFld a hi lo v).hub = s.hub := rfl
@[simp] theorem setFld_msix (s : State) (a hi lo v : Nat) : (s.setFld a hi lo v).msix = s.msix := rfl
@[simp] theorem setFld_pba (s : State) (a hi lo v : Nat) : (s.setFld a hi lo v).pba = s.pba := rfl
@[simp] theorem setFld_bayPend (s : State) (a hi lo v : Nat) : (s.setFld a hi lo v).bayPend = s.bayPend := rfl
@[simp] theorem setFld_fns (s : State) (a hi lo v : Nat) : (s.setFld a hi lo v).fns = s.fns := rfl
@[simp] theorem setFld_hostReqs (s : State) (a hi lo v : Nat) : (s.setFld a hi lo v).hostReqs = s.hostReqs := rfl
@[simp] theorem setFld_ridge (s : State) (a hi lo v : Nat) : (s.setFld a hi lo v).ridge = s.ridge := rfl
@[simp] theorem setFld_truss (s : State) (a hi lo v : Nat) : (s.setFld a hi lo v).truss = s.truss := rfl
@[simp] theorem setFld_idleSince (s : State) (a hi lo v : Nat) : (s.setFld a hi lo v).idleSince = s.idleSince := rfl
@[simp] theorem setFld_readySince (s : State) (a hi lo v : Nat) : (s.setFld a hi lo v).readySince = s.readySince := rfl
@[simp] theorem setFld_cores (s : State) (a hi lo v : Nat) : (s.setFld a hi lo v).cores = s.cores := rfl
@[simp] theorem setFld_engines (s : State) (a hi lo v : Nat) : (s.setFld a hi lo v).engines = s.engines := rfl
@[simp] theorem setFld_air (s : State) (a hi lo v : Nat) : (s.setFld a hi lo v).air = s.air := rfl
@[simp] theorem setFld_tys (s : State) (a hi lo v : Nat) : (s.setFld a hi lo v).tys = s.tys := rfl
@[simp] theorem setFld_loft (s : State) (a hi lo v : Nat) : (s.setFld a hi lo v).loft = s.loft := rfl
@[simp] theorem setFld_dram (s : State) (a hi lo v : Nat) : (s.setFld a hi lo v).dram = s.dram := rfl
@[simp] theorem setFld_skid (s : State) (a hi lo v : Nat) : (s.setFld a hi lo v).skid = s.skid := rfl
@[simp] theorem setFld_lanes (s : State) (a hi lo v : Nat) : (s.setFld a hi lo v).lanes = s.lanes := rfl
@[simp] theorem setFld_girt (s : State) (a hi lo v : Nat) : (s.setFld a hi lo v).girt = s.girt := rfl
@[simp] theorem setFld_islands (s : State) (a hi lo v : Nat) : (s.setFld a hi lo v).islands = s.islands := rfl
@[simp] theorem setFld_islandResets (s : State) (a hi lo v : Nat) : (s.setFld a hi lo v).islandResets = s.islandResets := rfl
@[simp] theorem setFld_bayResets (s : State) (a hi lo v : Nat) : (s.setFld a hi lo v).bayResets = s.bayResets := rfl
@[simp] theorem setFld_bentMoves (s : State) (a hi lo v : Nat) : (s.setFld a hi lo v).bentMoves = s.bentMoves := rfl
@[simp] theorem setFld_power (s : State) (a hi lo v : Nat) : (s.setFld a hi lo v).power = s.power := rfl
@[simp] theorem setFld_gauge (s : State) (a hi lo v : Nat) : (s.setFld a hi lo v).gauge = s.gauge := rfl
@[simp] theorem setFld_faults (s : State) (a hi lo v : Nat) : (s.setFld a hi lo v).faults = s.faults := rfl
@[simp] theorem setFld_life (s : State) (a hi lo v : Nat) : (s.setFld a hi lo v).life = s.life := rfl
@[simp] theorem setFld_pins (s : State) (a hi lo v : Nat) : (s.setFld a hi lo v).pins = s.pins := rfl
@[simp] theorem setFld_pending (s : State) (a hi lo v : Nat) : (s.setFld a hi lo v).pending = s.pending := rfl

/-! ## setFlag -/

@[simp] theorem setFlag_mem (s : State) (a i : Nat) (b : Bool) : (s.setFlag a i b).mem = s.mem := rfl
@[simp] theorem setFlag_sramErr (s : State) (a i : Nat) (b : Bool) : (s.setFlag a i b).sramErr = s.sramErr := rfl
@[simp] theorem setFlag_progErr (s : State) (a i : Nat) (b : Bool) : (s.setFlag a i b).progErr = s.progErr := rfl
@[simp] theorem setFlag_dramErr (s : State) (a i : Nat) (b : Bool) : (s.setFlag a i b).dramErr = s.dramErr := rfl
@[simp] theorem setFlag_wr (s : State) (a i : Nat) (b : Bool) : (s.setFlag a i b).wr = s.wr := rfl
@[simp] theorem setFlag_free (s : State) (a i : Nat) (b : Bool) : (s.setFlag a i b).free = s.free := rfl
@[simp] theorem setFlag_out (s : State) (a i : Nat) (b : Bool) : (s.setFlag a i b).out = s.out := rfl
@[simp] theorem setFlag_answer (s : State) (a i : Nat) (b : Bool) : (s.setFlag a i b).answer = s.answer := rfl
@[simp] theorem setFlag_hub (s : State) (a i : Nat) (b : Bool) : (s.setFlag a i b).hub = s.hub := rfl
@[simp] theorem setFlag_msix (s : State) (a i : Nat) (b : Bool) : (s.setFlag a i b).msix = s.msix := rfl
@[simp] theorem setFlag_pba (s : State) (a i : Nat) (b : Bool) : (s.setFlag a i b).pba = s.pba := rfl
@[simp] theorem setFlag_bayPend (s : State) (a i : Nat) (b : Bool) : (s.setFlag a i b).bayPend = s.bayPend := rfl
@[simp] theorem setFlag_fns (s : State) (a i : Nat) (b : Bool) : (s.setFlag a i b).fns = s.fns := rfl
@[simp] theorem setFlag_hostReqs (s : State) (a i : Nat) (b : Bool) : (s.setFlag a i b).hostReqs = s.hostReqs := rfl
@[simp] theorem setFlag_ridge (s : State) (a i : Nat) (b : Bool) : (s.setFlag a i b).ridge = s.ridge := rfl
@[simp] theorem setFlag_truss (s : State) (a i : Nat) (b : Bool) : (s.setFlag a i b).truss = s.truss := rfl
@[simp] theorem setFlag_idleSince (s : State) (a i : Nat) (b : Bool) : (s.setFlag a i b).idleSince = s.idleSince := rfl
@[simp] theorem setFlag_readySince (s : State) (a i : Nat) (b : Bool) : (s.setFlag a i b).readySince = s.readySince := rfl
@[simp] theorem setFlag_cores (s : State) (a i : Nat) (b : Bool) : (s.setFlag a i b).cores = s.cores := rfl
@[simp] theorem setFlag_engines (s : State) (a i : Nat) (b : Bool) : (s.setFlag a i b).engines = s.engines := rfl
@[simp] theorem setFlag_air (s : State) (a i : Nat) (b : Bool) : (s.setFlag a i b).air = s.air := rfl
@[simp] theorem setFlag_tys (s : State) (a i : Nat) (b : Bool) : (s.setFlag a i b).tys = s.tys := rfl
@[simp] theorem setFlag_loft (s : State) (a i : Nat) (b : Bool) : (s.setFlag a i b).loft = s.loft := rfl
@[simp] theorem setFlag_dram (s : State) (a i : Nat) (b : Bool) : (s.setFlag a i b).dram = s.dram := rfl
@[simp] theorem setFlag_skid (s : State) (a i : Nat) (b : Bool) : (s.setFlag a i b).skid = s.skid := rfl
@[simp] theorem setFlag_lanes (s : State) (a i : Nat) (b : Bool) : (s.setFlag a i b).lanes = s.lanes := rfl
@[simp] theorem setFlag_girt (s : State) (a i : Nat) (b : Bool) : (s.setFlag a i b).girt = s.girt := rfl
@[simp] theorem setFlag_islands (s : State) (a i : Nat) (b : Bool) : (s.setFlag a i b).islands = s.islands := rfl
@[simp] theorem setFlag_islandResets (s : State) (a i : Nat) (b : Bool) : (s.setFlag a i b).islandResets = s.islandResets := rfl
@[simp] theorem setFlag_bayResets (s : State) (a i : Nat) (b : Bool) : (s.setFlag a i b).bayResets = s.bayResets := rfl
@[simp] theorem setFlag_bentMoves (s : State) (a i : Nat) (b : Bool) : (s.setFlag a i b).bentMoves = s.bentMoves := rfl
@[simp] theorem setFlag_power (s : State) (a i : Nat) (b : Bool) : (s.setFlag a i b).power = s.power := rfl
@[simp] theorem setFlag_gauge (s : State) (a i : Nat) (b : Bool) : (s.setFlag a i b).gauge = s.gauge := rfl
@[simp] theorem setFlag_faults (s : State) (a i : Nat) (b : Bool) : (s.setFlag a i b).faults = s.faults := rfl
@[simp] theorem setFlag_life (s : State) (a i : Nat) (b : Bool) : (s.setFlag a i b).life = s.life := rfl
@[simp] theorem setFlag_pins (s : State) (a i : Nat) (b : Bool) : (s.setFlag a i b).pins = s.pins := rfl
@[simp] theorem setFlag_pending (s : State) (a i : Nat) (b : Bool) : (s.setFlag a i b).pending = s.pending := rfl

/-! ## bumpBy -/

@[simp] theorem bumpBy_mem (s : State) (a n : Nat) : (s.bumpBy a n).mem = s.mem := rfl
@[simp] theorem bumpBy_sramErr (s : State) (a n : Nat) : (s.bumpBy a n).sramErr = s.sramErr := rfl
@[simp] theorem bumpBy_progErr (s : State) (a n : Nat) : (s.bumpBy a n).progErr = s.progErr := rfl
@[simp] theorem bumpBy_dramErr (s : State) (a n : Nat) : (s.bumpBy a n).dramErr = s.dramErr := rfl
@[simp] theorem bumpBy_wr (s : State) (a n : Nat) : (s.bumpBy a n).wr = s.wr := rfl
@[simp] theorem bumpBy_free (s : State) (a n : Nat) : (s.bumpBy a n).free = s.free := rfl
@[simp] theorem bumpBy_out (s : State) (a n : Nat) : (s.bumpBy a n).out = s.out := rfl
@[simp] theorem bumpBy_answer (s : State) (a n : Nat) : (s.bumpBy a n).answer = s.answer := rfl
@[simp] theorem bumpBy_hub (s : State) (a n : Nat) : (s.bumpBy a n).hub = s.hub := rfl
@[simp] theorem bumpBy_msix (s : State) (a n : Nat) : (s.bumpBy a n).msix = s.msix := rfl
@[simp] theorem bumpBy_pba (s : State) (a n : Nat) : (s.bumpBy a n).pba = s.pba := rfl
@[simp] theorem bumpBy_bayPend (s : State) (a n : Nat) : (s.bumpBy a n).bayPend = s.bayPend := rfl
@[simp] theorem bumpBy_fns (s : State) (a n : Nat) : (s.bumpBy a n).fns = s.fns := rfl
@[simp] theorem bumpBy_hostReqs (s : State) (a n : Nat) : (s.bumpBy a n).hostReqs = s.hostReqs := rfl
@[simp] theorem bumpBy_ridge (s : State) (a n : Nat) : (s.bumpBy a n).ridge = s.ridge := rfl
@[simp] theorem bumpBy_truss (s : State) (a n : Nat) : (s.bumpBy a n).truss = s.truss := rfl
@[simp] theorem bumpBy_idleSince (s : State) (a n : Nat) : (s.bumpBy a n).idleSince = s.idleSince := rfl
@[simp] theorem bumpBy_readySince (s : State) (a n : Nat) : (s.bumpBy a n).readySince = s.readySince := rfl
@[simp] theorem bumpBy_cores (s : State) (a n : Nat) : (s.bumpBy a n).cores = s.cores := rfl
@[simp] theorem bumpBy_engines (s : State) (a n : Nat) : (s.bumpBy a n).engines = s.engines := rfl
@[simp] theorem bumpBy_air (s : State) (a n : Nat) : (s.bumpBy a n).air = s.air := rfl
@[simp] theorem bumpBy_tys (s : State) (a n : Nat) : (s.bumpBy a n).tys = s.tys := rfl
@[simp] theorem bumpBy_loft (s : State) (a n : Nat) : (s.bumpBy a n).loft = s.loft := rfl
@[simp] theorem bumpBy_dram (s : State) (a n : Nat) : (s.bumpBy a n).dram = s.dram := rfl
@[simp] theorem bumpBy_skid (s : State) (a n : Nat) : (s.bumpBy a n).skid = s.skid := rfl
@[simp] theorem bumpBy_lanes (s : State) (a n : Nat) : (s.bumpBy a n).lanes = s.lanes := rfl
@[simp] theorem bumpBy_girt (s : State) (a n : Nat) : (s.bumpBy a n).girt = s.girt := rfl
@[simp] theorem bumpBy_islands (s : State) (a n : Nat) : (s.bumpBy a n).islands = s.islands := rfl
@[simp] theorem bumpBy_islandResets (s : State) (a n : Nat) : (s.bumpBy a n).islandResets = s.islandResets := rfl
@[simp] theorem bumpBy_bayResets (s : State) (a n : Nat) : (s.bumpBy a n).bayResets = s.bayResets := rfl
@[simp] theorem bumpBy_bentMoves (s : State) (a n : Nat) : (s.bumpBy a n).bentMoves = s.bentMoves := rfl
@[simp] theorem bumpBy_power (s : State) (a n : Nat) : (s.bumpBy a n).power = s.power := rfl
@[simp] theorem bumpBy_gauge (s : State) (a n : Nat) : (s.bumpBy a n).gauge = s.gauge := rfl
@[simp] theorem bumpBy_faults (s : State) (a n : Nat) : (s.bumpBy a n).faults = s.faults := rfl
@[simp] theorem bumpBy_life (s : State) (a n : Nat) : (s.bumpBy a n).life = s.life := rfl
@[simp] theorem bumpBy_pins (s : State) (a n : Nat) : (s.bumpBy a n).pins = s.pins := rfl
@[simp] theorem bumpBy_pending (s : State) (a n : Nat) : (s.bumpBy a n).pending = s.pending := rfl

/-! ## bump -/

@[simp] theorem bump_mem (s : State) (a : Nat) : (s.bump a).mem = s.mem := rfl
@[simp] theorem bump_sramErr (s : State) (a : Nat) : (s.bump a).sramErr = s.sramErr := rfl
@[simp] theorem bump_progErr (s : State) (a : Nat) : (s.bump a).progErr = s.progErr := rfl
@[simp] theorem bump_dramErr (s : State) (a : Nat) : (s.bump a).dramErr = s.dramErr := rfl
@[simp] theorem bump_wr (s : State) (a : Nat) : (s.bump a).wr = s.wr := rfl
@[simp] theorem bump_free (s : State) (a : Nat) : (s.bump a).free = s.free := rfl
@[simp] theorem bump_out (s : State) (a : Nat) : (s.bump a).out = s.out := rfl
@[simp] theorem bump_answer (s : State) (a : Nat) : (s.bump a).answer = s.answer := rfl
@[simp] theorem bump_hub (s : State) (a : Nat) : (s.bump a).hub = s.hub := rfl
@[simp] theorem bump_msix (s : State) (a : Nat) : (s.bump a).msix = s.msix := rfl
@[simp] theorem bump_pba (s : State) (a : Nat) : (s.bump a).pba = s.pba := rfl
@[simp] theorem bump_bayPend (s : State) (a : Nat) : (s.bump a).bayPend = s.bayPend := rfl
@[simp] theorem bump_fns (s : State) (a : Nat) : (s.bump a).fns = s.fns := rfl
@[simp] theorem bump_hostReqs (s : State) (a : Nat) : (s.bump a).hostReqs = s.hostReqs := rfl
@[simp] theorem bump_ridge (s : State) (a : Nat) : (s.bump a).ridge = s.ridge := rfl
@[simp] theorem bump_truss (s : State) (a : Nat) : (s.bump a).truss = s.truss := rfl
@[simp] theorem bump_idleSince (s : State) (a : Nat) : (s.bump a).idleSince = s.idleSince := rfl
@[simp] theorem bump_readySince (s : State) (a : Nat) : (s.bump a).readySince = s.readySince := rfl
@[simp] theorem bump_cores (s : State) (a : Nat) : (s.bump a).cores = s.cores := rfl
@[simp] theorem bump_engines (s : State) (a : Nat) : (s.bump a).engines = s.engines := rfl
@[simp] theorem bump_air (s : State) (a : Nat) : (s.bump a).air = s.air := rfl
@[simp] theorem bump_tys (s : State) (a : Nat) : (s.bump a).tys = s.tys := rfl
@[simp] theorem bump_loft (s : State) (a : Nat) : (s.bump a).loft = s.loft := rfl
@[simp] theorem bump_dram (s : State) (a : Nat) : (s.bump a).dram = s.dram := rfl
@[simp] theorem bump_skid (s : State) (a : Nat) : (s.bump a).skid = s.skid := rfl
@[simp] theorem bump_lanes (s : State) (a : Nat) : (s.bump a).lanes = s.lanes := rfl
@[simp] theorem bump_girt (s : State) (a : Nat) : (s.bump a).girt = s.girt := rfl
@[simp] theorem bump_islands (s : State) (a : Nat) : (s.bump a).islands = s.islands := rfl
@[simp] theorem bump_islandResets (s : State) (a : Nat) : (s.bump a).islandResets = s.islandResets := rfl
@[simp] theorem bump_bayResets (s : State) (a : Nat) : (s.bump a).bayResets = s.bayResets := rfl
@[simp] theorem bump_bentMoves (s : State) (a : Nat) : (s.bump a).bentMoves = s.bentMoves := rfl
@[simp] theorem bump_power (s : State) (a : Nat) : (s.bump a).power = s.power := rfl
@[simp] theorem bump_gauge (s : State) (a : Nat) : (s.bump a).gauge = s.gauge := rfl
@[simp] theorem bump_faults (s : State) (a : Nat) : (s.bump a).faults = s.faults := rfl
@[simp] theorem bump_life (s : State) (a : Nat) : (s.bump a).life = s.life := rfl
@[simp] theorem bump_pins (s : State) (a : Nat) : (s.bump a).pins = s.pins := rfl
@[simp] theorem bump_pending (s : State) (a : Nat) : (s.bump a).pending = s.pending := rfl

/-! ## setWide -/

@[simp] theorem setWide_mem (s : State) (a v : Nat) : (s.setWide a v).mem = s.mem := rfl
@[simp] theorem setWide_sramErr (s : State) (a v : Nat) : (s.setWide a v).sramErr = s.sramErr := rfl
@[simp] theorem setWide_progErr (s : State) (a v : Nat) : (s.setWide a v).progErr = s.progErr := rfl
@[simp] theorem setWide_dramErr (s : State) (a v : Nat) : (s.setWide a v).dramErr = s.dramErr := rfl
@[simp] theorem setWide_wr (s : State) (a v : Nat) : (s.setWide a v).wr = s.wr := rfl
@[simp] theorem setWide_free (s : State) (a v : Nat) : (s.setWide a v).free = s.free := rfl
@[simp] theorem setWide_out (s : State) (a v : Nat) : (s.setWide a v).out = s.out := rfl
@[simp] theorem setWide_answer (s : State) (a v : Nat) : (s.setWide a v).answer = s.answer := rfl
@[simp] theorem setWide_hub (s : State) (a v : Nat) : (s.setWide a v).hub = s.hub := rfl
@[simp] theorem setWide_msix (s : State) (a v : Nat) : (s.setWide a v).msix = s.msix := rfl
@[simp] theorem setWide_pba (s : State) (a v : Nat) : (s.setWide a v).pba = s.pba := rfl
@[simp] theorem setWide_bayPend (s : State) (a v : Nat) : (s.setWide a v).bayPend = s.bayPend := rfl
@[simp] theorem setWide_fns (s : State) (a v : Nat) : (s.setWide a v).fns = s.fns := rfl
@[simp] theorem setWide_hostReqs (s : State) (a v : Nat) : (s.setWide a v).hostReqs = s.hostReqs := rfl
@[simp] theorem setWide_ridge (s : State) (a v : Nat) : (s.setWide a v).ridge = s.ridge := rfl
@[simp] theorem setWide_truss (s : State) (a v : Nat) : (s.setWide a v).truss = s.truss := rfl
@[simp] theorem setWide_idleSince (s : State) (a v : Nat) : (s.setWide a v).idleSince = s.idleSince := rfl
@[simp] theorem setWide_readySince (s : State) (a v : Nat) : (s.setWide a v).readySince = s.readySince := rfl
@[simp] theorem setWide_cores (s : State) (a v : Nat) : (s.setWide a v).cores = s.cores := rfl
@[simp] theorem setWide_engines (s : State) (a v : Nat) : (s.setWide a v).engines = s.engines := rfl
@[simp] theorem setWide_air (s : State) (a v : Nat) : (s.setWide a v).air = s.air := rfl
@[simp] theorem setWide_tys (s : State) (a v : Nat) : (s.setWide a v).tys = s.tys := rfl
@[simp] theorem setWide_loft (s : State) (a v : Nat) : (s.setWide a v).loft = s.loft := rfl
@[simp] theorem setWide_dram (s : State) (a v : Nat) : (s.setWide a v).dram = s.dram := rfl
@[simp] theorem setWide_skid (s : State) (a v : Nat) : (s.setWide a v).skid = s.skid := rfl
@[simp] theorem setWide_lanes (s : State) (a v : Nat) : (s.setWide a v).lanes = s.lanes := rfl
@[simp] theorem setWide_girt (s : State) (a v : Nat) : (s.setWide a v).girt = s.girt := rfl
@[simp] theorem setWide_islands (s : State) (a v : Nat) : (s.setWide a v).islands = s.islands := rfl
@[simp] theorem setWide_islandResets (s : State) (a v : Nat) : (s.setWide a v).islandResets = s.islandResets := rfl
@[simp] theorem setWide_bayResets (s : State) (a v : Nat) : (s.setWide a v).bayResets = s.bayResets := rfl
@[simp] theorem setWide_bentMoves (s : State) (a v : Nat) : (s.setWide a v).bentMoves = s.bentMoves := rfl
@[simp] theorem setWide_power (s : State) (a v : Nat) : (s.setWide a v).power = s.power := rfl
@[simp] theorem setWide_gauge (s : State) (a v : Nat) : (s.setWide a v).gauge = s.gauge := rfl
@[simp] theorem setWide_faults (s : State) (a v : Nat) : (s.setWide a v).faults = s.faults := rfl
@[simp] theorem setWide_life (s : State) (a v : Nat) : (s.setWide a v).life = s.life := rfl
@[simp] theorem setWide_pins (s : State) (a v : Nat) : (s.setWide a v).pins = s.pins := rfl
@[simp] theorem setWide_pending (s : State) (a v : Nat) : (s.setWide a v).pending = s.pending := rfl

/-! ## say -/

@[simp] theorem say_regs (s : State) (x : Answer) : (s.say x).regs = s.regs := rfl
@[simp] theorem say_mem (s : State) (x : Answer) : (s.say x).mem = s.mem := rfl
@[simp] theorem say_sramErr (s : State) (x : Answer) : (s.say x).sramErr = s.sramErr := rfl
@[simp] theorem say_progErr (s : State) (x : Answer) : (s.say x).progErr = s.progErr := rfl
@[simp] theorem say_dramErr (s : State) (x : Answer) : (s.say x).dramErr = s.dramErr := rfl
@[simp] theorem say_wr (s : State) (x : Answer) : (s.say x).wr = s.wr := rfl
@[simp] theorem say_free (s : State) (x : Answer) : (s.say x).free = s.free := rfl
@[simp] theorem say_out (s : State) (x : Answer) : (s.say x).out = s.out := rfl
@[simp] theorem say_hub (s : State) (x : Answer) : (s.say x).hub = s.hub := rfl
@[simp] theorem say_msix (s : State) (x : Answer) : (s.say x).msix = s.msix := rfl
@[simp] theorem say_pba (s : State) (x : Answer) : (s.say x).pba = s.pba := rfl
@[simp] theorem say_bayPend (s : State) (x : Answer) : (s.say x).bayPend = s.bayPend := rfl
@[simp] theorem say_fns (s : State) (x : Answer) : (s.say x).fns = s.fns := rfl
@[simp] theorem say_hostReqs (s : State) (x : Answer) : (s.say x).hostReqs = s.hostReqs := rfl
@[simp] theorem say_ridge (s : State) (x : Answer) : (s.say x).ridge = s.ridge := rfl
@[simp] theorem say_truss (s : State) (x : Answer) : (s.say x).truss = s.truss := rfl
@[simp] theorem say_idleSince (s : State) (x : Answer) : (s.say x).idleSince = s.idleSince := rfl
@[simp] theorem say_readySince (s : State) (x : Answer) : (s.say x).readySince = s.readySince := rfl
@[simp] theorem say_cores (s : State) (x : Answer) : (s.say x).cores = s.cores := rfl
@[simp] theorem say_engines (s : State) (x : Answer) : (s.say x).engines = s.engines := rfl
@[simp] theorem say_air (s : State) (x : Answer) : (s.say x).air = s.air := rfl
@[simp] theorem say_tys (s : State) (x : Answer) : (s.say x).tys = s.tys := rfl
@[simp] theorem say_loft (s : State) (x : Answer) : (s.say x).loft = s.loft := rfl
@[simp] theorem say_dram (s : State) (x : Answer) : (s.say x).dram = s.dram := rfl
@[simp] theorem say_skid (s : State) (x : Answer) : (s.say x).skid = s.skid := rfl
@[simp] theorem say_lanes (s : State) (x : Answer) : (s.say x).lanes = s.lanes := rfl
@[simp] theorem say_girt (s : State) (x : Answer) : (s.say x).girt = s.girt := rfl
@[simp] theorem say_islands (s : State) (x : Answer) : (s.say x).islands = s.islands := rfl
@[simp] theorem say_islandResets (s : State) (x : Answer) : (s.say x).islandResets = s.islandResets := rfl
@[simp] theorem say_bayResets (s : State) (x : Answer) : (s.say x).bayResets = s.bayResets := rfl
@[simp] theorem say_bentMoves (s : State) (x : Answer) : (s.say x).bentMoves = s.bentMoves := rfl
@[simp] theorem say_power (s : State) (x : Answer) : (s.say x).power = s.power := rfl
@[simp] theorem say_gauge (s : State) (x : Answer) : (s.say x).gauge = s.gauge := rfl
@[simp] theorem say_faults (s : State) (x : Answer) : (s.say x).faults = s.faults := rfl
@[simp] theorem say_life (s : State) (x : Answer) : (s.say x).life = s.life := rfl
@[simp] theorem say_pins (s : State) (x : Answer) : (s.say x).pins = s.pins := rfl
@[simp] theorem say_pending (s : State) (x : Answer) : (s.say x).pending = s.pending := rfl

/-! ## emit -/

@[simp] theorem emit_regs (s : State) (o : Output) : (s.emit o).regs = s.regs := rfl
@[simp] theorem emit_mem (s : State) (o : Output) : (s.emit o).mem = s.mem := rfl
@[simp] theorem emit_sramErr (s : State) (o : Output) : (s.emit o).sramErr = s.sramErr := rfl
@[simp] theorem emit_progErr (s : State) (o : Output) : (s.emit o).progErr = s.progErr := rfl
@[simp] theorem emit_dramErr (s : State) (o : Output) : (s.emit o).dramErr = s.dramErr := rfl
@[simp] theorem emit_wr (s : State) (o : Output) : (s.emit o).wr = s.wr := rfl
@[simp] theorem emit_free (s : State) (o : Output) : (s.emit o).free = s.free := rfl
@[simp] theorem emit_answer (s : State) (o : Output) : (s.emit o).answer = s.answer := rfl
@[simp] theorem emit_hub (s : State) (o : Output) : (s.emit o).hub = s.hub := rfl
@[simp] theorem emit_msix (s : State) (o : Output) : (s.emit o).msix = s.msix := rfl
@[simp] theorem emit_pba (s : State) (o : Output) : (s.emit o).pba = s.pba := rfl
@[simp] theorem emit_bayPend (s : State) (o : Output) : (s.emit o).bayPend = s.bayPend := rfl
@[simp] theorem emit_fns (s : State) (o : Output) : (s.emit o).fns = s.fns := rfl
@[simp] theorem emit_hostReqs (s : State) (o : Output) : (s.emit o).hostReqs = s.hostReqs := rfl
@[simp] theorem emit_ridge (s : State) (o : Output) : (s.emit o).ridge = s.ridge := rfl
@[simp] theorem emit_truss (s : State) (o : Output) : (s.emit o).truss = s.truss := rfl
@[simp] theorem emit_idleSince (s : State) (o : Output) : (s.emit o).idleSince = s.idleSince := rfl
@[simp] theorem emit_readySince (s : State) (o : Output) : (s.emit o).readySince = s.readySince := rfl
@[simp] theorem emit_cores (s : State) (o : Output) : (s.emit o).cores = s.cores := rfl
@[simp] theorem emit_engines (s : State) (o : Output) : (s.emit o).engines = s.engines := rfl
@[simp] theorem emit_air (s : State) (o : Output) : (s.emit o).air = s.air := rfl
@[simp] theorem emit_tys (s : State) (o : Output) : (s.emit o).tys = s.tys := rfl
@[simp] theorem emit_loft (s : State) (o : Output) : (s.emit o).loft = s.loft := rfl
@[simp] theorem emit_dram (s : State) (o : Output) : (s.emit o).dram = s.dram := rfl
@[simp] theorem emit_skid (s : State) (o : Output) : (s.emit o).skid = s.skid := rfl
@[simp] theorem emit_lanes (s : State) (o : Output) : (s.emit o).lanes = s.lanes := rfl
@[simp] theorem emit_girt (s : State) (o : Output) : (s.emit o).girt = s.girt := rfl
@[simp] theorem emit_islands (s : State) (o : Output) : (s.emit o).islands = s.islands := rfl
@[simp] theorem emit_islandResets (s : State) (o : Output) : (s.emit o).islandResets = s.islandResets := rfl
@[simp] theorem emit_bayResets (s : State) (o : Output) : (s.emit o).bayResets = s.bayResets := rfl
@[simp] theorem emit_bentMoves (s : State) (o : Output) : (s.emit o).bentMoves = s.bentMoves := rfl
@[simp] theorem emit_power (s : State) (o : Output) : (s.emit o).power = s.power := rfl
@[simp] theorem emit_gauge (s : State) (o : Output) : (s.emit o).gauge = s.gauge := rfl
@[simp] theorem emit_faults (s : State) (o : Output) : (s.emit o).faults = s.faults := rfl
@[simp] theorem emit_life (s : State) (o : Output) : (s.emit o).life = s.life := rfl
@[simp] theorem emit_pins (s : State) (o : Output) : (s.emit o).pins = s.pins := rfl
@[simp] theorem emit_pending (s : State) (o : Output) : (s.emit o).pending = s.pending := rfl

/-! ## setCore -/

@[simp] theorem setCore_regs (s : State) (c : Nat) (k : Core) : (s.setCore c k).regs = s.regs := rfl
@[simp] theorem setCore_mem (s : State) (c : Nat) (k : Core) : (s.setCore c k).mem = s.mem := rfl
@[simp] theorem setCore_sramErr (s : State) (c : Nat) (k : Core) : (s.setCore c k).sramErr = s.sramErr := rfl
@[simp] theorem setCore_progErr (s : State) (c : Nat) (k : Core) : (s.setCore c k).progErr = s.progErr := rfl
@[simp] theorem setCore_dramErr (s : State) (c : Nat) (k : Core) : (s.setCore c k).dramErr = s.dramErr := rfl
@[simp] theorem setCore_wr (s : State) (c : Nat) (k : Core) : (s.setCore c k).wr = s.wr := rfl
@[simp] theorem setCore_free (s : State) (c : Nat) (k : Core) : (s.setCore c k).free = s.free := rfl
@[simp] theorem setCore_out (s : State) (c : Nat) (k : Core) : (s.setCore c k).out = s.out := rfl
@[simp] theorem setCore_answer (s : State) (c : Nat) (k : Core) : (s.setCore c k).answer = s.answer := rfl
@[simp] theorem setCore_hub (s : State) (c : Nat) (k : Core) : (s.setCore c k).hub = s.hub := rfl
@[simp] theorem setCore_msix (s : State) (c : Nat) (k : Core) : (s.setCore c k).msix = s.msix := rfl
@[simp] theorem setCore_pba (s : State) (c : Nat) (k : Core) : (s.setCore c k).pba = s.pba := rfl
@[simp] theorem setCore_bayPend (s : State) (c : Nat) (k : Core) : (s.setCore c k).bayPend = s.bayPend := rfl
@[simp] theorem setCore_fns (s : State) (c : Nat) (k : Core) : (s.setCore c k).fns = s.fns := rfl
@[simp] theorem setCore_hostReqs (s : State) (c : Nat) (k : Core) : (s.setCore c k).hostReqs = s.hostReqs := rfl
@[simp] theorem setCore_ridge (s : State) (c : Nat) (k : Core) : (s.setCore c k).ridge = s.ridge := rfl
@[simp] theorem setCore_truss (s : State) (c : Nat) (k : Core) : (s.setCore c k).truss = s.truss := rfl
@[simp] theorem setCore_idleSince (s : State) (c : Nat) (k : Core) : (s.setCore c k).idleSince = s.idleSince := rfl
@[simp] theorem setCore_readySince (s : State) (c : Nat) (k : Core) : (s.setCore c k).readySince = s.readySince := rfl
@[simp] theorem setCore_engines (s : State) (c : Nat) (k : Core) : (s.setCore c k).engines = s.engines := rfl
@[simp] theorem setCore_air (s : State) (c : Nat) (k : Core) : (s.setCore c k).air = s.air := rfl
@[simp] theorem setCore_tys (s : State) (c : Nat) (k : Core) : (s.setCore c k).tys = s.tys := rfl
@[simp] theorem setCore_loft (s : State) (c : Nat) (k : Core) : (s.setCore c k).loft = s.loft := rfl
@[simp] theorem setCore_dram (s : State) (c : Nat) (k : Core) : (s.setCore c k).dram = s.dram := rfl
@[simp] theorem setCore_skid (s : State) (c : Nat) (k : Core) : (s.setCore c k).skid = s.skid := rfl
@[simp] theorem setCore_lanes (s : State) (c : Nat) (k : Core) : (s.setCore c k).lanes = s.lanes := rfl
@[simp] theorem setCore_girt (s : State) (c : Nat) (k : Core) : (s.setCore c k).girt = s.girt := rfl
@[simp] theorem setCore_islands (s : State) (c : Nat) (k : Core) : (s.setCore c k).islands = s.islands := rfl
@[simp] theorem setCore_islandResets (s : State) (c : Nat) (k : Core) : (s.setCore c k).islandResets = s.islandResets := rfl
@[simp] theorem setCore_bayResets (s : State) (c : Nat) (k : Core) : (s.setCore c k).bayResets = s.bayResets := rfl
@[simp] theorem setCore_bentMoves (s : State) (c : Nat) (k : Core) : (s.setCore c k).bentMoves = s.bentMoves := rfl
@[simp] theorem setCore_power (s : State) (c : Nat) (k : Core) : (s.setCore c k).power = s.power := rfl
@[simp] theorem setCore_gauge (s : State) (c : Nat) (k : Core) : (s.setCore c k).gauge = s.gauge := rfl
@[simp] theorem setCore_faults (s : State) (c : Nat) (k : Core) : (s.setCore c k).faults = s.faults := rfl
@[simp] theorem setCore_life (s : State) (c : Nat) (k : Core) : (s.setCore c k).life = s.life := rfl
@[simp] theorem setCore_pins (s : State) (c : Nat) (k : Core) : (s.setCore c k).pins = s.pins := rfl
@[simp] theorem setCore_pending (s : State) (c : Nat) (k : Core) : (s.setCore c k).pending = s.pending := rfl

/-! ## setIsland -/

@[simp] theorem setIsland_regs (s : State) (i : Nat) (x : Island) : (s.setIsland i x).regs = s.regs := rfl
@[simp] theorem setIsland_mem (s : State) (i : Nat) (x : Island) : (s.setIsland i x).mem = s.mem := rfl
@[simp] theorem setIsland_sramErr (s : State) (i : Nat) (x : Island) : (s.setIsland i x).sramErr = s.sramErr := rfl
@[simp] theorem setIsland_progErr (s : State) (i : Nat) (x : Island) : (s.setIsland i x).progErr = s.progErr := rfl
@[simp] theorem setIsland_dramErr (s : State) (i : Nat) (x : Island) : (s.setIsland i x).dramErr = s.dramErr := rfl
@[simp] theorem setIsland_wr (s : State) (i : Nat) (x : Island) : (s.setIsland i x).wr = s.wr := rfl
@[simp] theorem setIsland_free (s : State) (i : Nat) (x : Island) : (s.setIsland i x).free = s.free := rfl
@[simp] theorem setIsland_out (s : State) (i : Nat) (x : Island) : (s.setIsland i x).out = s.out := rfl
@[simp] theorem setIsland_answer (s : State) (i : Nat) (x : Island) : (s.setIsland i x).answer = s.answer := rfl
@[simp] theorem setIsland_hub (s : State) (i : Nat) (x : Island) : (s.setIsland i x).hub = s.hub := rfl
@[simp] theorem setIsland_msix (s : State) (i : Nat) (x : Island) : (s.setIsland i x).msix = s.msix := rfl
@[simp] theorem setIsland_pba (s : State) (i : Nat) (x : Island) : (s.setIsland i x).pba = s.pba := rfl
@[simp] theorem setIsland_bayPend (s : State) (i : Nat) (x : Island) : (s.setIsland i x).bayPend = s.bayPend := rfl
@[simp] theorem setIsland_fns (s : State) (i : Nat) (x : Island) : (s.setIsland i x).fns = s.fns := rfl
@[simp] theorem setIsland_hostReqs (s : State) (i : Nat) (x : Island) : (s.setIsland i x).hostReqs = s.hostReqs := rfl
@[simp] theorem setIsland_ridge (s : State) (i : Nat) (x : Island) : (s.setIsland i x).ridge = s.ridge := rfl
@[simp] theorem setIsland_truss (s : State) (i : Nat) (x : Island) : (s.setIsland i x).truss = s.truss := rfl
@[simp] theorem setIsland_idleSince (s : State) (i : Nat) (x : Island) : (s.setIsland i x).idleSince = s.idleSince := rfl
@[simp] theorem setIsland_readySince (s : State) (i : Nat) (x : Island) : (s.setIsland i x).readySince = s.readySince := rfl
@[simp] theorem setIsland_cores (s : State) (i : Nat) (x : Island) : (s.setIsland i x).cores = s.cores := rfl
@[simp] theorem setIsland_engines (s : State) (i : Nat) (x : Island) : (s.setIsland i x).engines = s.engines := rfl
@[simp] theorem setIsland_air (s : State) (i : Nat) (x : Island) : (s.setIsland i x).air = s.air := rfl
@[simp] theorem setIsland_tys (s : State) (i : Nat) (x : Island) : (s.setIsland i x).tys = s.tys := rfl
@[simp] theorem setIsland_loft (s : State) (i : Nat) (x : Island) : (s.setIsland i x).loft = s.loft := rfl
@[simp] theorem setIsland_dram (s : State) (i : Nat) (x : Island) : (s.setIsland i x).dram = s.dram := rfl
@[simp] theorem setIsland_skid (s : State) (i : Nat) (x : Island) : (s.setIsland i x).skid = s.skid := rfl
@[simp] theorem setIsland_lanes (s : State) (i : Nat) (x : Island) : (s.setIsland i x).lanes = s.lanes := rfl
@[simp] theorem setIsland_girt (s : State) (i : Nat) (x : Island) : (s.setIsland i x).girt = s.girt := rfl
@[simp] theorem setIsland_islandResets (s : State) (i : Nat) (x : Island) : (s.setIsland i x).islandResets = s.islandResets := rfl
@[simp] theorem setIsland_bayResets (s : State) (i : Nat) (x : Island) : (s.setIsland i x).bayResets = s.bayResets := rfl
@[simp] theorem setIsland_bentMoves (s : State) (i : Nat) (x : Island) : (s.setIsland i x).bentMoves = s.bentMoves := rfl
@[simp] theorem setIsland_power (s : State) (i : Nat) (x : Island) : (s.setIsland i x).power = s.power := rfl
@[simp] theorem setIsland_gauge (s : State) (i : Nat) (x : Island) : (s.setIsland i x).gauge = s.gauge := rfl
@[simp] theorem setIsland_faults (s : State) (i : Nat) (x : Island) : (s.setIsland i x).faults = s.faults := rfl
@[simp] theorem setIsland_life (s : State) (i : Nat) (x : Island) : (s.setIsland i x).life = s.life := rfl
@[simp] theorem setIsland_pins (s : State) (i : Nat) (x : Island) : (s.setIsland i x).pins = s.pins := rfl
@[simp] theorem setIsland_pending (s : State) (i : Nat) (x : Island) : (s.setIsland i x).pending = s.pending := rfl

@[simp] theorem say_answer (s : State) (x : Answer) : (s.say x).answer = x := rfl
@[simp] theorem emit_out (s : State) (o : Output) : (s.emit o).out = s.out ++ [o] := rfl

/-! ## The end of a command -/

@[simp] theorem after_regs (s t : State) : (s.after t).regs = t.regs := rfl
@[simp] theorem after_sramErr (s t : State) : (s.after t).sramErr = t.sramErr := rfl
@[simp] theorem after_progErr (s t : State) : (s.after t).progErr = t.progErr := rfl
@[simp] theorem after_dramErr (s t : State) : (s.after t).dramErr = t.dramErr := rfl
@[simp] theorem after_free (s t : State) : (s.after t).free = t.free := rfl
@[simp] theorem after_out (s t : State) : (s.after t).out = t.out := rfl
@[simp] theorem after_answer (s t : State) : (s.after t).answer = t.answer := rfl
@[simp] theorem after_hub (s t : State) : (s.after t).hub = t.hub := rfl
@[simp] theorem after_msix (s t : State) : (s.after t).msix = t.msix := rfl
@[simp] theorem after_pba (s t : State) : (s.after t).pba = t.pba := rfl
@[simp] theorem after_bayPend (s t : State) : (s.after t).bayPend = t.bayPend := rfl
@[simp] theorem after_fns (s t : State) : (s.after t).fns = t.fns := rfl
@[simp] theorem after_hostReqs (s t : State) : (s.after t).hostReqs = t.hostReqs := rfl
@[simp] theorem after_ridge (s t : State) : (s.after t).ridge = t.ridge := rfl
@[simp] theorem after_truss (s t : State) : (s.after t).truss = t.truss := rfl
@[simp] theorem after_idleSince (s t : State) : (s.after t).idleSince = t.idleSince := rfl
@[simp] theorem after_readySince (s t : State) : (s.after t).readySince = t.readySince := rfl
@[simp] theorem after_cores (s t : State) : (s.after t).cores = t.cores := rfl
@[simp] theorem after_engines (s t : State) : (s.after t).engines = t.engines := rfl
@[simp] theorem after_air (s t : State) : (s.after t).air = t.air := rfl
@[simp] theorem after_tys (s t : State) : (s.after t).tys = t.tys := rfl
@[simp] theorem after_loft (s t : State) : (s.after t).loft = t.loft := rfl
@[simp] theorem after_dram (s t : State) : (s.after t).dram = t.dram := rfl
@[simp] theorem after_skid (s t : State) : (s.after t).skid = t.skid := rfl
@[simp] theorem after_lanes (s t : State) : (s.after t).lanes = t.lanes := rfl
@[simp] theorem after_girt (s t : State) : (s.after t).girt = t.girt := rfl
@[simp] theorem after_islands (s t : State) : (s.after t).islands = t.islands := rfl
@[simp] theorem after_islandResets (s t : State) : (s.after t).islandResets = t.islandResets := rfl
@[simp] theorem after_bayResets (s t : State) : (s.after t).bayResets = t.bayResets := rfl
@[simp] theorem after_bentMoves (s t : State) : (s.after t).bentMoves = t.bentMoves := rfl
@[simp] theorem after_power (s t : State) : (s.after t).power = t.power := rfl
@[simp] theorem after_gauge (s t : State) : (s.after t).gauge = t.gauge := rfl
@[simp] theorem after_faults (s t : State) : (s.after t).faults = t.faults := rfl
@[simp] theorem after_life (s t : State) : (s.after t).life = t.life := rfl
@[simp] theorem after_pins (s t : State) : (s.after t).pins = t.pins := rfl
@[simp] theorem after_wr (s t : State) : (s.after t).wr = [] := rfl
@[simp] theorem after_pending (s t : State) : (s.after t).pending = s.pending := rfl
@[simp] theorem after_reg (s t : State) (a : Nat) : (s.after t).reg a = t.reg a := rfl
@[simp] theorem after_fld (s t : State) (a hi lo : Nat) : (s.after t).fld a hi lo = t.fld a hi lo := rfl
@[simp] theorem after_flag (s t : State) (a i : Nat) : (s.after t).flag a i = t.flag a i := rfl
@[simp] theorem after_core (s t : State) (c : Nat) : (s.after t).core c = t.core c := rfl

/-! ## Registers through other updates -/

@[simp] theorem reg_say (s : State) (x : Answer) (r : Nat) : (s.say x).reg r = s.reg r := rfl
@[simp] theorem fld_say (s : State) (x : Answer) (r hi lo : Nat) : (s.say x).fld r hi lo = s.fld r hi lo := rfl
@[simp] theorem flag_say (s : State) (x : Answer) (r i0 : Nat) : (s.say x).flag r i0 = s.flag r i0 := rfl
@[simp] theorem reg_emit (s : State) (o : Output) (r : Nat) : (s.emit o).reg r = s.reg r := rfl
@[simp] theorem fld_emit (s : State) (o : Output) (r hi lo : Nat) : (s.emit o).fld r hi lo = s.fld r hi lo := rfl
@[simp] theorem flag_emit (s : State) (o : Output) (r i0 : Nat) : (s.emit o).flag r i0 = s.flag r i0 := rfl
@[simp] theorem reg_setCore (s : State) (c : Nat) (k : Core) (r : Nat) : (s.setCore c k).reg r = s.reg r := rfl
@[simp] theorem fld_setCore (s : State) (c : Nat) (k : Core) (r hi lo : Nat) : (s.setCore c k).fld r hi lo = s.fld r hi lo := rfl
@[simp] theorem flag_setCore (s : State) (c : Nat) (k : Core) (r i0 : Nat) : (s.setCore c k).flag r i0 = s.flag r i0 := rfl
@[simp] theorem reg_setIsland (s : State) (i : Nat) (x : Island) (r : Nat) : (s.setIsland i x).reg r = s.reg r := rfl
@[simp] theorem fld_setIsland (s : State) (i : Nat) (x : Island) (r hi lo : Nat) : (s.setIsland i x).fld r hi lo = s.fld r hi lo := rfl
@[simp] theorem flag_setIsland (s : State) (i : Nat) (x : Island) (r i0 : Nat) : (s.setIsland i x).flag r i0 = s.flag r i0 := rfl

/-! ## Cores -/

@[simp] theorem core_setCore (s : State) (c d : Nat) (k : Core) (h : c < 72) :
    (s.setCore c k).core d = if d = c then k else s.core d := by
  unfold State.core State.setCore
  by_cases e : d = c
  · subst e; simp [Vector.getD, h]
  · have h' : c ≠ d := fun x => e x.symm
    simp [e, Vector.getD, Array.getD_eq_getD_getElem?, Vector.setIfInBounds, Array.getElem?_setIfInBounds_ne h']

@[simp] theorem core_setReg (s : State) (a v : Nat) (d : Nat) : (s.setReg a v).core d = s.core d := rfl
@[simp] theorem core_setFld (s : State) (a hi lo v : Nat) (d : Nat) : (s.setFld a hi lo v).core d = s.core d := rfl
@[simp] theorem core_setFlag (s : State) (a i : Nat) (b : Bool) (d : Nat) : (s.setFlag a i b).core d = s.core d := rfl
@[simp] theorem core_bumpBy (s : State) (a n : Nat) (d : Nat) : (s.bumpBy a n).core d = s.core d := rfl
@[simp] theorem core_bump (s : State) (a : Nat) (d : Nat) : (s.bump a).core d = s.core d := rfl
@[simp] theorem core_setWide (s : State) (a v : Nat) (d : Nat) : (s.setWide a v).core d = s.core d := rfl
@[simp] theorem core_say (s : State) (x : Answer) (d : Nat) : (s.say x).core d = s.core d := rfl
@[simp] theorem core_emit (s : State) (o : Output) (d : Nat) : (s.emit o).core d = s.core d := rfl
@[simp] theorem core_setIsland (s : State) (i : Nat) (x : Island) (d : Nat) : (s.setIsland i x).core d = s.core d := rfl

end Sys2Proof.Machine
end

