-- ==== Sys2Proof/Laws/Exec.lean ====
section
/-! SUPPORT. What every command does: its meaning is a next state that ends as `State.after` says. -/

namespace Sys2Proof.Machine

/-- Every command takes effect, and ends with its stores made and the queue it found. -/
theorem exec_after (i : Instr) (s : State) : ∃ u : State, exec i s = .next (s.after u) := by
  cases i <;> exact ⟨_, rfl⟩

theorem after_wf {s : State} (u : State) (h : Memory.wf s.mem = true) : Memory.wf (s.after u).mem = true :=
  wf_stores u.wr h

end Sys2Proof.Machine
end

