-- ==== Sys2Proof/Laws/Memory.lean ====
section
/-! SUPPORT. When a write of memory is accepted: whole words of DRAM in one part, and with them the records of a mirror. -/

namespace Sys2Proof.Machine

theorem foldl_fst_true {α σ : Type} (f : Bool × σ → α → Bool × σ) (l : List α) (x : Bool × σ)
    (h : ∀ a ∈ l, ∀ r : Bool × σ, r.1 = true → (f r a).1 = true) (hx : x.1 = true) : (l.foldl f x).1 = true := by
  induction l generalizing x with
  | nil => exact hx
  | cons a l ih =>
    exact ih (f x a) (fun b hb => h b (List.mem_cons_of_mem _ hb)) (h a List.mem_cons_self x hx)

/-- A write of whole words of DRAM needs no merge read, so it is accepted (R307). -/
theorem State.dramWrite_whole (s : State) (bay o : Nat) (bs : List Byte) (ho : o % 8 = 0) (hn : bs.length % 8 = 0)
    (h0 : bs ≠ []) : (s.dramWrite bay o bs).1 = true := by
  have hl : 0 < bs.length := List.length_pos_iff.2 h0
  unfold State.dramWrite
  refine foldl_fst_true _ _ _ (fun w hw r hr => ?_) rfl
  obtain ⟨i, hi, rfl⟩ := List.mem_map.1 hw
  rw [List.mem_range] at hi
  have whole : min ((o / 8 + i) * 8 + 8) (o + bs.length) - max ((o / 8 + i) * 8) o = 8 := by omega
  simp only [whole, true_or, ↓reduceIte]
  exact hr

/-- A write that lies in one part is that part's. -/
theorem State.memWrite_one (s : State) (ag : Agent) (a : Nat) (bs : List Byte) (h : (s.spanRefused ag a bs.length).isNone)
    (hp : s.pieces a bs.length = [(a, bs.length)]) : s.memWrite ag a bs = s.partWrite ag a bs := by
  unfold State.memWrite
  rw [Option.isNone_iff_eq_none.1 h]
  simp [hp]

/-- A record that a mirror takes, as a test: in DRAM that answers, in one part. -/
def State.keepsAt (s : State) (m i : Nat) : Bool :=
  let a := s.wide (mirrorBase m) + 64 * i
  (s.spanRefused trussOwn a 64).isNone && decide (s.pieces a 64 = [(a, 64)]) &&
    match s.place .truss a 64 with
    | .dram o => decide (o % 8 = 0) && (s.accessRefused trussOwn (.dram o) 64 a).isNone
    | _ => false

theorem State.memWrite_of_keepsAt {s : State} {m i : Nat} (h : s.keepsAt m i = true) (bs : List Byte) (hl : bs.length = 64) :
    (s.memWrite trussOwn (s.wide (mirrorBase m) + 64 * i) bs).1 = true := by
  unfold State.keepsAt at h
  simp only [Bool.and_eq_true, decide_eq_true_eq] at h
  obtain ⟨⟨one, part⟩, dram⟩ := h
  have h0 : bs ≠ [] := by rintro rfl; cases hl
  rw [State.memWrite_one s _ _ bs (by rw [hl]; exact one) (by rw [hl]; exact part)]
  split at dram
  · rename_i o hp
    simp only [Bool.and_eq_true, decide_eq_true_eq] at dram
    have he : bs.isEmpty = false := by simpa using h0
    simp only [State.partWrite, he, hl, Bool.false_eq_true, ↓reduceIte]
    rw [show trussOwn.who = .truss from rfl, hp, Option.isNone_iff_eq_none.1 dram.2]
    exact State.dramWrite_whole s _ o bs dram.1 (by omega) h0
  · cases dram

theorem State.keeps_of {s : State} {idxs : List Nat} (m : Nat) (hm : m < 2) (hf : s.flag LDG_STAT m = true)
    (h : idxs.all (s.keepsAt m) = true) : s.Keeps idxs :=
  ⟨m, hm, hf, fun i hi bs hl => State.memWrite_of_keepsAt (List.all_eq_true.1 h i hi) bs hl⟩

end Sys2Proof.Machine
end

