-- ==== Sys2Proof/Laws/PageHub.lean ====
section
/-! SUPPORT. What a 32-bit write of the register window does once the hub takes it (R18 to R22, R27). -/

namespace Sys2Proof.Machine

theorem write32_accepted {s : State} {who : Requester} {a : Nat} {i : PageInfo} (v : BitVec 32) (h : s.Accepts who a v.toNat i) :
    s.write32 who a v = (s.say (takenAnswer who)).acceptOne (rules port1) who i a v.toNat false := by
  have hr := h.allowed
  unfold State.turnsDown at hr
  have hv : v.toNat % 0x100000000 = v.toNat := Nat.mod_eq_of_lt v.isLt
  have hup : ¬(a % 4096 ≥ 0x100 ∧ (!s.blockUp i (a / 4096)) = true) := by
    rcases h.up with h1 | h1
    · omega
    · simp [h1]
  have hfifo : ¬((!s.hub.held.isEmpty) = true ∨ s.hub.fifo.length + 4 / 4 > 64) := by
    have := h.room.1
    simp only [h.room.2, List.isEmpty_nil, Bool.not_true, Bool.false_eq_true, false_or]
    omega
  have hmay : ((s.say (takenAnswer who)).mayWrite who i a) = true := h.owner
  unfold State.write32 State.regWrite
  rw [h.gate]
  simp only [State.hubWrite, h.window, h.aligned, h.page, hup, hfifo, hv, if_false, ne_eq, not_true_eq_false, not_false_eq_true,
    false_and, or_self, Bool.not_true, Bool.false_eq_true, List.filter_cons, h.word, if_true, List.filter_nil,
    List.isEmpty_cons, List.any_cons, List.any_nil, hmay, Bool.or_false, Nat.reduceEqDiff, State.refusedWord,
    List.find?_cons, List.find?_nil, hr, rules, State.acceptLive]

/-! ## Offsets of a page -/

theorem page_of_offset (p off : Nat) (h : off < 4096) : (4096 * p + off) / 4096 = p := by omega

theorem offset_of_offset (p off : Nat) (h : off < 4096) : (4096 * p + off) % 4096 = off := by omega

/-- A word that no wide register of its page's kind holds. -/
theorem wideOf_none {p off : Nat} {i : PageInfo} (ho : off < 4096) (hp : pageInfo p = some i) (h20 : off ≠ 0x20 ∧ off ≠ 0x24)
    (hk : (wideRows i.kind).all (fun r => (List.range r.2.1).all fun j =>
      !(decide (r.1 ≤ off - 4 * j ∧ 4 * j ≤ off) && inDims (off - 4 * j - r.1) r.2.2)) = true) :
    wideOf (4096 * p + off) = none := by
  unfold wideOf
  rw [page_of_offset p off ho, hp]
  simp only [offset_of_offset p off ho, h20.1, h20.2, or_self, if_false]
  rw [List.findSome?_eq_none_iff]
  intro r hr
  rw [List.findSome?_eq_none_iff]
  intro j hj
  have := List.all_eq_true.mp (List.all_eq_true.mp hk r hr) j hj
  rw [if_neg]
  rintro ⟨h1, h2, h3⟩
  simp [h1, h2, h3] at this

theorem wideRows_block (k : PageKind) : ∀ r ∈ wideRows k, 0x100 ≤ r.1 := by cases k <;> decide

/-- No wide register of any kind lies in the header but PG_ERR_CAPT[1..2]. -/
theorem wideOf_header {p off : Nat} {i : PageInfo} (hp : pageInfo p = some i) (ho : off < 0x100) (h20 : off ≠ 0x20 ∧ off ≠ 0x24) :
    wideOf (4096 * p + off) = none := by
  apply wideOf_none (by omega) hp h20
  rw [List.all_eq_true]
  intro r hr
  rw [List.all_eq_true]
  intro j _
  have h : 0x100 ≤ r.1 := wideRows_block i.kind r hr
  simp only [Bool.not_eq_true', Bool.and_eq_false_iff, decide_eq_false_iff_not]
  left
  omega

/-- A header word is refused by no chapter, the firmware's pages of the DRC (R316) apart. -/
theorem refuse_header {who : Requester} {p off v : Nat} (ho : off < 0x100) (h28 : off ≠ 0x28)
    (hd : ¬(0x1C2 ≤ p ∧ p < 0x1C4) ∨ isPlate who = true) (s t : State) :
    regRefuse who (4096 * p + off) v s t = false := by
  unfold regRefuse
  simp only [page_of_offset p off (by omega), offset_of_offset p off (by omega), h28, ho, if_true, if_false]
  split
  · rfl
  · rcases hd with hd | hd <;> simp [hd]

/-- The value that a header word but PG_STAT holds: PG_IRQ_FORCE shows PG_IRQ_RAW. -/
theorem held_header {p off : Nat} {i : PageInfo} (s : State) (hp : pageInfo p = some i) (ho : off < 0x100) (hc : off ≠ 0x0C) :
    heldWord (4096 * p + off) s = (s.reg (4096 * p + if off = 0x18 then 0x10 else off), s) := by
  unfold heldWord State.wordNow
  simp only [page_of_offset p off (by omega), offset_of_offset p off (by omega), hp, hc, ho, if_true, if_false]
  by_cases h : off = 0x18
  · simp only [h, if_true, Nat.mul_comm p]
  · simp only [h, if_false]

theorem key_header (s : State) (p off : Nat) (ho : off < 0x100) : s.key (4096 * p + off) = 4096 * p + off := by
  unfold State.key
  have e1 := page_of_offset p off (by omega)
  have e2 := offset_of_offset p off (by omega)
  simp only [e1, e2]
  have h1 : ¬(0x28 ≤ p ∧ p < 0x30 ∧ 0x104 ≤ off ∧ off < 0x130) := by omega
  have h2 : ¬(0x340 ≤ p ∧ p < 0x344 ∧ (off = 0x110 ∨ off = 0x114)) := by omega
  have h3 : ¬(p = 3 ∧ 0x114 ≤ off ∧ off < 0x120) := by omega
  have h4 : ¬(4096 * p + off = PWR_ISL_REQ ∨ 4096 * p + off = PWR_ISL_STAT) := by simp only [PWR_ISL_REQ, PWR_ISL_STAT]; omega
  have h5 : ¬(0x3A1 ≤ p ∧ p < 0x3A9 ∧ 0x104 ≤ off ∧ off < 0x118) := by omega
  have h6 : ¬(4096 * p + off = TYS_STR_CNT) := by simp only [TYS_STR_CNT]; omega
  have h7 : ¬(4096 * p + off = PWR_CAR_REQ ∨ 4096 * p + off = PWR_CAR_SLOT ∨ 4096 * p + off = PWR_CAR_STAT) := by
    simp only [PWR_CAR_REQ, PWR_CAR_SLOT, PWR_CAR_STAT]; omega
  have h8 : ¬(4096 * p + off = GRT_GCL_DATA) := by simp only [GRT_GCL_DATA]; omega
  simp only [h1, h2, h3, h4, h5, h6, h7, h8, if_false]

theorem effect_header {port : WinPort} {who : Requester} {p off v : Nat} (ho : off < 0x100) (h28 : off ≠ 0x28) (s t : State) :
    regEffect port who (4096 * p + off) v s t = t := by
  unfold regEffect
  simp only [page_of_offset p off (by omega), offset_of_offset p off (by omega), h28, ho, if_true, if_false]
  split <;> rfl

/-! ## An accepted word -/

/-- An entry given while the staging FIFO has room touches nothing but the hub. -/
theorem scribe_room {s : State} (h : s.hub.fifo.length < 64) (bay flags req page off new old : Nat) :
    ∃ hub, s.scribe bay flags req page off new old = { s with hub := hub } ∧ hub.fifo.length = s.hub.fifo.length + 1 := by
  unfold State.scribe
  rw [if_neg (by omega)]
  exact ⟨_, rfl, by simp⟩

/-- The record of an accepted word touches no register but PG_SEQ, and beside it the hub alone. -/
theorem logAccepted_spec {s : State} (who : Requester) (i : PageInfo) (a v : Nat) (pair : Bool)
    (hh : (heldWord a s).2 = s) (hr : s.hub.fifo.length < 64) :
    let t := s.logAccepted (rules port1) who i a v pair
    (∀ b, b ≠ hdr (a / 4096) 0x2C → t.reg b = s.reg b) ∧ t.mem = s.mem ∧ t.wr = s.wr ∧ t.cores = s.cores := by
  simp only [State.logAccepted, rules]
  split
  · rw [show heldWord a s = ((heldWord a s).1, s) from Prod.ext rfl hh]
    obtain ⟨hub, e, -⟩ := scribe_room hr (s.entryBay who) (s.entryFlags who i a v pair) (reqId who) (a / 4096) (a % 4096) v
      (heldWord a s).1
    rw [e]
    exact ⟨fun b hb => (reg_setReg _ _ _ _).trans (if_neg hb), rfl, rfl, rfl⟩
  · exact ⟨fun _ _ => rfl, rfl, rfl, rfl⟩

/-- A header word but PG_ERR_CAPT[1..2] and PG_OWNER, written: recorded, stored by its fields, and its effect made. -/
theorem header_write {s : State} {r : Requester} {p off : Nat} {i : PageInfo} (v : BitVec 32) (ho : off < 0x100)
    (h2 : off ≠ 0x20 ∧ off ≠ 0x24 ∧ off ≠ 0x28) (h : s.Accepts r (4096 * p + off) v.toNat i) :
    let t := (s.say (takenAnswer r)).logAccepted (rules port1) r i (4096 * p + off) v.toNat false
    s.write32 r (4096 * p + off) v =
      (t.storeWord (t.locked p) (4096 * p + off) v.toNat).headerEffect r i (4096 * p + off) v.toNat := by
  have e1 := page_of_offset p off (by omega)
  have e2 := offset_of_offset p off (by omega)
  have hp : pageInfo p = some i := by have := h.page; rwa [e1] at this
  have hw := wideOf_header hp ho ⟨h2.1, h2.2.1⟩
  rw [write32_accepted v h]
  simp only [State.acceptOne, State.recordOne, State.applyOne, hw, State.applyWord, rules, e1, e2, ho, if_true, List.foldl_nil]
  exact effect_header ho h2.2.2 _ _

end Sys2Proof.Machine
end

