-- ==== Sys2Proof/WellFormed.lean ====
section
/-! DEFINITION. Which commands are well formed: the operand ranges that the constructors' types leave open. -/

namespace Sys2Proof

/-- A beat of the memory ports is 1 to 64 bytes (02, 11). -/
def beatLen (len : BitVec 7) : Bool := decide (1 ≤ len.toNat ∧ len.toNat ≤ 64)

/-- A section names PRBs of the grid's 10-bit numbering (R371). -/
def rxFrameOk (f : RxFrame) : Bool := f.sections.all fun x => decide (x.firstPrb.toNat + x.numPrb.toNat ≤ 1023)

/-- The operands lie in the ranges their rows state. -/
def Instr.wellFormed : Instr → Bool
  | .dramRequest _ _ len _ _ => beatLen len
  | .hostBar2Access _ _ _ len _ _ => beatLen len
  | .hostBar4Access _ _ _ len _ _ => beatLen len
  | .hostWindowRequest _ _ len _ _ => beatLen len
  | .frameReceived _ f => rxFrameOk f
  | .tysNrsDetect _ _ nId2 _ _ => decide (nId2.toNat ≤ 2)
  | .shli _ _ f => f.imm.extractLsb' 6 2 == 0
  | .shri _ _ f => f.imm.extractLsb' 6 2 == 1
  | .sari _ _ f => f.imm.extractLsb' 6 2 == 2
  | .avsAdjust lowestMv => decide (1 ≤ lowestMv.toNat)
  | _ => true

end Sys2Proof
end

