-- ==== Sys2Proof/Tests/Slice0.lean ====
section
/-! SUPPORT. Tests of the model, each named: the WellFormed smoke, steps whose results the spec gives, and for every statement
a state and operands that meet the hypotheses of its clauses (a state is reset's with a few registers or fields set). -/

namespace Sys2Proof.Tests

open Sys2Proof.Machine

/-! ## Helpers -/

/-- Reset's state with register words set. -/
abbrev regs (l : List (Nat × Nat)) : State := { State.reset with regs := l.map fun e => (e.1, BitVec.ofNat 32 e.2) }

abbrev P : Requester := .plate 0

/-- What a command's meaning answers. -/
def next : Host.Outcome State Fault Refusal → State
  | .next t => t
  | _ => State.reset

/-- `State.Accepts` as a test. -/
def takes (s : State) (who : Requester) (a v : Nat) : Bool :=
  match pageInfo (a / 4096) with
  | none => false
  | some i => decide ((s.gateOf who (a / 4096) = .open ∧ onWindow who = true ∧ a % 4 = 0) ∧
      ((a % 4096 < 0x100 ∨ s.blockUp i (a / 4096) = true) ∧ s.hub.fifo.length < 64 ∧ s.hub.held = []) ∧
      (s.mayWrite who i a = true ∧ (fieldsAt a).isSome = true) ∧ s.turnsDown who a v = false)

theorem accepts_of_takes {s : State} {who : Requester} {a v : Nat} (h : takes s who a v = true) : ∃ i, s.Accepts who a v i := by
  unfold takes at h
  split at h
  · cases h
  · rename_i i hp
    have ⟨reach, ⟨up, room⟩, may, ok⟩ := of_decide_eq_true h
    exact ⟨i, ⟨reach.1, reach.2.1, reach.2.2, hp, up, room, may.1, may.2⟩, ok⟩

/-- `State.Reads` as a test. -/
def reads (s : State) (who : Requester) (a : Nat) : Bool :=
  match pageInfo (a / 4096) with
  | none => false
  | some i => decide ((s.gateOf who (a / 4096) = .open ∧ onWindow who = true ∧ a % 4 = 0) ∧
      (a % 4096 < 0x100 ∨ s.blockUp i (a / 4096) = true) ∧ s.readsFull who i a = true)

theorem reads_of {s : State} {who : Requester} {a : Nat} (h : reads s who a = true) : ∃ i, s.Reads who a i := by
  unfold reads at h
  split at h
  · cases h
  · rename_i i hp
    have ⟨reach, up, full⟩ := of_decide_eq_true h
    exact ⟨i, reach.1, reach.2.1, reach.2.2, hp, up, full⟩

/-- Every one of a list of writes is accepted. -/
def takesAll (s : State) (l : List (Nat × Nat)) : Bool := l.all fun e => takes s P e.1 e.2

/-! ## WellFormed -/

theorem test_wf_dram_short : Instr.wellFormed (.dramRequest .truss 0 0 false 0) = false := by decide
theorem test_wf_dram_long : Instr.wellFormed (.dramRequest .truss 0 65 false 0) = false := by decide
theorem test_wf_dram_ok : Instr.wellFormed (.dramRequest .truss 0 64 false 0) = true := by decide
theorem test_wf_bar2 : Instr.wellFormed (.hostBar2Access 0 0 0 0 false 0) = false := by decide
theorem test_wf_bar4 : Instr.wellFormed (.hostBar4Access 0 0 0 65 false 0) = false := by decide
theorem test_wf_host_window : Instr.wellFormed (.hostWindowRequest (.engine 0) 0 0 false 0) = false := by decide
theorem test_wf_section :
    Instr.wellFormed (.frameReceived 0 ⟨true, true, true, true, 0, 0, 0, 0, false, false, [⟨0, 0, 0, 0, 1000, 24, 0, 16, []⟩], []⟩) = false := by
  decide
theorem test_wf_nrs : Instr.wellFormed (.tysNrsDetect 0 0 3 ⟨0, 0, 0, 0, 0, 0, 0, 0, 0⟩ 0) = false := by decide
theorem test_wf_shli : Instr.wellFormed (.shli 0 true ⟨0, 0, false, 0x040⟩) = false := by decide
theorem test_wf_shri : Instr.wellFormed (.shri 0 true ⟨0, 0, false, 0x000⟩) = false := by decide
theorem test_wf_sari : Instr.wellFormed (.sari 0 true ⟨0, 0, false, 0x0C0⟩) = false := by decide
theorem test_wf_avs : Instr.wellFormed (.avsAdjust 0) = false := by decide

/-! ## The step -/

/-- A state with a byte listed and a command waiting that meets the invariant. -/
theorem witness_EveryStepKeepsTheInvariant :
    State.Inv { State.reset with mem := [⟨loftBase, 5⟩], pending := [.slewComplete] } := ⟨by decide +kernel, rfl⟩

theorem witness_StepRunsFrontCommand : State.reset.pending = [] ∧ State.reset.wr = [] ∧ State.reset.power.retCheck = none ∧ State.reset.ridge.slew = 0 ∧
    State.reset.now + ((nsUnit : Int) + State.reset.rate) < 2 ^ 48 * 1000000000 * (nsUnit : Int) := by decide +kernel

/-! ## Register pages and the Scribe (02) -/

/-- A write of PG_IRQ_EN stores it and is recorded (R26, R33). -/
theorem test_irq_en : (next (execIrqEnWrite P 0x380 9 State.reset)).reg (hdr 0x380 0x14) = 9 ∧
    (next (execIrqEnWrite P 0x380 9 State.reset)).hub.fifo.length = 1 := by decide +kernel

theorem witness_HeaderWritesTakeEffect :
    takesAll State.reset [(hdr 0x380 0x14, 0), (hdr 0x380 0x14, 0xFFFFFFFF), (hdr 0x380 0x18, 1), (hdr 0x380 0x10, 1),
      (hdr 0x380 0x1C, 0xC0000000), (hdr 0x380 0x08, (State.reset.ctrlWith 0x380 31).toNat),
      (hdr 0x380 0x08, (State.reset.ctrlWith 0x380 1).toNat), (hdr 0x40 0x28, 0x7F0003), (hdr 0x380 0x28, 0x10000)] = true ∧
    (pageInfo 0x40).map (fun i => (i.ownable, movesLater i)) = some (true, false) ∧
    (pageInfo 0x380).map (fun i => i.ownable) = some false ∧
    takes (regs [(hdr 0x40 0x28, 3)]) (.core 0) (hdr 0x40 0x28) 0x120003 = true ∧
    (regs [(hdr 0x40 0x28, 3)]).bayOf (.core 0) = 3 := by decide +kernel

theorem witness_OwnerChangeMovesLater : (pageInfo 0x28).map (fun i => (i.ownable, movesLater i)) = some (true, true) ∧
    takesAll State.reset [(hdr 0x28 0x28, 2), (hdr 0x28 0x28, 0)] = true ∧ State.reset.owner 0x28 = 0 := by decide +kernel

theorem witness_RegisterWritesStoreAndAreRecorded :
    takesAll State.reset [(GLB_SCRATCH 0, 0xFFFFFFFF), (GLB_SCRATCH 7, 0), (BAY_HWIN_LO 0 0, 0x1000), (BAY_HWIN_LO 7 3, 0x1000),
      (BAY_HWIN_LO 0 0 + 4, 5)] = true ∧
    wideOf (BAY_HWIN_LO 0 0 + 4) = some (BAY_HWIN_LO 0 0, 2) ∧ (pageInfo 0x380).isSome = true ∧
    (pageInfo 0x180).map (fun i => i.kind) = some PageKind.lft := by decide +kernel

/-- Plain registers, of one word and of two, which their chapters only store; a full FIFO, and an address without a register. -/
theorem witness_PlainWritesAreStored :
    (0x100 ≤ LFT_RET_EN0 % 4096 ∧ wideOf (LFT_RET_EN0 + 8) = none ∧ (pageInfo 0x180).map (fun i => decide (i.kind ∈ plainKinds)) = some true) ∧
    quietWrite P (GLB_SCRATCH 1) 7 ∧ takes State.reset P (GLB_SCRATCH 1) 7 = true ∧ wideOf (GLB_SCRATCH 1) = none ∧
    quietWrite P LDG_M0_LO 0 ∧ takes State.reset P LDG_M0_LO 0 = true ∧ wideOf LDG_M0_LO = some (LDG_M0_LO, 2) ∧
    State.reset.gateOf P 0x380 = .open ∧ (fieldsAt 0x380F00).isNone = true ∧ (fieldsAt 0x380F04).isNone = true ∧
    ({ Hub.cold with fifo := List.replicate 64 ⟨1, 0, 0, 0, 0, 0, 0, 0, 0, 0⟩ } : Hub).fifo.length + 4 / 4 > 64 :=
  ⟨by decide +kernel, fun _ _ => rfl, by decide +kernel, by decide +kernel, fun _ _ => rfl, by decide +kernel, by decide +kernel,
    by decide +kernel, by decide +kernel, by decide +kernel, by decide +kernel⟩

/-- A core of Bay 3 may not write the Gauge's page. -/
theorem witness_RefusedWriteIsRecordedAndChangesNothing :
    let s := regs [(hdr 0x40 0x28, 3)]
    s.gateOf (.core 0) 0x380 = .open ∧ onWindow (.core 0) = true ∧ s.hub.fifo.length < 64 ∧ s.hub.held = [] ∧ (fieldsAt GAU_CTL).isSome = true ∧
    ((pageInfo 0x380).map fun i => (s.blockUp i 0x380, s.mayWrite (.core 0) i GAU_CTL)) = some (true, false) := by decide +kernel

theorem witness_ReadsAnswerClearAndLatch :
    reads State.reset P (BNT_TAKE_CNT 0) = true ∧ reads State.reset P (BNT_TAKE_CNT 7) = true ∧
    reads State.reset (.core 0) (BNT_TAKE_CNT 7) = true ∧ reads State.reset P (BAY_HWIN_LO 7 3) = true ∧
    wideOf (BAY_HWIN_LO 7 3) = some (BAY_HWIN_LO 7 3, 2) ∧ fieldsAt (BNT_TAKE_CNT 0) = some [⟨31, 0, .rc, 0, .to 0, .any⟩] ∧
    (pageInfo 0x40).map (fun i => decide (i.kind ∈ plainKinds)) = some true := by decide +kernel

def scribed : State := next (execIrqEnWrite P 0x380 9 State.reset)

theorem witness_ScribeMovesAndReturnsEntries :
    scribed.hub.fifo ≠ [] ∧ scribed.hub.held = [] ∧ takes State.reset P (SCB_RD_SEQ_LO 0) 1 = true ∧
    takes State.reset P (SCB_RD_SEQ_LO 7) 1 = true ∧
    (next (execScribeFetch P 0 1 scribed)).hub.fetch.find? (fun f => f.1 == 0) = some (0, 1) ∧
    ({ Ridge.cold with fwRuns := true } : Ridge).fwRuns = true := by decide +kernel

/-! ## The Ridge (03) -/

abbrev ridge (l : List (Nat × Nat)) (f : Ridge → Ridge) : State :=
  { State.reset with regs := l.map fun e => (e.1, BitVec.ofNat 32 e.2), ridge := f Ridge.cold }

theorem witness_CorrectionsStepSlewOrAreRefused :
    takes State.reset P RDG_ADJ_NS 100 = true ∧ (State.reset.stepArmed = true ∨ State.reset.stepArmed = false) ∧
    (next (execRelock P 1 State.reset)).stepArmed = true ∧ takes (next (execRelock P 1 State.reset)) P RDG_ADJ_NS 100 = true ∧
    (let s := regs [(RDG_STEP_LIMIT, 100)]
     let t := { s with ridge := { Ridge.cold with slew := 50 * (nsUnit : Int) } }
     (adjValue 50 0 0 0 + t.ridge.slew ≤ t.stepLimit) ∧ ¬(adjValue 51 0 0 0 + t.ridge.slew ≤ t.stepLimit)) ∧
    1 ≤ State.reset.fld RDG_SLEW_MAX 13 0 ∧ takes State.reset P RDG_SERVO_CTL 0x80000001 = true ∧
    takes State.reset P RDG_RATE_LO 7 = true := by decide +kernel

theorem witness_ServoMovesAsListed :
    (let s := ridge [(RDG_PORT_CAL_RX 1, 0x80000000)] fun r => { r with fwRuns := true, goodRuns := 15, phaseSource := some (.ptpPort 0) }
     let t := s.setFld RDG_SERVO_STAT 1 0 1
     let u := s.setFld RDG_SERVO_STAT 2 0 2
     s.phaseReady = true ∧ s.phaseGiven (.ptpPort 1) = false ∧ State.reset.phaseReady = false ∧ s.manual = false ∧ s.servo = 0 ∧ t.manual = false ∧ t.servo = 1 ∧ calm 0 = true ∧ calm (BitVec.ofNat 40 (2 ^ 39)).toInt = false ∧
     15 ≤ t.ridge.goodRuns ∧ u.servo = 2 ∧ u.manual = false ∧ u.stepArmed = false ∧ u.ridge.slew + adjValue 0 0 0 0 ≤ u.stepLimit ∧
     -(u.ridge.slew + adjValue 0 0 0 0) ≤ u.stepLimit ∧ ¬(u.ridge.slew + adjValue 0 0 2 0 ≤ u.stepLimit) ∧
     (s.setFld RDG_SERVO_STAT 1 0 3).servo = 3) := by decide +kernel

theorem witness_SourcesAndStampsAreKept :
    (let st : Stamp := ⟨0, 5, 0, 0, 9⟩
     let s := ridge [(RDG_CAP_CTL 0, 1), (RDG_CAP_CTL 3, 2)] fun r => { r with
       src := r.src.setIfInBounds 4 ⟨true, true, false, 0⟩, txs := r.txs.setIfInBounds 0 [st], cap := r.cap.setIfInBounds 3 (List.replicate 8 st) }
     (s.source 4).lost = true ∧ (regs [(TYS_FREQ_SEL, 0x10000)]).flag TYS_FREQ_SEL 16 = true ∧ sgn 32 (s.reg (RDG_SRC_FOFF 3)) = 0 ∧ reads s P RDG_TXS_NS = true ∧ s.ridge.txs.getD (s.fld RDG_TXS_SEL 5 0) [] = [st] ∧
     reads s P (RDG_CAP_NS 3) = true ∧ s.ridge.cap.getD 3 [] = List.replicate 8 st ∧ s.ridge.cap.getD 0 [] = [] ∧
     (s.fld (RDG_CAP_CTL 0) 1 0, s.fld (RDG_CAP_CTL 3) 1 0, s.fld (RDG_CAP_CTL 1) 1 0) = (1, 2, 0) ∧
     reads State.reset P RDG_TXS_NS = true ∧ State.reset.ridge.txs.getD 0 [] = []) := by decide +kernel

theorem witness_PulsesAndTimeOfDayAgree :
    (let s := ridge [(RDG_PPSO_CTL 0, 0xA0001), (RDG_PPSO_CTL 1, 0xA0003), (RDG_PPSI_CTL 0, 1), (RDG_PPSI_CTL 1, 1), (RDG_TOD_CTL, 0x12)]
       fun r => { r with todLabel := r.todLabel.setIfInBounds 0 (some 77) }
     s.flag (RDG_PPSO_CTL 0) 0 = true ∧ s.flag (RDG_PPSO_CTL 0) 2 = false ∧ s.flag (RDG_PPSO_CTL 0) 1 = false ∧
     s.flag (RDG_PPSO_CTL 1) 1 = true ∧ s.servo < 2 ∧ s.ridge.todLabel.getD 0 none = some 77 ∧ s.ridge.todLabel.getD 1 none = none ∧
     s.flag (RDG_PPSI_CTL 1) 0 = true ∧ s.flag (RDG_PPSI_CTL 1) 1 = false ∧ s.fld RDG_TOD_CTL 1 0 = 2 ∧ s.flag RDG_TOD_CTL 4 = true) := by
  decide +kernel

theorem witness_CarriersAndTimersFollowTheGrid :
    takes State.reset P (RDG_CAR_CFG 0) 0x80000001 = true ∧ State.reset.carOn 0 = false ∧ tget? State.reset.ridge.cars 0 = none ∧
    (gridShape 1 0 0).isSome = true ∧ (gridShape 7 0 0).isSome = false ∧ takes State.reset P (RDG_CAR_CFG 255) 7 = true ∧
    (let s := ridge [(RDG_CAR_CFG 0, 0x80000001), (evtCtl 0, 1), (evtCtl 1, 2), (evtCtl 2, 3)] fun r => { r with
       cars := [(0, ⟨true, 4⟩)], timers := r.timers.map fun _ => ⟨true, 100, 0⟩ }
     takes s P (RDG_CAR_CFG 0) 0x82000001 = true ∧ s.carOn 0 = true ∧ tget? s.ridge.cars 0 = some ⟨true, 4⟩ ∧
     (s.timer 31).armed = true ∧ s.timerMode 0 = 1 ∧ s.timerMode 1 = 2 ∧ s.timerMode 2 = 3 ∧ s.carOn (s.timerCar 2) = true ∧
     s.carStarted (s.timerCar 2) = true ∧ s.badCar 2 = false ∧
     (nextGrid (s.shape (s.timerCar 2)) (s.fld (evtCtl 2) 19 16) (s.timer 2).last).isSome = true ∧
     takes s P (evtCtl 31) 2 = true ∧ takes s P (evtCtl 0) 0x50000001 = true ∧ s.now ≤ (s.timerTime 0 : Int) * nsUnit ∧
     (ridge [] fun r => { r with ns := 5 }).now > ((ridge [] fun r => { r with ns := 5 }).timerTime 0 : Int) * nsUnit) := by decide +kernel

/-! ## The Truss and the Ledger (04) -/

abbrev task0 : Task := ⟨0, .ready, 0, 0, 0, 1, 0, 0, 0, 0, 0, 0, false, 0, 0, 0, 0, 0, [], 0, [], []⟩

abbrev frame0 (st : FrameState) (ts : List Task) : Frame := ⟨0, 0, 0, 0, .ring 0, st, false, 0, 0, 0, 0, true, ts⟩

/-- Mirror 0 of the Ledger lies at the start of DRAM. -/
abbrev mirror0 : List (Nat × Nat) := [(LDG_M0_LO, 0), (LDG_M0_LO + 4, 0x100)]

theorem keeps {s : State} {l : List Nat} (h : (s.flag LDG_STAT 0 && l.all (s.keepsAt 0)) = true) : s.Keeps l := by
  rw [Bool.and_eq_true] at h
  exact State.keeps_of 0 (by decide) h.1 h.2

/-- The record of task 0 of a Frame, as mirror 0 holds it. -/
def recordBytes (f : Frame) (t : Task) : List Byte := ((recordWords f 0 t (recCode t.st)).map (toBytes 8)).flatten

/-- Reset's state with one live Frame, admission and dispatch on. -/
abbrev work (l : List (Nat × Nat)) (f : Frame) : State :=
  { State.reset with
    regs := l.map fun e => (e.1, BitVec.ofNat 32 e.2)
    truss := { Truss.cold with frames := [f], admits := true, dispatch := true } }

theorem witness_TrussRegistersTakeEffect :
    takesAll State.reset [(TRS_DB 0, 16), (TRS_DB 1023, 17), (TRS_Q_CFG 0, 0x83410003), (TRS_Q_CFG 0, 0x9000000F),
      (TRS_CR_CONS 7 15, 5), (TRS_CR_CTL 7 15, 0x80000003), (LDG_REGION 0, 0x10010), (LDG_RD_IDX, 0)] = true ∧
    State.reset.flag TRS_STAT 0 = false ∧ State.reset.qOn 0 = false ∧ State.reset.recordState 0 = 0 ∧
    sub32 16 (State.reset.q 0).fetch ≤ sub32 (add32 (State.reset.q 0).completed (State.reset.ringSize 0)) (State.reset.q 0).fetch ∧
    ¬sub32 17 (State.reset.q 1023).fetch ≤
      sub32 (add32 (State.reset.q 1023).completed (State.reset.ringSize 1023)) (State.reset.q 1023).fetch ∧
    takes (regs [(TRS_STAT, 1)]) P (TRS_DB 0) 16 = true ∧ (regs [(TRS_STAT, 1)]).flag TRS_STAT 0 = true ∧
    takes (regs [(qCfg 0, 0x80000000)]) P (TRS_Q_CFG 0) 0 = true ∧ (regs [(qCfg 0, 0x80000000)]).qOn 0 = true ∧
    State.reset.ringQueues 7 15 = [] ∧ State.reset.truss.moves = [] ∧ (State.reset.q 0).room = 0 ∧ (State.reset.q 0).delay = 0 ∧
    (let s := regs [(DRC_WIN 0, 0x80000080), (DRC_WIN_SIZE 0, 64), (qCblk 0, 0x80020000), (qCblk 0 + 4, 0x100)]
     takes s P (TRS_Q_CFG 0) 0xC3410003 = true ∧
     (match s.memRead (trussFor (s.qBay 0)) (s.cblk 0) 16 with | (.ok bs, _) => decide (bs = List.replicate 16 0) | _ => false) = true) := by
  decide +kernel

/-- A queue of Bay 0 with its rings and task table in a DRAM window, one Frame descriptor at the head of its ring. -/
def ringState (word2 : Nat) : State :=
  { regs [(DRC_WIN 0, 0x80000080), (DRC_WIN_SIZE 0, 64), (LDG_REGION 0, 0x10010), (qSring 0, 0x80010004), (qSring 0 + 4, 0x100),
      (qCblk 0, 0x80020000), (qCblk 0 + 4, 0x100), (qCfg 0, 0x83410003), (TRS_DB 0, 1), (RDG_CAR_CFG 0, 0x80000001),
      (TRS_CR_LO 0 0, 0x80030004), (TRS_CR_LO 0 0 + 4, 0x100), (TRS_CR_CBLK_LO 0 0, 0x80040000), (TRS_CR_CBLK_LO 0 0 + 4, 0x100),
      (LDG_M0_LO, 0), (LDG_M0_LO + 4, 0x100),
      (TRS_CR_CTL 0 0, 0x80000003)] with
    mem := [⟨0x010080010008, 77⟩] ++ (if word2 = 0 then [] else [⟨0x010080010015, BitVec.ofNat 8 word2⟩])
    truss := { Truss.cold with admits := true, dispatch := true } }

/-- The same queue, its Frame of one task, which passes every check. -/
def goodRing : State :=
  { ringState 0 with
    mem := memPutAll (memPutAll [] 0x010080010000 (toBytes 8 0x010080050000 ++ toBytes 8 77 ++ toBytes 8 3725521808))
      0x010080050000 (toBytes 64 0) }

/-- What the fetch of the head of its ring finds: the code of the check; the Frame's number of tasks; why there is no room. -/
def fetched (s : State) : Option (Nat × Nat × Nat) :=
  let turned : State := { s with truss := { s.truss with rotation := tput s.truss.rotation (s.qClass 0) 0 } }
  match turned.memRead (trussFor 0) (s.ringBase 0 + 64 * ((s.q 0).fetch % s.ringSize 0)) 64 with
  | (.ok bs, s1) => let r := s1.checkFrame 0 0 ((List.range 8).map (wordAt bs)); some (r.1, r.2.1.length, r.2.2.noRoom 0 r.2.1)
  | _ => none

/-- One Frame of one task, refused (a reserved bit) and admitted, and held back where its only record is taken; on-chip
submissions refused by their queue, unread, refused by their check, and held back. -/
theorem witness_FramesAreCheckedAndAdmitted :
    (let s := ringState 1
     s.admitting 0 = true ∧ s.qOnchip 0 = false ∧ s.truss.onChip = [] ∧ s.ringTurn 0 = true ∧ (s.q 0).voids = [] ∧
     0 < sub32 (s.reg (TRS_DB 0)) (s.q 0).fetch ∧ sub32 (s.reg (TRS_DB 0)) (s.q 0).fetch < 2 ^ 31 ∧ (fetched s).map Prod.fst = some 1) ∧
    (let s := goodRing
     fetched s = some (0, 1, 0) ∧ (s.flag LDG_STAT 0 && [(s.region 0).1].all (s.keepsAt 0)) = true ∧ (s.region 0).1 = 0x100000 ∧
     s.truss.alloc.getD 0 0 = 0) ∧
    (let s := { goodRing with truss := { Truss.cold with admits := true, frames := [frame0 .running [{ task0 with idx := 0x100000 }]] } }
     s.admitting 0 = true ∧ s.ringTurn 0 = true ∧ fetched s = some (0, 1, 1)) ∧
    (let e : OnChip := ⟨.core 0, 0, 0, [0, 0, 0, 0, 1, 0, 0, 0], false, none⟩
     let s (l : List (Nat × Nat)) (e : OnChip) : State :=
       { regs l with truss := { Truss.cold with admits := true, onChip := [e] } }
     let on := [(qCfg 0, 0xA0000000)]
     (s [] e).qOn 0 = false ∧ (s on e).qOn 0 = true ∧ (s on e).qOnchip 0 = true ∧ (s on e).qBay 0 = e.bay ∧
     ((s on e).truss.onChip.find? fun x => x.queue == 0 && !x.taken) = some e ∧ (s on { e with desc := [] }).qBay 0 = 0 ∧
     (s on e).admitting 0 = true ∧ ((s on e).checkFrame 0 0 e.desc).1 = 1) := by decide +kernel

theorem witness_FramesAreAccepted :
    let f := { frame0 .opened [{ task0 with st := .admitted }] with durable := true }
    let s := { ringState 0 with truss := { Truss.cold with frames := [f] } }
    (s.truss.frames.find? fun f => f.queue == 0 && f.st == .opened && f.durable) = some f ∧ s.frame? f.id = some f ∧
    (∀ t ∈ f.tasks, t.st = .admitted) ∧ s.Keeps f.records ∧ s.reached 0 3725521900 0 0 = false ∧ s.reached 0 3725521700 0 0 = true ∧
    (s.memWrite (trussFor (s.qBay 0)) (s.ringBase 0 + 56) (toBytes 8 (frameWord false 0 f.id s.epoch))).1 = true ∧
    dramBase ≤ s.ringBase 0 ∧ s.ringBase 0 < hostBase ∧
    (let g := { f with feed := .core 0, tasks := [{ task0 with st := .admitted, dlSlot := 3725521900 }] }
     let e : OnChip := ⟨.core 0, 0, 0, [], true, none⟩
     let u := { ringState 0 with truss := { Truss.cold with frames := [g], onChip := [e] } }
     (u.truss.frames.find? fun f => f.queue == 0 && f.st == .opened && f.durable) = some g ∧ e ∈ u.truss.onChip ∧ e.src = g.feed) ∧
    (∀ g ∈ (work [] { frame0 .opened [task0] with durable := false }).truss.frames, g.durable = false) :=
  ⟨by decide +kernel, by decide +kernel, by decide +kernel, keeps (by decide +kernel), by decide +kernel⟩

theorem live_of {s : State} {idx : Nat} {f : Frame} {i : Nat} {t : Task} (h : s.taskAt idx = some (f, i, t)) (g : s.frame? f.id = some f) :
    s.Live idx f i t := ⟨h, g⟩

theorem witness_TasksEndAsListed :
    ((work mirror0 (frame0 .running [task0])).Keeps [0] ∧ (work mirror0 (frame0 .running [task0])).Live 0 (frame0 .running [task0]) 0 task0) ∧
    (let t := { task0 with st := .running, consumer := 71, dlSlot := 1862760909 }
     let f := frame0 .running [t]
     let s := { work mirror0 f with truss := { Truss.cold with frames := [f], holding := [(71, 0)] } }
     s.Keeps f.records ∧ s.Live 0 f 0 t ∧ consumerExists t.consumer = true ∧ tget? s.truss.holding (consumerCode (.core 71)) = some 0 ∧
     s.reached f.carrier t.dlSlot t.dlSym 0 = false ∧ s.reached f.carrier 0 0 0 = true ∧ t.attempt < max 1 (s.fld TRS_CTL 3 0) ∧
     ¬{ t with attempt := 3 }.attempt < max 1 (s.fld TRS_CTL 3 0)) ∧
    (work [] (frame0 .running [{ task0 with st := .staged }])).Live 0 (frame0 .running [{ task0 with st := .staged }]) 0 { task0 with st := .staged } ∧
    takes State.reset P (TRS_DB_CANCEL 0) 0 = true ∧ takes State.reset P (TRS_DB_CANCEL_ALL 1023) 1 = true ∧
    ((work [] (frame0 .running [task0])).truss.frames.map Frame.id).Nodup ∧
    takes (work [] (frame0 .committed [task0])) P (TRS_DB_CANCEL 0) 0 = true :=
  ⟨⟨keeps (by decide +kernel), live_of (by decide +kernel) (by decide +kernel)⟩,
    ⟨keeps (by decide +kernel), live_of (by decide +kernel) (by decide +kernel), by decide +kernel⟩,
    live_of (by decide +kernel) (by decide +kernel), by decide +kernel⟩

theorem witness_CompletionsAreDelivered :
    let f := frame0 .committed [{ task0 with st := .done }]
    let s := { ringState 0 with truss := { Truss.cold with frames := [f] } }
    s.deliverable 0 = some f ∧ (s.q 0).voids = [] ∧ s.qOn 0 = true ∧ s.flag (TRS_CR_CTL 0 (s.fld (qDepth 0) 27 24)) 31 = true ∧
    s.ringTaken 0 0 0 = false ∧ s.cringFull 0 0 = false ∧
    (s.putAll (trussFor 0) [((s.cring 0 0).1, completionRecord f s.epoch)]).1 = none ∧
    (s.putAll (trussFor 0) [(0x300000000, completionRecord f s.epoch)]).1.isSome = true ∧
    (let u := { s with truss := { s.truss with queues := [(0, { s.q 0 with intent := some (0, 0, 7), delay := 6 })] } }
     (u.q 0).delay = 6 ∧ (u.q 0).intent = some (f.seq, 0, 7) ∧ u.deliverable 0 = some f ∧ u.ringTaken 0 0 0 = false ∧
     u.ringTaken 1 0 0 = true) := by decide +kernel

theorem witness_CapacityAndMirrorsChange :
    takesAll State.reset [(TRS_DRAIN, (drainWord 0 true false).toNat), (TRS_DRAIN, (drainWord 194 true true).toNat),
      (TRS_DRAIN, (drainWord 71 false false).toNat)] = true ∧ tget? State.reset.truss.holding 194 = none ∧
    State.reset.fld LDG_STAT 1 0 = 3 ∧ (regs [(LDG_STAT, 2)]).fld LDG_STAT 1 0 = 2 ^ (1 - (0 : Fin 2).val) ∧
    (let f := frame0 .running [{ task0 with idx := 0x10000 }]
     let s (pos : Nat) := { work (mirror0 ++ [(LDG_STAT, 5), (LDG_RESYNC_POS, pos), (LDG_M1_LO, 0), (LDG_M1_LO + 4, 0x101)]) f with
       mem := memPutAll [] (dramBase + 64 * 0x10000) (recordBytes { f with durable := false } { task0 with idx := 0x10000 }) }
     (s 0).fld LDG_STAT 1 0 = 1 ∧ Memory.wf (s 0).mem = true ∧ (s 0).wr = [] ∧ dramBase ≤ (s 0).wide LDG_M0_LO ∧
     (s 0).wide LDG_M0_LO + 0x40000000 ≤ dramBase + (s 0).dramU ∧ ((s 0x10000).readMirror 0 0x10000).1.isSome = true ∧
     (s 0xFF0000).reg LDG_RESYNC_POS + unitRecords ≤ 0x1000000 ∧ (regs [(LDG_STAT, 1)]).flag LDG_STAT 2 = false) ∧
    (let t := { task0 with st := .running, consumer := 3, dlSlot := 1862760909 }
     let f := frame0 .running [t]
     let s := { work [] f with truss := { Truss.cold with frames := [f], holding := [(3, 0)] } }
     takes s P TRS_DRAIN (drainWord 3 true true).toNat = true ∧ s.Live 0 f 0 t ∧ s.reached 0 t.dlSlot 0 0 = false ∧
     t.attempt < max 1 (s.fld TRS_CTL 3 0)) ∧
    (let s := { State.reset with truss := { Truss.cold with moves := [(qPage 1023, 7, 5)], draining := some 3 } }
     s.qBay 1023 ≠ 7 ∧ tget? s.truss.holding 3 = none) :=
  ⟨by decide +kernel, by decide +kernel, by decide +kernel, by decide +kernel, by decide +kernel,
    ⟨by decide +kernel, live_of (by decide +kernel) (by decide +kernel), by decide +kernel⟩, by decide +kernel⟩

theorem witness_RebuildResumesAcceptedWork :
    (regs [(TRS_STAT, 1)]).flag TRS_STAT 0 = true ∧ (∀ e ∈ (regs [(TRS_STAT, 1)]).truss.queues, e.2.intent = none) ∧
    (let t := { task0 with st := .running, dlSlot := 1862760909 }
     let f := frame0 .running [t]
     let s := { work (mirror0 ++ [(TRS_STAT, 1)]) f with mem := memPutAll [] dramBase (recordBytes f t) }
     s.truss.frames = [f] ∧ s.flag TRS_STAT 0 = true ∧ s.Keeps f.records ∧ s.flag LDG_STAT 0 = true ∧
     (s.readMirror 0 0).1.isSome = true ∧ s.reached 0 0 0 0 = true ∧ s.reached 0 1862760909 0 0 = false ∧ s.dramErr = []) ∧
    (work [(TRS_STAT, 1)] (frame0 .opened [task0])).truss.frames = [frame0 .opened [task0]] ∧ { frame0 .opened [task0] with durable := false }.durable = false :=
  ⟨by decide +kernel, by decide +kernel,
    ⟨by decide +kernel, by decide +kernel, keeps (by decide +kernel), by decide +kernel⟩, by decide +kernel⟩

/-- The words of the chapter's worked example: the acceptance word of step 2 and the completion record of step 6. -/
theorem test_frame_word : frameWord false 0 0x102A00 7 = 0x80102A0000000007 := by decide +kernel

theorem test_completion_record :
    completionRecord ⟨40, 1, 0x102A00, 40001, .ring 0x1F40, .committed, false, 0, 0x12345678, 0x010120008000, 640000000, true,
        List.replicate 60 { task0 with st := .done }⟩ 7 =
      toBytes 8 0x0000280000009C41 ++ toBytes 8 0x00001F4000000007 ++ toBytes 8 0x000000003C102A00 ++ toBytes 8 0x2625A00000000FFF := by
  decide +kernel

/-! ## The Rafter core (05, 06) -/

/-- Core 0 runs, with its registers and window registers set. -/
abbrev running (l : List (Nat × Nat)) (f : Core → Core) : State :=
  { State.reset with
    regs := ((RFT_STAT 0, 0x220) :: l).map fun e => (e.1, BitVec.ofNat 32 e.2)
    cores := (Vector.replicate 72 Core.cold).setIfInBounds 0 (f Core.cold) }

def clear (s : State) (c : Nat) : Bool :=
  decide ((s.executes c = true ∧ (s.core c).pkt = [] ∧ (s.core c).divUnit = [] ∧ (s.core c).hivUnit = []) ∧
    ((s.core c).pc.toNat < 0x1E000 ∨ ((s.core c).level = 2 ∧ (s.core c).pc.toNat < 0x20000)) ∧
    (s.progRead (progBase + 0x20000 * c + (s.core c).pc.toNat)).isSome = true ∧ s.flag (RFT_RUN c) 1 = false)

theorem clear_of {s : State} {c : Nat} (h : clear s c = true) : s.Clear c := by
  have ⟨idle, reach, word, resumed⟩ := of_decide_eq_true h
  exact ⟨idle.1, idle.2.1, idle.2.2, reach, word, resumed⟩

/-- ADD without saturation wraps and sets ov (R129); the next packet is 4 bytes on. -/
theorem test_add_overflow :
    let s := running [] fun k => { k with g := k.g.setIfInBounds 1 0x7FFFFFFFFFFFFFFF |>.setIfInBounds 2 1 }
    let t := next (execAdd 0 true ⟨3, 1, 2, false, false⟩ s)
    (t.core 0).g.getD 3 0 = 0x8000000000000000 ∧ (t.core 0).ov = true ∧ (t.core 0).pc = 4 := by decide +kernel

/-- The same sum clamped (R129). -/
theorem test_add_saturates :
    let s := running [] fun k => { k with g := k.g.setIfInBounds 1 0x7FFFFFFFFFFFFFFF |>.setIfInBounds 2 1 }
    let t := next (execAdd 0 true ⟨1, 1, 2, true, false⟩ s)
    (t.core 0).g.getD 1 0 = 0x7FFFFFFFFFFFFFFF ∧ (t.core 0).ov = false := by decide +kernel

/-- Convergent rounding (R128): 2.5 and 3.5 go to even. -/
theorem test_round : rnd 5 1 = 2 ∧ rnd 7 1 = 4 ∧ rnd (-5) 1 = -2 := by decide +kernel

theorem witness_ScalarResults : (running [] id).Clear 0 ∧
    (running [] fun k => { k with pc := 0x1DFFC, priv := 0 }).Clear 0 ∧ (running [] fun k => { k with pc := 0x1FFFC }).Clear 0 :=
  ⟨clear_of (by decide +kernel), clear_of (by decide +kernel), clear_of (by decide +kernel)⟩

theorem witness_ScalarLanesAndPairs : (running [] id).Clear 0 ∧ (30 : BitVec 5).toNat % 2 = 0 :=
  ⟨clear_of (by decide +kernel), by decide⟩

theorem witness_BranchesAndLoopsGoOn :
    let s := running [] fun k => { k with lc := k.lc.setIfInBounds 0 2 |>.setIfInBounds 1 1, le := k.le.setIfInBounds 1 0x40, pc := 0 }
    s.Clear 0 ∧ (s.core 0).lc.getD 0 0 ≠ 0 ∧ (s.core 0).le.getD 0 0 = (s.core 0).pc.setWidth 17 ∧ (running [] id).Clear 0 ∧
    Core.cold.lc.getD 0 0 = 0 ∧ (6 : BitVec 3).toNat ≤ 6 ∧ (0 : BitVec 9).zeroExtend 16 + (1 : BitVec 16) ≠ 0 :=
  ⟨clear_of (by decide +kernel), by decide +kernel, by decide +kernel, clear_of (by decide +kernel), by decide, by decide, by decide⟩

theorem witness_SystemInstructionsAct : (running [] id).Clear 0 ∧ Core.cold.level = 2 ∧ Core.cold.csrCauses 0 false = [] ∧
    (running [] fun k => { k with priv := 1 }).Clear 0 ∧ { Core.cold with priv := 1 }.level = 1 ∧ Core.cold.timer ≤ Core.cold.cycle ∧
    { Core.cold with intPend := 16, intEn := 16 }.intPend &&& { Core.cold with intPend := 16, intEn := 16 }.intEn ≠ 0 ∧
    (running [] fun k => { k with intPend := 16, intEn := 16 }).Clear 0 ∧ (running [] fun k => { k with holdLeft := 16 }).Clear 0 ∧
    bitsOf (256 : BitVec 64).toNat 8 0 = 256 :=
  ⟨clear_of (by decide +kernel), by decide, by decide, clear_of (by decide +kernel), by decide, by decide, by decide,
    clear_of (by decide +kernel), clear_of (by decide +kernel), by decide⟩

/-- A 16-byte access at the last place of the core's own memory (R112, R125). -/
theorem witness_ScalarMemoryMovesBytes :
    let s := running [] fun k => { k with a := k.a.setIfInBounds 3 0x7FFF0 }
    let f : MForm := ⟨4, 3, 0, 4, 0⟩
    s.Clear 0 ∧ f.mode.toNat ≤ 4 ∧ f.size.toNat ≤ 4 ∧ ¬((s.core 0).circular 3 = true) ∧
    (s.core 0).agCauses ((s.core 0).mAddr f) 16 (((s.core 0).mAddr f).chunks 0 16) = [] ∧
    (s.bytesAt 0 (((s.core 0).mAddr f).chunks 0 16)).isSome = true ∧ s.sramErr = [] ∧
    (s.bytesAt 0 (((s.core 0).mAddr ⟨5, 3, 4, 0, 1⟩).chunks 0 1)).isSome = true ∧
    { Core.cold with circ := 1, cl := Core.cold.cl.setIfInBounds 0 16 }.circ.getLsbD 0 = true :=
  ⟨clear_of (by decide +kernel), by decide, by decide, by decide +kernel, by decide +kernel, by decide +kernel, rfl,
    by decide +kernel, by decide⟩

theorem witness_CoresTakeEndAndSubmitTasks :
    let t : Task := { task0 with job := 0x010080000000, dlSlot := 1862760909 }
    let f := frame0 .running [t]
    let s := { running [(qCfg 0, 0x80000001), (BAY_BENTS 0 0, 1), (RFT_RUN 0, 1), (DRC_WIN 0, 0x80000080), (DRC_WIN_SIZE 0, 64)] id with
      truss := { Truss.cold with frames := [f], admits := true, dispatch := true } }
    clear s 0 = true ∧ (s.core 0).taskValid = false ∧ s.flag (RFT_RUN 0) 0 = true ∧ s.mayAsk 0 = true ∧
    s.askTurn 0 = true ∧ s.select 0 = some (f, 0, t) ∧ s.frame? f.id = some f ∧
    (s.memRead (trussFor 0) t.job 16).1 = .ok (List.replicate 16 0) ∧ bitsOf (wordAt (List.replicate 16 0) 0) 63 48 = 0 ∧
    ({ s with truss := { s.truss with asking := [0] } }.askTurn 9, s.core 0 == { s.core 0 with sleep := .no, held := [] }) = (false, true) ∧
    (let u := { s with truss := { Truss.cold with dispatch := true } }
     u.mayAsk 0 = true ∧ u.select 0 = none) ∧
    clear (running [] fun k => { k with taskValid := true }) 0 = true ∧
    clear (running [] fun k => { k with taskValid := true, taskAbandoned := true }) 0 = true ∧
    (let u := { running mirror0 fun k => { k with sleep := .tend 31 3, taskValid := true } with
       truss := { Truss.cold with frames := [frame0 .running [{ task0 with st := .running, dlSlot := 1862760909 }]], holding := [(0, 0)] } }
     tget? u.truss.holding 0 = some 0 ∧ (u.taskAt 0).isSome = true ∧ u.reached 0 1862760909 0 (u.qGrace 0) = false ∧
     (u.flag LDG_STAT 0 && [0].all (u.keepsAt 0)) = true ∧ u.flag (RFT_RUN 0) 1 = false) ∧
    (let u := running [] fun k => { k with g := k.g.setIfInBounds 1 0x7FFC0 |>.setIfInBounds 2 1 |>.setIfInBounds 3 0x7FFE0 }
     clear u 0 = true ∧ (u.memRead (u.coreAgent 0) 0x7FFC0 64).1 = .ok (List.replicate 64 0) ∧ inWindow 0x7FFC0 = false ∧
     mayUse 2 0x7FFC0 64 = true ∧ mayUse 0 0x100000 64 = false ∧ 0x7FFE0 % 64 ≠ 0) ∧
    (let u := running [] fun k => { k with sleep := .take 28 }
     (u.core 0).held = [] ∧ (regs [(RFT_STAT 0, 0x230)]).coreSt 0 = 3) ∧
    (let u := { running [] fun k => { k with sleep := .enq 31 } with truss := { Truss.cold with onChip := [⟨.core 0, 5, 0, [], true, some 9⟩] } }
     (u.coreOffer 0).map (fun e => e.word) = some (some 9)) := by decide +kernel

theorem witness_CoreEventsTakeEffect :
    let t : Task := { task0 with st := .running, consumer := 0 }
    let f := frame0 .running [t]
    let s := { running mirror0 id with truss := { Truss.cold with frames := [f], holding := [(0, 0)] } }
    (s.flag LDG_STAT 0 && f.records.all (s.keepsAt 0)) = true ∧ s.taskAt 0 = some (f, 0, t) ∧ s.frame? f.id = some f ∧ tget? s.truss.holding 0 = some 0 ∧
    (s.coreSt 0 = 2 ∧ s.islandUp 8 = true) ∧ Core.cold.cycle < { Core.cold with timer := 5 }.timer ∧
    (s.accessRefused (s.agent P) (s.place P dataBase 8) 8 dataBase).isSome = false ∧
    (s.accessRefused (s.agent P) (s.place P (dataBase + 0x7FFF8) 8) 8 (dataBase + 0x7FFF8)).isSome = false ∧
    State.reset.coreServes 0 = true ∧ State.reset.coreSt 0 = 0 ∧ State.reset.islandUp 8 = true ∧ State.reset.flag (RFT_RUN 0) 0 = false ∧
    (let u := regs [(RFT_RUN 71, 1), (RFT_BOOT_LO 71, 0x80000000), (RFT_BOOT_LO 71 + 4, 0x100), (RFT_BOOT_LEN 71, 16),
        (DRC_WIN 0, 0x80000080), (DRC_WIN_SIZE 0, 64), (BNT_STAT 7, 0)]
     u.coreServes 71 = true ∧ dramBase ≤ u.wide (RFT_BOOT_LO 71) ∧
     (u.memRead (u.coreAgent 71) (u.wide (RFT_BOOT_LO 71) / 16 * 16) (u.fld (RFT_BOOT_LEN 71) 16 0)).1 = .ok (List.replicate 16 0)) ∧
    takes State.reset P (RFT_MAILBOX 71) 0 = true ∧ takes State.reset P (RFT_RUN 0) (runWord true false).toNat = true ∧
    takes (running [] id) P (RFT_RUN 0) (runWord false true).toNat = true ∧
    takes (regs [(RFT_STAT 0, 0x240)]) P (RFT_RUN 0) (runWord false false).toNat = true ∧ (regs [(RFT_STAT 0, 0x240)]).coreSt 0 = 4 ∧
    Core.cold.haltedFrom < 16 := by
  decide +kernel

theorem witness_FaultingPacketsReportTheirCause :
    clear (running [] id) 0 = true ∧ (running [] id).executes 0 = true ∧ Core.cold.pkt.length < 3 ∧
    (running [] fun k => { k with pc := 0x1E000, priv := 1 }).executes 0 = true ∧
    ((running [] fun k => { k with pc := 0x1E000, priv := 1 }).progRead (progBase + 0x1E000)).isSome = true ∧
    ({ running [] id with progErr := [(progBase, 3)] }.progRead progBase).isSome = false := by decide +kernel

/-- ng 1 with every element on; v1 holds 1, 2, 3, … in its 32-bit lanes, a3 an address in the core's own memory. -/
abbrev lanes (a3 : Nat) : State := running [] fun k =>
  { k with
    n := k.n.setIfInBounds 1 (BitVec.allOnes 128)
    v := k.v.setIfInBounds 1 (BitVec.ofNat 1024 (((List.range 32).map fun i => (i + 1) * 2 ^ (32 * i)).sum))
    a := k.a.setIfInBounds 3 (BitVec.ofNat 48 a3) }

theorem lanes_vecOn : (lanes 0).VecOn 0 := ⟨clear_of (by decide +kernel), Or.inl (by decide +kernel)⟩

/-- VADD of 32-bit elements under a full mask (R154): lane 31 of v1 + v1. -/
theorem test_vadd :
    let t := next (execVadd 0 true ⟨2, 1, 1, 1, false, false, 2, false⟩ (lanes 0))
    laneOf 32 31 ((t.core 0).v.getD 2 0) = 64 ∧ (t.core 0).vctl = 7 := by decide +kernel

/-- An inactive element keeps its value, or is zeroed with zm (R145). -/
theorem test_inactive :
    let t := next (execVadd 0 true ⟨1, 1, 1, 0, false, false, 2, false⟩ (lanes 0))
    let u := next (execVadd 0 true ⟨1, 1, 1, 0, false, false, 2, true⟩ (lanes 0))
    laneOf 32 31 ((t.core 0).v.getD 1 0) = 32 ∧ laneOf 32 31 ((u.core 0).v.getD 1 0) = 0 := by decide +kernel

theorem witness_VectorElements : (lanes 0).VecOn 0 ∧ (7 : BitVec 5).toNat ≤ 7 ∧ (30 : BitVec 5).toNat % 2 = 0 ∧
    (2 : BitVec 5).toNat ≤ 2 ∧ (15 : BitVec 5).toNat ≤ 15 := ⟨lanes_vecOn, by decide⟩

theorem witness_VectorMasksAndSums : (lanes 0).VecOn 0 ∧ (6 : BitVec 5).toNat ≤ 7 ∧ (6 : BitVec 5).toNat % 2 = 0 ∧
    (30 : BitVec 5).toNat % 2 = 0 ∧ (15 : BitVec 5).toNat < 16 := ⟨lanes_vecOn, by decide⟩

/-- VLD, VST and the structure forms at a3; VGATH and VSCAT over the elements of v1, whose third is out of range. -/
theorem witness_VectorMemoryMovesElements :
    let s := lanes 0x1000
    let k := s.core 0
    let f : VMForm := ⟨28, 3, 4, 1, 31, 2, false⟩
    let js := k.activeElems f.ng 32
    let u := running [] fun k => { k with
      n := k.n.setIfInBounds 1 7, v := k.v.setIfInBounds 1 (BitVec.ofNat 1024 (4 + 0x80000 * 2 ^ 64)) }
    let h : VMForm := ⟨2, 3, 0, 1, 1, 2, false⟩
    s.VecOn 0 ∧ s.NoErrors ∧ f.rt.toNat + 4 ≤ 32 ∧
    k.agCauses (k.vmAddr 4 f) 4 (vmChunks (k.vmAddr 4 f) 4 4 js) = [] ∧
    (js.all fun j => (List.range 4).all fun g => (s.bytesAt 0 ((k.vmAddr 4 f).chunks ((j * 4 + g) * 4) 4)).isSome) = true ∧
    (k.vmAddr 4 f).wrapIn = none ∧
    (u.core 0).activeElems h.ng 32 = [0, 1, 2] ∧ (u.core 0).elemCause 4 4 = none ∧ (u.reaches 0 4 4).isSome = true ∧
    ((u.core 0).elemCause 0x80000 4).isSome = true :=
  ⟨⟨clear_of (by decide +kernel), Or.inl (by decide +kernel)⟩, ⟨rfl, rfl, rfl⟩, by decide +kernel⟩

theorem witness_DowelResults : (lanes 0).VecOn 0 ∧ (Core.cold.dwlEn.getLsbD (16 * 2 + 0) = true) ∧
    (∀ i < 11, Core.cold.dwlEn.getLsbD (16 * 2 + i) = true) ∧
    ((running [] fun k => { k with divUnit := [⟨5, false, [(false, 3, 7)]⟩] }).core 0).divUnit = [⟨5, false, [(false, 3, 7)]⟩] ∧
    ((running [] fun k => { k with hivUnit := [⟨5, false, [(true, 3, 7), (false, 4, 9)]⟩] }).core 0).hivUnit =
      [⟨5, false, [(true, 3, 7), (false, 4, 9)]⟩] :=
  ⟨lanes_vecOn, by decide +kernel, by decide +kernel, by decide +kernel, by decide +kernel⟩

/-- DIV by zero saturates and sets ov, and its result arrives later (R161, R162). -/
theorem test_div_zero :
    let s := running [] fun k => { k with g := k.g.setIfInBounds 1 5 }
    let t := next (execDivSigned 0 true ⟨3, 1, 2, 0, false, false, 0, false⟩ s)
    let u := next (execDowelResult 0 false t)
    (t.core 0).ov = true ∧ (t.core 0).g.getD 3 0 = 0 ∧ (u.core 0).g.getD 3 0 = 0x7FFFFFFFFFFFFFFF := by decide +kernel

theorem witness_VectorAndDowelFaults :
    let k1 (k : Core) : Core := { k with priv := 1, vctl := 2 }
    let k2 (k : Core) : Core := { k with dwlEn := 0 }
    (running [] k1).Clear 0 ∧ ((running [] k1).core 0).level = 1 ∧ ((running [] k1).core 0).vctl.getLsbD 0 = false ∧
    csrWriteLevel 0x84 ≤ ((running [] k1).core 0).level ∧
    (running [] k2).VecOn 0 ∧ ((running [] k2).core 0).dwlEn.getLsbD (16 * 2 + 9) = false ∧
    (16 : BitVec 5).toNat ≥ 16 ∧ (8 : BitVec 5).toNat ≥ 8 ∧ (31 : BitVec 5).toNat = 31 ∧ 5 ≤ (5 : BitVec 3).toNat :=
  ⟨clear_of (by decide +kernel), by decide +kernel, by decide +kernel, by decide +kernel,
    ⟨clear_of (by decide +kernel), Or.inl (by decide +kernel)⟩, by decide +kernel, by decide⟩

/-! ## Mortise engines (07, 08) -/

/-- Where the descriptor, the buffer block and the buffers of a job lie: a DRAM window of Bay 0. -/
abbrev jobBase : Nat := 0x010080000000

/-- Engine `e` runs a task of Bay 0 whose descriptor has these words, with two input and two output buffers. -/
def engineRuns (e : Nat) (ws : List Nat) (l : List (Nat × Nat)) : State :=
  let bufs := (List.range 4).flatMap fun i => [jobBase + 0x10000 * (i + 1), 0x10000]
  let f := frame0 .running [{ task0 with st := .running, consumer := 128 + e, nIn := 2, nOut := 2, job := jobBase, buf := jobBase + 256 }]
  { regs ([(DRC_WIN 0, 0x80000080), (DRC_WIN_SIZE 0, 64), (MRT_STAT e, 3)] ++ l) with
    mem := memPutAll (memPutAll [] jobBase (ws.flatMap (toBytes 8))) (jobBase + 256) (bufs.flatMap (toBytes 8))
    truss := { Truss.cold with frames := [f], holding := [(128 + e, 0)] }
    engines := (Vector.replicate 67 Engine.cold).setIfInBounds e { Engine.cold with task := some 0 } }

/-- The job it runs. -/
def jobAt (e : Nat) (ws : List Nat) : Job :=
  ⟨e, 0, jobBase, ws, [(jobBase + 0x10000, 0x10000), (jobBase + 0x20000, 0x10000)],
    [(jobBase + 0x30000, 0x10000), (jobBase + 0x40000, 0x10000)]⟩

/-- A buffer reference: number, output, offset 0. -/
def ref (n : Nat) (out : Bool) : Nat := n + if out then 16 else 0

/-- `State.JobOf` as a test. -/
def runsJob (s : State) (e : Nat) (j : Job) : Bool :=
  match (s.eng e).task with
  | none => false
  | some idx => match s.taskAt idx with
    | none => false
    | some (f, _, t) =>
      match (s.memRead ⟨.engine (Fin.ofNat 67 e), f.bay, false⟩ t.job 64).1,
        (s.memRead ⟨.engine (Fin.ofNat 67 e), f.bay, false⟩ t.buf (16 * (t.nIn + t.nOut))).1 with
      | .ok bs, .ok bb =>
        decide ((s.sramErr = [] ∧ s.progErr = [] ∧ s.dramErr = []) ∧
          ((s.eng e).report = none ∧ (s.eng e).changed = [] ∧ s.engSt e = 3 ∧ s.islandUp (16 + e) = true) ∧
          (t.job % 64 = 0 ∧ t.job < hostBase ∧ t.buf < hostBase) ∧
          j.e = e ∧ j.bay = f.bay ∧ j.addr = t.job ∧ (∀ n < (8 : Nat), j.w n = wordAt bs n) ∧
          j.words.length = 8 ∧ j.ins.length = t.nIn ∧ j.outs.length = t.nOut ∧
          ∀ n < t.nIn + t.nOut, (j.ins ++ j.outs)[n]? = some (bitsOf (wordAt bb (2 * n)) 47 0, bitsOf (wordAt bb (2 * n + 1)) 31 0))
      | _, _ => false

theorem jobOf_of {s : State} {e : Nat} {j : Job} (h : runsJob s e j = true) : s.JobOf e j := by
  unfold runsJob at h
  split at h
  · cases h
  · rename_i idx h0
    split at h
    · cases h
    · rename_i f i t h1
      split at h
      · rename_i bs bb h2 h3
        have ⟨clean, ready, ⟨align, job, buf⟩, same⟩ := of_decide_eq_true h
        exact ⟨clean, idx, f, i, t, bs, bb, h0, ready.1, ready.2.1, ready.2.2.1, ready.2.2.2, h1, align, job, buf, h2, h3, same⟩
      · cases h

/-- The engine runs the job, whose descriptor passes every check, and the streams of a reference are read. -/
def good (s : State) (e : Nat) (j : Job) (kind nops : Nat) (p : Plan) (reads : List (Nat × Nat × Nat)) : Bool :=
  runsJob s e j && decide (j.check kind nops p = 0) &&
    reads.all fun r => match (j.readStreams r.1 r.2.1 (List.range r.2.2) s).1 with
      | .ok xs => decide (xs = List.replicate r.2.2 (List.replicate r.2.1 0))
      | .error _ => false

theorem jobOf_of_good {s : State} {e : Nat} {j : Job} {kind nops : Nat} {p : Plan} {reads : List (Nat × Nat × Nat)}
    (h : good s e j kind nops p reads = true) : s.JobOf e j ∧ j.check kind nops p = 0 ∧
      ∀ r ∈ reads, s.JobReads j r.1 r.2.1 r.2.2 (List.replicate r.2.2 (List.replicate r.2.1 0)) := by
  unfold good at h
  simp only [Bool.and_eq_true, decide_eq_true_eq, List.all_eq_true] at h
  obtain ⟨⟨h1, h2⟩, h3⟩ := h
  refine ⟨jobOf_of h1, h2, fun r hr => ?_⟩
  have := h3 r hr
  unfold State.JobReads
  split at this
  · rename_i xs hx
    rw [hx, of_decide_eq_true this]
  · cases this

/-- Descriptor words of a job: kind, op, further bits of words 0 and 1, words 2 to 5. -/
def words (kind op w0 w1 w2 w3 w4 w5 : Nat) : List Nat := [2 ^ 40 + kind * 2 ^ 32 + op * 2 ^ 24 + w0, w1, w2, w3, w4, w5, 0, 0]

/-- A sequence x(n + 31) = x(n + 3) + x(n) that begins with a 1 and thirty 0s. -/
def lfsr : Nat → BitVec 31
  | 0 => 1
  | i + 1 => (lfsr i >>> 1) ||| ((BitVec.ofBool ((lfsr i).getLsbD 3 ^^ (lfsr i).getLsbD 0)).setWidth 31 <<< 30)

theorem lfsr_step (i j : Nat) (hj : j < 31) : (lfsr (i + 1)).getLsbD j =
    if j = 30 then (lfsr i).getLsbD 3 ^^ (lfsr i).getLsbD 0 else (lfsr i).getLsbD (1 + j) := by
  rw [lfsr]
  generalize lfsr i = v
  simp only [BitVec.getLsbD_or, BitVec.getLsbD_ushiftRight, BitVec.getLsbD_shiftLeft, BitVec.getLsbD_setWidth, BitVec.getLsbD_ofBool]
  by_cases h : j = 30
  · subst h; simp
  · have : j < 30 := by omega
    simp [h, this]

theorem lfsr_window (j : Nat) : ∀ i, j < 31 → (lfsr i).getLsbD j = (lfsr (i + j)).getLsbD 0 := by
  induction j with
  | zero => intro i _; rfl
  | succ j ih =>
    intro i hj
    have := ih (i + 1) (by omega)
    rw [lfsr_step i j (by omega), if_neg (by omega)] at this
    rw [show i + (j + 1) = i + 1 + j by omega, ← this, Nat.add_comm]

/-- The first m-sequence of the Gold generator, and a second one that is all 0. -/
theorem gold_exists : ∃ x1 x2 : Nat → Bool,
    (∀ i, x1 (i + 31) = (x1 (i + 3) ^^ x1 i) ∧ x2 (i + 31) = ((x2 (i + 3) ^^ x2 (i + 2)) ^^ (x2 (i + 1) ^^ x2 i))) ∧
    ∀ i < 31, x1 i = decide (i = 0) ∧ x2 i = false := by
  refine ⟨fun i => (lfsr i).getLsbD 0, fun _ => false, fun i => ⟨?_, rfl⟩, fun i hi => ⟨?_, rfl⟩⟩
  · have h1 := lfsr_window 30 (i + 1) (by omega)
    rw [lfsr_step i 30 (by omega), if_pos rfl, lfsr_window 3 i (by omega)] at h1
    simpa [Nat.add_assoc, Nat.add_comm 1 30] using h1.symm
  · have := lfsr_window i 0 hi
    rw [Nat.zero_add] at this
    show (lfsr i).getLsbD 0 = _
    rw [← this]
    decide +revert

theorem witness_EnginesTakeReportAndAreFreed :
    let u := regs [(hdr (engPage 0) 0x08, 1), (qCfg 0, 0x80010001), (BAY_ENG 0 0 0, 1)]
    let t : Task := { task0 with dlSlot := 1862760909 }
    let f := frame0 .running [t]
    let s := { u with truss := { Truss.cold with frames := [f], dispatch := true } }
    let r := engineRuns 66 [] []
    let t1 : Task := { task0 with st := .running, consumer := 128 + 66, nIn := 2, nOut := 2, job := jobBase, buf := jobBase + 256 }
    let f1 := frame0 .running [t1]
    (s.enabled (engPage 0) = true ∧ s.islandUp 16 = true ∧ 128 ∉ s.truss.drained ∧ (s.eng 0).task = none ∧ s.engSt 0 = 0 ∧
      s.engHeld 0 = false ∧ (s.eng 0).fenced = false) ∧
    s.mayAsk 128 = true ∧ s.select 128 = some (f, 0, t) ∧ s.frame? f.id = some f ∧
    { s with truss := { Truss.cold with dispatch := true } }.mayAsk 128 = true ∧
    { s with truss := { Truss.cold with dispatch := true } }.select 128 = none ∧
    s.reached 0 1862760909 0 (s.qGrace 0) = false ∧ r.reached 0 0 0 (r.qGrace 0) = true ∧
    tget? r.truss.holding (128 + 66) = some 0 ∧ r.taskAt 0 = some (f1, 0, t1) ∧ r.frame? 0 = some f1 ∧ r.engSt 66 = 3 ∧
    (regs [(MRT_STAT 66, 4)]).engSt 66 = 4 ∧ tget? State.reset.truss.holding (128 + 66) = none ∧ State.reset.engSt 66 ≠ 5 ∧
    (1 : Nat) < max 1 ((regs [(TRS_CTL, 3)]).fld TRS_CTL 3 0) ∧
    takes State.reset P (MRT_HQ_INV 66) 1 = true ∧ s.askTurn 128 = true ∧
    (let u := engineRuns 66 [] mirror0
     (u.flag LDG_STAT 0 && [0].all (u.keepsAt 0)) = true ∧ (u.eng 66).changed = [] ∧
     ({ u with engines := u.engines.setIfInBounds 66 { Engine.cold with task := some 0, report := some .finished } }.eng 66).report = some .finished) := by
  decide +kernel

/-- A job of each kind whose descriptor is refused: of another kind (0x10), a reserved bit set (0x11); a job not on a 64-byte
address (0x13). -/
theorem witness_JobsAreCheckedFirst :
    let ws := words 2 0 0 0 0 0 0 0
    let j := jobAt 0 ws
    (engineRuns 0 ws []).JobOf 0 j ∧ j.f 0 39 32 ≠ 1 ∧
    (let v := words 1 0 0x20 0x100000000 0 0 0 0
     (engineRuns 0 v []).JobOf 0 (jobAt 0 v) ∧ (jobAt 0 v).f 0 39 32 = 1 ∧ (jobAt 0 v).f 0 47 40 = 1 ∧
      (bfmPlan (jobAt 0 v)).fields = false) ∧
    j.check 1 2 (bfmPlan j) = 0x10 ∧
    (let f := frame0 .running [{ task0 with job := jobBase + 8 }]
     let s : State := { work [(MRT_STAT 0, 3)] f with
       engines := (Vector.replicate 67 Engine.cold).setIfInBounds 0 { Engine.cold with task := some 0 } }
     (s.eng 0).task = some 0 ∧ (s.eng 0).report = none ∧ s.engSt 0 = 3 ∧ s.islandUp 16 = true ∧
      (jobBase + 8) % 64 ≠ 0 ∧ s.taskAt 0 = some (f, 0, { task0 with job := jobBase + 8 })) :=
  ⟨jobOf_of (by decide +kernel), by decide +kernel, ⟨jobOf_of (by decide +kernel), by decide +kernel⟩, by decide +kernel,
    by decide +kernel⟩

/-- Jobs of one sample that pass every check, whose outputs are accepted. -/
theorem witness_BeamsAndDetectionAreExact :
    (∀ op < 2, let ws := words 1 op 9 0x100050000 (ref 0 false) (ref 1 false) (ref 0 true) 0
      good (engineRuns 8 ws []) 8 (jobAt 8 ws) 1 2 (bfmPlan (jobAt 8 ws)) [(2, 4, 1), (3, 4, 1)] = true ∧
      ((engineRuns 8 ws []).putAll (jobAt 8 ws).agent
        ([((jobAt 8 ws).stream 4 0, ci16 0 0)] ++ (jobAt 8 ws).status 0 0 1)).1 = none) ∧
    (let ws := words 2 2 0 0x100000000 (ref 0 false) (ref 1 false) (ref 0 true) 0
     good (engineRuns 9 ws []) 9 (jobAt 9 ws) 2 3 (detPlan (jobAt 9 ws)) [(2, 4, 1), (3, 64, 1)] = true) := by decide +kernel

theorem witness_SignalJobsWriteTheirOutputs :
    let l := [(MRT_FFT_CP_RULE 24 0, 14), (MRT_FFT_CP 24 0, 0x800080)]
    (∀ op < 2, let ws := words 2 op 0 0x100000000 (ref 0 false) (ref 1 false) (ref 0 true) (ref 1 true)
      good (engineRuns 17 ws []) 17 (jobAt 17 ws) 2 3 (detPlan (jobAt 17 ws)) [(2, 4, 1), (3, 4, 1)] = true) ∧
    (let fwd (op n : Nat) : Bool :=
      let ws := words 3 op 0 0x100000000 (ref 0 false) (ref 0 true) 0 0
      good (engineRuns 24 ws l) 24 (jobAt 24 ws) 3 4 (fftPlan (engineRuns 24 ws l) (jobAt 24 ws)) [(2, n, 1)]
     let inv (op : Nat) : Bool :=
      let ws := words 3 op 0 0x100000000 (ref 0 true) (ref 0 false) 0 0
      good (engineRuns 24 ws l) 24 (jobAt 24 ws) 3 4 (fftPlan (engineRuns 24 ws l) (jobAt 24 ws)) [(3, 4, 1)]
     (fwd 0 68 && inv 1 && fwd 2 64 && inv 3) = true) ∧
    (let ws := words 4 0 0x100000 0x10000 (ref 0 false) (ref 0 true) 0 0
     good (engineRuns 27 ws []) 27 (jobAt 27 ws) 4 1 (praPlan (jobAt 27 ws)) [(2, 556, 1)] = true) := by decide +kernel

theorem witness_CodingJobsWriteTheirOutputs :
    (let ws := words 5 0 0x200201 0xC00040000 (ref 0 false) (ref 0 true) (ref 1 true) 0
     good (engineRuns 40 ws []) 40 (jobAt 40 ws) 5 1 (lddPlan (jobAt 40 ws)) [] = true ∧
      (match ((jobAt 40 ws).readSoft 2 ((10 - 2 + 4) * 2) [0] (engineRuns 40 ws [])).1 with | .ok _ => true | .error _ => false) = true) ∧
    (let ws := words 8 0 1 0x2800000000 (ref 0 false) (ref 0 true) (ref 1 true) 0
     good (engineRuns 57 ws []) 57 (jobAt 57 ws) 8 1 (trbPlan (jobAt 57 ws)) [(2, 196, 1)] = true) ∧
    (let ws := words 6 0 0x200004 24 (ref 0 false) (ref 0 true) 0 0
     good (engineRuns 47 ws []) 47 (jobAt 47 ws) 6 2 (ldePlan (jobAt 47 ws)) [(2, 3, 1)] = true ∧ ldpcSegment true 24 = some (1, 40, 7)) ∧
    (let ws := words 6 1 0 16 (ref 0 false) (ref 0 true) 0 0
     good (engineRuns 47 ws []) 47 (jobAt 47 ws) 6 2 (ldePlan (jobAt 47 ws)) [(2, 2, 1)] = true ∧ turboSegment (16 + 24) = (1, 40, 0, 0)) ∧
    (let ws := words 7 0 0 0x2000000001 (ref 0 false) (ref 0 true) 0 0
     good (engineRuns 52 ws []) 52 (jobAt 52 ws) 7 2 (plrPlan (jobAt 52 ws)) [(2, 1, 1)] = true) ∧
    (let ws := words 7 1 0 0x200000000C (ref 0 false) (ref 0 true) 0 0
     good (engineRuns 52 ws []) 52 (jobAt 52 ws) 7 2 (plrPlan (jobAt 52 ws)) [(2, 32, 1)] = true) := by decide +kernel

theorem witness_RateMatchingAndCombining :
    (let ws := words 9 0 0x208000 0xC00000002 0x20000 (ref 0 false) (ref 0 true) 0
     good (engineRuns 66 ws []) 66 (jobAt 66 ws) 9 4 (hqPlan (jobAt 66 ws)) [(3, 13, 1)] = true ∧ (hqOf (jobAt 66 ws)).cInit = 0) ∧
    (let ws := words 9 1 0x8000 0x2800000002 0 (ref 0 false) (ref 0 true) 0
     good (engineRuns 66 ws []) 66 (jobAt 66 ws) 9 4 (hqPlan (jobAt 66 ws)) [(3, 17, 1)] = true) ∧
    (let ws := words 9 2 0xA08000 0xC00000002 0x20000 (ref 0 false) (ref 0 true) 0
     good (engineRuns 66 ws []) 66 (jobAt 66 ws) 9 4 (hqPlan (jobAt 66 ws)) [(3, 2, 1)] = true ∧
      (match ((jobAt 66 ws).oldBanks (hqOf (jobAt 66 ws)) (hqOf (jobAt 66 ws)).blocks (engineRuns 66 ws [])).1 with
        | .ok l => decide (l.length = 1) | .error _ => false) = true) ∧
    (let ws := words 9 3 0x808000 0x2800000002 0 (ref 0 false) (ref 0 true) 0
     good (engineRuns 66 ws []) 66 (jobAt 66 ws) 9 4 (hqPlan (jobAt 66 ws)) [(3, 2, 1)] = true) := by decide +kernel

/-! ## AIR and Tysar (09) -/

/-- Channel `c` holds one entry; its core holds the task that the entry names, and the map at `jobBase` has both resource
elements under code `code`. -/
def airHolds (c code : Nat) (w : List Nat) (l : List (Nat × Nat)) : State :=
  { regs ([(DRC_WIN 0, 0x80000080), (DRC_WIN_SIZE 0, 64)] ++ l) with
    mem := memPutAll [] jobBase [BitVec.ofNat 8 (code * 17)]
    cores := (Vector.replicate 72 Core.cold).setIfInBounds c { Core.cold with taskValid := true, taskIndex := 77, taskAttempt := 2 }
    air := (Vector.replicate 72 ⟨0, [], none⟩).setIfInBounds c ⟨1, [w], none⟩ }

/-- An entry: op, n 2, a dense map at `jobBase`, the planes, outputs and scales behind it, owned as in `airHolds`. -/
def entry (op w0 a5 : Nat) : List Nat :=
  [2 ^ 40 + op * 2 ^ 24 + 2 ^ 13 + w0, 2 * 2 ^ 32, jobBase, jobBase + 0x1000, jobBase + 0x2000, a5, 2 * 2 ^ 24 + 77, 0]

theorem halves (code : Fin 16) : ∀ k < 2, [code.val, code.val][k]? = some
    (if k % 2 = 0 then ([BitVec.ofNat 8 (code.val * 17)].getD (k / 2) 0).toNat % 16
      else ([BitVec.ofNat 8 (code.val * 17)].getD (k / 2) 0).toNat / 16) := by
  revert code; decide

theorem mapCodes (c : Nat) (code : Fin 16) (w : List Nat)
    (h : (((airHolds c code w []).memRead ((airHolds c code w []).airAgent c) jobBase 1).1 = .ok [BitVec.ofNat 8 (code.val * 17)]))
    (h1 : AirJob.dense ⟨c, w⟩ = true) (h2 : AirJob.n ⟨c, w⟩ = 2) (h3 : AirJob.addr ⟨c, w⟩ 2 = jobBase) :
    (airHolds c code w []).MapCodes ⟨c, w⟩ 0 [code, code] := by
  unfold State.MapCodes
  simp only [h1, if_true, h2, h3, Nat.zero_mul, Nat.add_zero]
  exact ⟨_, h, rfl, halves code⟩

theorem witness_ProducerStoresFetchEntries :
    let ring := jobBase + 0x10000
    let s := regs [(DRC_WIN 0, 0x80000080), (DRC_WIN_SIZE 0, 64), (airReg 71 (AIR_CH_RING_LO 0), 0x80010000),
      (airReg 71 (AIR_CH_RING_LO 0) + 4, 0x100), (airReg 71 (AIR_CH_CTL 0), 0x80000000), (airReg 71 (AIR_CH_FETCH 0), 0xFFFFFFFF)]
    let stored := s.memWrite (s.agent P) (ring + 1024) (toBytes 4 1)
    s.NoErrors ∧ s.airRing 71 = ring ∧ ring + 2048 ≤ hostBase ∧ stored.1 = true ∧
    (stored.2.memRead ⟨.truss, 0, true⟩ (ring + 1024) 4).1 = .ok (toBytes 4 1) ∧
    (∀ d < 72, d ≠ 71 → s.airOn d = true → s.airRing d ≠ ring) ∧ s.airOn 71 = true ∧ s.airFetch 71 = 0xFFFFFFFF ∧
    sub32 1 (s.airFetch 71) = 2 ∧ 2 + (s.airCh 71).jobs.length ≤ 16 ∧
    (∀ i < 2, (s.memRead (s.airAgent 71) (ring + 64 * ((s.airFetch 71 + i) % 16)) 64).1 = .ok (List.replicate 64 0)) ∧
    (let u := { s with air := s.air.setIfInBounds 71 ⟨0, List.replicate 15 [], none⟩ }
     (u.airCh 71).jobs.length ≤ 16 ∧ 16 < sub32 1 (u.airFetch 71) + (u.airCh 71).jobs.length) ∧
    State.reset.airOn 71 = false := by
  refine ⟨⟨rfl, rfl, rfl⟩, ?_⟩
  decide +kernel

/-- A map, a demapping, a MEASURE and a LOAD over two QPSK elements, the job of another attempt, one refused, and a map with
a reserved code. -/
theorem witness_AirMapsAndDemaps :
    let j0 : AirJob := ⟨71, entry 0 0 0⟩
    let j1 : AirJob := ⟨71, entry 1 0 (jobBase + 0x3000)⟩
    let s0 := airHolds 71 2 j0.w []
    let s1 := airHolds 71 2 j1.w []
    (s0.AirJobOf j0 ∧ s0.AirOwned j0 ∧ j0.check = 0 ∧ j0.op = 0 ∧ j0.symbols = 1 ∧ s0.MapCodes j0 0 [2, 2] ∧ j0.goodMap [2, 2] ∧
      (s0.memRead (s0.airAgent 71) (j0.addr 3 + j0.start / 8) 1).1 = .ok [0] ∧ j0.addr 2 < 0x7F0000000000 ∧
      (s0.putAll (s0.airAgent 71) [(j0.addr 4, [0, 0, 0, 0]), (j0.addr 4 + 4, [0, 0, 0, 0])]).1 = none) ∧
    (s1.AirJobOf j1 ∧ s1.AirOwned j1 ∧ j1.check = 0 ∧ j1.op = 1 ∧ s1.MapCodes j1 0 [2, 2] ∧
      (s1.memRead (s1.airAgent 71) (j1.addr 3) 8).1 = .ok (List.replicate 8 0) ∧ j1.addr 5 ≠ 0 ∧ j1.addr 5 < 0x7F0000000000 ∧
      (s1.memRead (s1.airAgent 71) (j1.addr 5) 2).1 = .ok [0, 0]) ∧
    (let j : AirJob := ⟨71, (entry 0 0 0).set 6 (3 * 2 ^ 24 + 77)⟩
     (airHolds 71 2 j.w []).AirJobOf j ∧ ¬(airHolds 71 2 j.w []).AirOwned j) ∧
    (let j : AirJob := ⟨71, entry 0 1 0⟩
     (airHolds 71 2 j.w []).AirJobOf j ∧ (airHolds 71 2 j.w []).AirOwned j ∧ j.check = 0x11) ∧
    (let s := airHolds 71 14 j0.w []
     s.AirJobOf j0 ∧ s.AirOwned j0 ∧ s.MapCodes j0 0 [14, 14] ∧ ¬j0.goodMap [14, 14]) := by
  refine ⟨⟨⟨⟨rfl, rfl, rfl⟩, by decide +kernel⟩, by unfold State.AirOwned; decide +kernel, by decide +kernel, by decide +kernel, by decide +kernel,
      mapCodes 71 2 _ (by decide +kernel) (by decide +kernel) (by decide +kernel) (by decide +kernel), ⟨rfl, by decide, by decide⟩,
      by decide +kernel, by decide +kernel, by decide +kernel⟩,
    ⟨⟨⟨rfl, rfl, rfl⟩, by decide +kernel⟩, by unfold State.AirOwned; decide +kernel, by decide +kernel, by decide +kernel,
      mapCodes 71 2 _ (by decide +kernel) (by decide +kernel) (by decide +kernel) (by decide +kernel), by decide +kernel⟩,
    ⟨⟨⟨rfl, rfl, rfl⟩, by decide +kernel⟩, by unfold State.AirOwned; decide +kernel⟩,
    ⟨⟨⟨rfl, rfl, rfl⟩, by decide +kernel⟩, by unfold State.AirOwned; decide +kernel, by decide +kernel⟩,
    ⟨⟨⟨rfl, rfl, rfl⟩, by decide +kernel⟩, by unfold State.AirOwned; decide +kernel,
      mapCodes 71 14 _ (by decide +kernel) (by decide +kernel) (by decide +kernel) (by decide +kernel), ?_⟩⟩
  intro h
  exact h.2.1 (by decide)

theorem witness_AirMeasuresAndLoads :
    let j2 : AirJob := ⟨71, entry 2 0 (jobBase + 0x3000)⟩
    let j3 : AirJob := ⟨71, entry 3 0x10 0⟩
    let s2 := airHolds 71 2 j2.w []
    let s3 := airHolds 71 1 j3.w []
    (s2.AirJobOf j2 ∧ s2.AirOwned j2 ∧ j2.check = 0 ∧ j2.op = 2 ∧ s2.MapCodes j2 0 [2, 2] ∧ j2.goodMap [2, 2] ∧ j2.symbols = 1 ∧
      j2.addr 5 ≠ 0 ∧ (s2.memRead (s2.airAgent 71) (j2.addr 5) 1).1 = .ok [0] ∧
      (s2.memRead (s2.airAgent 71) (j2.addr 4) 16).1 = .ok (List.replicate 16 0) ∧
      (s2.memRead (s2.airAgent 71) (j2.addr 3) 8).1 = .ok (List.replicate 8 0)) ∧
    (s3.AirJobOf j3 ∧ s3.AirOwned j3 ∧ j3.check = 0 ∧ j3.op = 3 ∧ s3.MapCodes j3 0 [1, 1] ∧ j3.goodMap [1, 1] ∧
      (s3.memRead (s3.airAgent 71) (j3.addr 3) 16).1 = .ok (List.replicate 16 0)) :=
  ⟨⟨⟨⟨rfl, rfl, rfl⟩, by decide +kernel⟩, by unfold State.AirOwned; decide +kernel, by decide +kernel, by decide +kernel,
      mapCodes 71 2 _ (by decide +kernel) (by decide +kernel) (by decide +kernel) (by decide +kernel),
      ⟨rfl, by decide, by decide⟩, by decide +kernel⟩,
    ⟨⟨⟨rfl, rfl, rfl⟩, by decide +kernel⟩, by unfold State.AirOwned; decide +kernel, by decide +kernel, by decide +kernel,
      mapCodes 71 1 _ (by decide +kernel) (by decide +kernel) (by decide +kernel) (by decide +kernel),
      ⟨rfl, by decide, by decide⟩, by decide +kernel⟩⟩

theorem witness_AirCompletesPurgesAndSwaps :
    let s := airHolds 71 2 (entry 0 0 0) []
    let u := { s with air := s.air.setIfInBounds 71 ⟨1, [entry 0 0 0], some (0, 3, 100)⟩ }
    ((u.airCh 71).jobs = [entry 0 0 0] ∧ (u.airCh 71).result = some (0, 3, 100)) ∧ (s.airCh 71).result = none ∧ s.NoErrors ∧
    ((State.reset.airCh 71).jobs = [] ∧ ∀ cyc : Nat → Nat, (State.reset.putAll (State.reset.airAgent 71)
      ((List.range 0).map fun i => (0, toBytes 8 (cyc i)))).1 = none) ∧
    State.reset.flag AIR_STAT 6 = true ∧ (regs [(AIR_STAT, 0x230033)]).flag AIR_STAT 6 = false :=
  ⟨⟨rfl, rfl⟩, rfl, ⟨rfl, rfl, rfl⟩, ⟨rfl, fun _ => rfl⟩, by decide +kernel, by decide +kernel⟩

theorem witness_TysarSendsAndJoins :
    let s := regs [(TYS_CTL, 1), (TYS_LINK_CFG 3, 0x80000000), (TYS_PLAN 3 15, 0x3F01), (TYS_PLAN 3 14, 3), (TYS_JOIN_CTL, 0x30001),
      (TYS_JOIN_STAT, 1), (RDG_CAR_CFG 0, 0x80000003)]
    s.tysOn 3 0 = true ∧ s.tysKind 3 15 = 1 ∧ s.tysPlanPeer 3 15 = 63 ∧ s.tysKind 3 0 ≠ 1 ∧ s.tysJoinState = 1 ∧
    s.fld TYS_JOIN_CTL 17 16 = 3 ∧ takes s P TYS_JOIN_CTL 0x80000002 = true ∧ takes s P TYS_JOIN_CTL 0x40000002 = true ∧
    (s.joinFrame 3).isSome = true ∧ (regs [(TYS_CTL, 1), (TYS_LINK_CFG 3, 0x80000000), (RDG_CAR_CFG 0, 0x80000003)]).joinFrame 3 = none ∧
    (regs [(TYS_CTL, 1), (TYS_LINK_CFG 3, 0x80000000), (RDG_CAR_CFG 0, 0x80000001)]).tysOn 3 0 = false ∧
    (regs [(TYS_JOIN_STAT, 2)]).tysJoinState = 2 ∧ State.reset.tysJoinState ≠ 2 := by decide +kernel

/-- A sync word with so many sign errors, its RSSI, its distance from the window's centre, and its sample. -/
abbrev sync (errors rssi offset sample : Nat) : SyncWord :=
  ⟨BitVec.ofNat 7 errors, 0xFFFF, BitVec.ofNat 16 rssi, 0, 0, 0, BitVec.ofNat 32 offset, 0, BitVec.ofNat 32 sample⟩

/-- An RX position of link 3 with peer 63, whose header names node 5 and table version 7. -/
theorem witness_TysarReceivesAndMeasures :
    let rx (x : TysRx) : State :=
      { regs [(TYS_CTL, 1), (TYS_LINK_CFG 3, 0x80000000), (TYS_PLAN 3 15, 0x3F02), (TYS_PEER_CFG 63, 0xB0000005),
          (TYS_PEER_RXV 63, 0x10007), (RDG_NODE_ID, 9), (TYS_LINK_RF 3, 1000), (TYS_LINK_WIN 3, 1), (RDG_CAR_CFG 0, 0x80000003)] with
        tys := { Tys.cold with rx := (Vector.replicate 4 ⟨0, none, false, none, 0, 0, false⟩).setIfInBounds 3 x } }
    let idle : TysRx := ⟨0, none, false, none, 0, 0, false⟩
    let busy : TysRx := ⟨15, some (sync 0 0 0 0), false, none, 0, 0, false⟩
    let s := rx idle
    let b := rx busy
    let w0 (dst type : Nat) : Nat := 7 * 2 ^ 24 + type * 2 ^ 20 + dst * 2 ^ 10 + 5
    let crc (w : Nat) : Nat := crc32c ([w, 0, 0].flatMap (toBytes 8))
    (s.tysOn 3 0 = true ∧ 2 ≤ s.tysKind 3 15 ∧ (s.tysRx 3).w = none ∧ (sync 0 0 0 0).signErrors.toNat ≤ s.fld TYS_SYNC_CFG 21 16 ∧
      s.fld TYS_SYNC_CFG 15 0 ≤ (sync 0 0 0 0).peakQ88.toNat) ∧
    (let inWin (w : SyncWord) : Prop := w.offset.toInt.natAbs * 1536 ≤ 16 * s.fld (TYS_LINK_WIN 3) 3 0 * 12500
     inWin (sync 0 0 130 0) ∧ ¬inWin (sync 0 0 131 0)) ∧ s.girt.awaiting = [] ∧
    ¬(sync 127 0 0 0).signErrors.toNat ≤ s.fld TYS_SYNC_CFG 21 16 ∧
    (b.tysOn 3 0 = true ∧ b.tysRx 3 = busy) ∧
    (let d := 4 * min 20 (b.fld TYS_CAPTURE_DB 4 0)
     (sync 0 0 0 0).rssi.toInt + (d : Int) ≤ (sync 0 d 0 1).rssi.toInt ∧
      ¬(sync 0 0 0 0).rssi.toInt + (d : Int) ≤ (sync 0 (d - 1) 0 1).rssi.toInt ∧ 0 < d ∧
      (sync 0 d 0 1).sample ≠ (sync 0 0 0 0).sample ∧ (rx { busy with abandoned := true }).tysRx 3 = { busy with abandoned := true }) ∧
    (let u := { b with girt := { b.girt with awaiting := [(0, 60, 2)] } }
     u.tysFlow 0 = some 3 ∧ 60 / 4 = busy.f.toNat % 2 ^ 30 ∧ busy.header = none) ∧
    (crc (w0 9 0) < 2 ^ 32 ∧ crc (w0 9 0) ≠ 0 ∧
      ((List.range 64).find? fun p => b.flag (TYS_PEER_CFG p) 31 && b.fld (TYS_PEER_CFG p) 29 28 == 3 &&
        b.fld (TYS_PEER_CFG p) 9 0 == 5) = some 63 ∧ b.flag (TYS_PEER_RXV 63) 16 = true ∧ b.fld (TYS_PEER_RXV 63) 7 0 = 7 ∧
      b.fld RDG_NODE_ID 9 0 = 9 ∧ s.tysKind 3 0 ≠ 3) ∧
    (regs [(TYS_PLAN 3 15, 3)]).tysKind 3 15 = 3 ∧
    (let n := regs [(TYS_CTL, 1), (TYS_LINK_CFG 3, 0xC0000000), (RDG_CAR_CFG 0, 0x80000001)]
     let apart (a : Nat) : Prop := 16 * (n.shape (n.tysCarrier 3)).len ≤ ((sync 0 0 0 a).sample - (sync 0 0 0 0).sample).toInt.natAbs
     n.tysOn 3 1 = true ∧ apart (16 * (n.shape (n.tysCarrier 3)).len) ∧ ¬apart (16 * (n.shape (n.tysCarrier 3)).len - 1)) ∧
    (let j := { (b.setReg TYS_JOIN_STAT 2).setReg TYS_JOIN_CTL 0x30001 with tys := { b.tys with joinAt := 14 } }
     j.tysJoinState = 2 ∧ j.fld TYS_JOIN_CTL 17 16 = 3 ∧ j.tysRx 3 = busy ∧ j.fld RDG_NODE_ID 9 0 = 9 ∧ bitsOf (w0 9 2) 23 20 = 2 ∧
      bitsOf (w0 9 2) 19 10 = 9 ∧ (busy.f.toNat + 2 ^ 30 - j.tys.joinAt % 2 ^ 30) % 2 ^ 30 = 1) := by decide +kernel

/-! ## Loft, check bits and DRAM (10, 11) -/

/-- The example of R275: 0xA5 with d5 flipped reads 0x85, and is returned as 0xA5 with bit 5 reported. -/
theorem test_ecc_example : eccDecode 0xA5 0x20 = .corrected 0xA5 5 := by decide +kernel

theorem witness_MemoryIsDividedAndScrubbed :
    takes (regs [(LFT_WIN_SIZE 63, 1)]) P (LFT_WIN 63) 0x80000000 = true ∧
    takes (regs [(LFT_WIN_SIZE 63, 1)]) P (LFT_WIN_SIZE 63) 768 = true ∧
    (regs [(PLN_CTL, 0)]).walks 3 = false ∧
    (let at' (m pos : Nat) : State := { regs [(PLN_CTL, 1)] with loft := { Loft.cold with walker := [(m, pos)] } }
     (at' 3 0).walks 3 = true ∧ ¬memBytes 3 ≤ scrubLen 3 * 1 ∧
     (at' 47 0x3FFF).walks 47 = true ∧ memBytes 47 ≤ scrubLen 47 * 0x4000 ∧ ¬memBytes 47 ≤ scrubLen 47 * 0x3FFF ∧
     (∀ x ∈ groupMems 0, x ≠ 47 → x ∈ List.range 47) ∧
     (at' 200 5).walks 200 = true ∧ (at' 327 5).walks 327 = true) ∧
    (let k := memFirst 3 + 63
     memFirst 3 ≤ k ∧ k < memFirst 3 + scrubLen 3 ∧ eccDecode 0 5 = .bad) ∧
    (let w := memFirst 59 + 16
     ([w].find? fun x => sramNo x == 59) = some w ∧ w % 16 = 0 ∧ (0 : Nat) < spares 59 ∧ spares 59 ≤ 8) := by decide +kernel

theorem witness_DramIsDividedAndKept :
    let s := regs [(DRC_WIN_SIZE 31, 1), (DRC_SR_KEEP 0, 0), (DRC_WIN 30, 0xC0000000), (DRC_WIN_SIZE 30, 1), (DRC_SR_KEEP 1, 0xFFFF)]
    takes s P (DRC_WIN 31) 0x80000DFF = true ∧ takes s P (DRC_WIN_SIZE 31) 4096 = true ∧ takes s P (DRC_SR_KEEP 1) 0 = true ∧
    (s.dram.ranks = 1 ∨ s.dram.ranks = 2) ∧ (s.gateOf P 0x1C0 = .open ∧ (fieldsAt (DRC_WIN 31)).isSome = true) ∧ s.flag (DRC_WIN 31) 31 = false ∧
    s.flag (DRC_SR_KEEP 0) 0 = false ∧ ¬s.dramU / 32 ≤ 0 * 0x1000000 ∧ ¬(0 + 1) * 0x1000000 ≤ 0 * (s.dramU / 2) ∧
    s.flag (DRC_WIN 30) 31 = true ∧ s.flag (DRC_WIN 30) 30 = true ∧ s.turnsDown P (DRC_SR_KEEP 0) 0 = true := by decide +kernel

theorem witness_DramServesRequestsAndFails :
    let s := regs [(DRC_WIN 0, 0x80000080), (DRC_WIN_SIZE 0, 64)]
    let a := dramBase + s.dramU - 64
    let c := (s.dramMap (s.dramU - 64)).2.1
    let ag := s.agent P
    let w : DramEntry := ⟨P, BitVec.ofNat 48 dramBase, 8, true, List.replicate 8 0, [], 0, 0, 0⟩
    let r : DramEntry := ⟨P, BitVec.ofNat 48 dramBase, 8, false, List.replicate 8 0, [(0, 3)], 0, 0, 0⟩
    let ch (x : DramCh) : State := { s with dram := ⟨(Vector.replicate 16 DramCh.cold).setIfInBounds 15 x, [], false, 2⟩ }
    (dramBase ≤ a ∧ a + 64 ≤ dramBase + s.dramU ∧ (a - dramBase) / 256 = (a - dramBase + 63) / 256) ∧ c = 15 ∧
    (ag.free = true ∧ s.islandUp 4 = true ∧ s.dram.wipedSegs = [] ∧ s.flag DRC_STAT c = false) ∧
    (s.dram.selfRefresh = false ∧ (s.dramCh c).queue = [] ∧ (s.dramCh c).waiting = []) ∧
    ((State.reset.agent (.core 0)).free = false ∧ (regs [(DRC_WIN 0, 0)]).inDramWindows 0 0 64 = false) ∧
    (regs [(DRC_STAT, 0x8000)]).flag DRC_STAT 15 = true ∧
    (let x := (ch { DramCh.cold with queue := [r] }).dramCh 15
     x.writing = false ∧ x.waiting = [] ∧ x.queue = [r] ∧ tget? x.openRow r.bank ≠ some r.row ∧
      r.errs = [(0 / 8 * 8, BitVec.ofNat 72 (2 ^ 0 + 2 ^ 1))] ∧ s.flag DRC_CFG 31 = true) ∧
    (let x := (ch { DramCh.cold with queue := [w] }).dramCh 15
     x.writing = false ∧ 0 < x.writes ∧ x.reads = 0) ∧
    (let x := (ch { DramCh.cold with queue := [w, r], writing := true }).dramCh 15
     x.writing = true ∧ x.waiting = [] ∧ (x.queue.find? fun z => !z.write) = some r) ∧
    (s.flag DRC_STAT 15 = false ∧ s.flag (DRC_CH_STAT 15) 8 = false) ∧
    (regs [(DRC_CH_STAT 15, 0x100)]).flag (DRC_CH_STAT 15) 8 = true := by decide +kernel

/-! ## Skid channels and lanes (12, 13) -/

/-- Channel 63 in a state, with registers set, over the DRAM window of Bay 0. -/
abbrev skid (st : Nat) (x : SkidChan) (l : List (Nat × Nat)) : State :=
  { regs ([(DRC_WIN 0, 0x80000080), (DRC_WIN_SIZE 0, 64), (SKD_CH_STAT 63, st)] ++ l) with
    skid := (Vector.replicate 64 ⟨none, none, 0, 0, 0, [], false⟩).setIfInBounds 63 x }

/-- A fill of one row of 16 bytes at `jobBase` + 0x1000, whose descriptor lies at `jobBase`. -/
abbrev fillDesc : SkidDesc :=
  ⟨BitVec.ofNat 48 jobBase, [0x1000000000000000, BitVec.ofNat 64 (jobBase + 0x1000), 16, 0, 0, 0x0807060504030201, 0, 0], none, false⟩

/-- A copy of two rows of 16 bytes, each 64 bytes after the row before. -/
abbrev copyDesc : SkidDesc :=
  ⟨BitVec.ofNat 48 jobBase, [BitVec.ofNat 64 (jobBase + 0x2000), BitVec.ofNat 64 (jobBase + 0x1000), 0x100000010, 0x4000000040, 0, 0, 0, 0],
    none, false⟩

/-- A Frame submission. -/
abbrev frameDesc : SkidDesc :=
  ⟨BitVec.ofNat 48 jobBase, [BitVec.ofNat 64 (0x2 * 2 ^ 60 + jobBase + 0x1000), 5, 0, 0, 0, 0, 0, 0], none, false⟩

theorem witness_SkidChannelsChangeState :
    let idle : SkidChan := ⟨none, none, 0, 0, 0, [], false⟩
    let at' (d : SkidDesc) (phase : Nat) : SkidChan := ⟨some d, none, phase, 0, 0, [], false⟩
    let err (k : Nat) := [(SKD_CH_ERR_HI 63, 2 ^ 31 + k * 2 ^ 19)]
    takesAll State.reset [(SKD_CH_CTL 63, 0x80000000), (SKD_CH_CTL 63, 0x40000000), (SKD_CH_CTL 63, 0x20000000),
      (SKD_CH_CTL 63, 0x10000000), (SKD_CH_CTL 63, 0x08000000)] = true ∧
    State.reset.skidSt 63 = 0 ∧
    (let s := skid 1 (at' fillDesc 1) []
     s.skidSt 63 = 1 ∧ s.skidHeldBack = false ∧ (s.skidCh 63).cur = some fillDesc) ∧
    ((skid 0x20000003 idle []).skidSt 63 = 3 ∧ (skid 0x20000003 idle []).flag (SKD_CH_STAT 63) 29 = true ∧
      (skid 2 idle []).flag (SKD_CH_STAT 63) 29 = false) ∧
    (let e : OnChip := ⟨.skid 63, 5, 0, [], false, none⟩
     let s := { skid 2 (at' frameDesc 2) [] with truss := { Truss.cold with onChip := [e] } }
     frameDesc.op = 2 ∧ s.skidOffer 63 = some e) ∧
    (let s := skid 4 (at' fillDesc 2) (err 0)
     s.skidSt 63 = 4 ∧ s.fld (SKD_CH_ERR_HI 63) 21 19 = 0 ∧ s.flag (SKD_CH_STAT 63) 30 = false ∧ (s.skidCh 63).cur = some fillDesc) ∧
    (let d : SkidDesc := { fillDesc with w := fillDesc.w.set 6 1 }
     let s := skid 4 (at' d 0) (err 2)
     s.skidSt 63 = 4 ∧ s.fld (SKD_CH_ERR_HI 63) 21 19 = 2 ∧ (s.skidCh 63).cur = some d ∧ d.fetchErr = false ∧ s.skidCheck 63 d ≠ 0) ∧
    (let s := regs [(SKD_CH_TRIG 63, 0x2003F)]
     s.fld (SKD_CH_TRIG 63) 17 16 = 2 ∧ s.fld (SKD_CH_TRIG 63) 5 0 = 63 ∧ s.owner (skidPage 63) = s.owner (skidPage 63)) := by
  decide +kernel

theorem witness_SkidRunsDescriptors :
    let cur := [(SKD_CH_CUR_LO 63, 0x80000000), (SKD_CH_CUR_LO 63 + 4, 0x100)]
    let idle : SkidChan := ⟨none, none, 0, 0, 0, [], false⟩
    let s := { skid 2 idle cur with mem := memPutAll [] jobBase (fillDesc.w.flatMap fun (w : BitVec 64) => toBytes 8 w.toNat) }
    let r (d : SkidDesc) : State := skid 2 ⟨some d, none, 2, 0, 0, [], false⟩ []
    let ag := s.skidAgent 63
    (s.skidSt 63 = 2 ∧ (s.skidCh 63).cur = none ∧ s.wide (SKD_CH_CUR_LO 63) / 64 * 64 = jobBase ∧
      (match (s.memRead ag jobBase 64).1 with
        | .ok bs => decide ((List.range 8).map (fun i => BitVec.ofNat 64 (wordAt bs i)) = fillDesc.w) | .error _ => false) = true ∧
      s.skidCheck 63 fillDesc = 0 ∧ fillDesc.f 0 57 57 = 0 ∧ fillDesc.op = 1) ∧
    (let d : SkidDesc := { fillDesc with w := fillDesc.w.set 0 0x1200000000000000 }
     s.skidCheck 63 d = 0 ∧ d.f 0 57 57 = 1 ∧ s.flag (SKD_CH_STAT 63) 29 = false) ∧
    (match ((skid 2 idle []).memRead ((skid 2 idle []).skidAgent 63) 0 64).1 with | .ok _ => false | .error _ => true) = true ∧
    (s.skidCheck 63 { fillDesc with w := fillDesc.w.set 6 1 } = 1) ∧
    (let x := (r fillDesc).skidCh 63
     (r fillDesc).skidSt 63 = 2 ∧ x.cur = some fillDesc ∧ x.phase = 2 ∧ x.pos = 0 ∧ x.held = [] ∧ x.nxt = none ∧ 0 < fillDesc.len ∧
      (r fillDesc).truss.frames = [] ∧ fillDesc.rows = 1 ∧ dramBase ≤ fillDesc.dst ∧ fillDesc.dst + 16 ≤ hostBase ∧
      ((r fillDesc).memWrite ag fillDesc.dst (List.replicate 16 0)).1 = true ∧ (r fillDesc).flag (SKD_CH_CTL 63) 12 = false ∧
      fillDesc.beats = [(fillDesc.dst, 0, 16)]) ∧
    (copyDesc.op = 0 ∧ copyDesc.rows = 2 ∧ copyDesc.len = 16 ∧ copyDesc.f 3 63 32 = 64 ∧
      overlaps copyDesc.extents.1 copyDesc.extents.2 = false ∧
      (∀ k < 2, ((r copyDesc).memWrite ag (copyDesc.dst + 64 * k) (List.replicate 16 0)).1 = true ∧
        ((r copyDesc).memRead ag (copyDesc.src + 64 * k) 16).1 = .ok (List.replicate 16 0))) ∧
    (regs [(SKD_CH_CTL 63, 0x1000)]).flag (SKD_CH_CTL 63) 12 = true ∧
    (let e : OnChip := ⟨.skid 63, 5, 0, [], true, some 0x4000000000000000⟩
     let u := { r frameDesc with truss := { Truss.cold with onChip := [e] } }
     u.skidOffer 63 = some e ∧ frameDesc.op = 2 ∧ (u.memWrite ag (frameDesc.src + 56) (toBytes 8 0x4000000000000000)).1 = true) := by
  decide +kernel

/-- Lane 47 with its table's first two entries, protocol ETH, and its quad's PLL locked or not. -/
abbrev lane (ctl stat : Nat) (locked : Bool) (l : List (Nat × Nat)) : State :=
  regs ([(laneCtl 47, ctl), (laneStat 47, stat), (laneReg 47 0x800, 0x000A0000), (laneReg 47 0x804, 0x10810001),
    (laneReg 47 0x808, 0x01F40001), (laneReg 47 0x80C, 0x20C2000D), (SCF_QUAD_STAT 44, if locked then 0x80000000 else 0)] ++ l)

/-- The worked entry of chapter 13: SIGDET succeeds into entry 2, and fails 4 times before 3. -/
theorem test_lane_entry :
    let s := next (execSeqActionSuccess 47 0 (lane 0x84000000 0x10000000 true []))
    s.laneSt 47 = 2 ∧ s.fld (laneStat 47) 24 20 = 1 := by decide +kernel

theorem witness_LanesRunTheirTables :
    let off := lane 0x04000000 0 true []
    let on := lane 0x84000000 0x20100000 true []
    let active := lane 0x84000000 0x60100000 true []
    (off.laneOn 47 = false ∧ off.laneTest 47 = false ∧ off.laneProto 47 = 1 ∧ off.laneFirst 47 = 47 ∧
      takes off P (laneCtl 47) 0x84000000 = true ∧ off.laneHeld 47 = false ∧ (lane 0x04000000 0 false []).laneHeld 47 = true) ∧
    (on.laneOn 47 = true ∧ on.laneTest 47 = false ∧ on.laneProto 47 = 1 ∧ takes on P (laneCtl 47) 0x04000000 = true ∧
      takes on P (laneCtl 47) 0xC4000000 = true ∧ takes on P (laneCtl 47) 0xA4000000 = true ∧ on.mayTest 47 = true) ∧
    ((lane 0xA4000000 0x80000000 true []).laneTest 47 = true ∧ takes (lane 0xA4000000 0x80000000 true []) P (laneCtl 47) 0x84000000 = true) ∧
    (takes off P (laneCtl 47) 0 = true ∧ takes State.reset P (laneCtl 55) 0x04000000 = true ∧
      (4 : Nat) * bitNat (State.reset.laneOn 55) = 0) ∧
    (lane 0x04000000 0x08000000 true []).flag (laneStat 47) 27 = true ∧
    (on.laneSteps 47 = true ∧ bitsOf (on.seqEntry 47 1) 59 54 = 3 ∧ bitsOf (on.seqEntry 47 1) 47 42 ≠ 0x3F ∧
      1 ≤ bitsOf (on.seqEntry 47 1) 63 60 ∧ on.actionOk 47 3 = true ∧ State.reset.laneSteps (State.reset.laneFirst 0) = false) ∧
    (active.laneSt 47 = 6 ∧ active.laneOn 47 = true ∧ off.laneSt 47 ≠ 6) ∧
    (on.pllLocked 11 = true ∧ (∀ k ∈ on.pllFirsts 11, ∀ j ∈ on.laneGroup k, j ∈ pllLanes 11) ∧
      (lane 0x84000000 0x10000000 false [(SCF_QUAD_CTL 44, 0x80000001)]).pllOn 11 = true ∧
      (lane 0x84000000 0x10000000 false []).pllLocked 11 = false ∧ State.reset.pllFailed 11 = false ∧ State.reset.pllOn 19 = false) ∧
    takesAll State.reset [(laneReg 0 0x200, 0x80000000), (laneReg 55 0x200, 0x80000000), (laneReg 55 0x240, 0x80000000)] = true ∧
    ((regs [(laneReg 55 0x200, 0x00080000), (laneReg 55 0x204, 0x80000000)]).flag (laneReg 55 0x204) 31 = true ∧
      (regs [(laneReg 55 0x240, 0x40000000)]).flag (laneReg 55 0x240) 30 = true) ∧
    (let h := regs [(HST_LINK_STAT 3, 0x80000000)]
     h.flag (HST_LINK_STAT 3) 31 = true ∧ (regs [(HST_LINK_STAT 3, 0)]).flag (HST_LINK_STAT 3) 31 ≠ true ∧
      (State.reset.hostLink 0).2 ≠ 0 ∧ State.reset.laneHost (State.reset.hostLink 0).1 = some 0 ∧
      State.reset.laneFirst (State.reset.hostLink 0).1 = (State.reset.hostLink 0).1) := by decide +kernel

/-! ## Girt, hosts and Bays (14) -/

/-- Flow group `g` of port 39: one stream of PRBs 10 and 11 in format 2, its plane in a Loft window of Bay 0, received or sent. -/
abbrev flow (tx : Nat) : List (BitVec 64) :=
  [BitVec.ofNat 64 (2 ^ 63 + tx * 2 ^ 62 + 39 * 2 ^ 40 + 2 * 2 ^ 36 + 6 * 2 ^ 32 + 3 * 2 ^ 24), BitVec.ofNat 64 (loftBase + 0x1000),
    BitVec.ofNat 64 (10 * 2 ^ 24 + 5), BitVec.ofNat 64 (2 * 2 ^ 16 + 10), 0x55]

/-- Port 39 runs; carrier 0 has started; the classifier and the flow groups hold what is listed. -/
abbrev girt (l : List (Nat × Nat)) (g : Girt) : State :=
  { regs ([(GRT_CTL, 1), (GRT_PORT_CFG 39, 0x803F0000), (GRT_FMT 2, 0x1109), (LFT_WIN 0, 0x80000000), (LFT_WIN_SIZE 0, 16),
      (laneCtl 55, 0x80000000), (laneStat 55, 0x60000000)] ++ l) with
    ridge := { Ridge.cold with cars := [(0, ⟨true, 0⟩)] }
    girt := g }

/-- A classifier key for the frame ID 0x55 on any port. -/
abbrev key55 : BitVec 64 := BitVec.ofNat 64 (63 * 2 ^ 58 + 0xFFF * 2 ^ 46 + 0x55)

/-- An action: its type, flow group, ring and wake bit. -/
abbrev action (ty fg ring wake : Nat) : BitVec 64 := BitVec.ofNat 64 (ty * 2 ^ 61 + wake * 2 ^ 57 + fg * 2 ^ 32 + ring * 2 ^ 16)

abbrev frame55 (l : List Section) : RxFrame := ⟨true, true, true, false, 0, 0, 0, 0x55, false, false, l, List.replicate 60 0⟩

/-- A section of PRBs 9 to 11 in BFP with 9 bits, for a symbol of the window's slot. -/
def sectionAt (s : State) (slot sym : Nat) : Section :=
  let (f, i) := s.frameSym 7 slot sym
  ⟨BitVec.ofNat 8 f, BitVec.ofNat 4 (i / 28), BitVec.ofNat 6 (i / 14 % 2), BitVec.ofNat 6 (i % 14), 9, 3, 1, 9, List.replicate 84 0⟩

theorem witness_GirtTakesFrames :
    let up (cls : List (Nat × BitVec 64 × BitVec 64)) (l : List (Nat × Nat)) : State :=
      girt l { Girt.cold with cls := cls, fgs := [(7, flow 0)] }
    let slot : BitVec 32 := 1862760904
    let w : Window := ⟨slot, 0, [], false⟩
    let s := up [(5, (key55, action 1 7 0 0))] []
    let open' (w : Window) : State := { s with girt := { s.girt with windows := [(7, w)] } }
    let data := [(GRT_CLS_DATA 0, 0x55), (GRT_CLS_DATA 1, 0xFFFFC000), (GRT_CLS_DATA 3, 0x40000000)]
    (takes (regs data) P GRT_CLS_CMD 0x1000FFFF = true ∧ takes (regs data) P GRT_CLS_CMD 0x2000FFFF = true ∧
      takes (regs data) P GRT_CLS_CMD 0x3000FFFF = true ∧ takes (regs data) P GRT_FG_CMD 0x10000FFF = true ∧
      takes (regs data) P GRT_FG_CMD 0x20000FFF = true ∧ takes (regs data) P GRT_FG_CMD 0x30000FFF = true) ∧
    (let nk := BitVec.ofNat 64 ((regs data).dataWord GRT_CLS_DATA 0)
     let na := BitVec.ofNat 64 ((regs data).dataWord GRT_CLS_DATA 1)
     actType na = 2 ∧ (regs data).girt.cls = [] ∧ keyParts key55.toNat = keyParts nk.toNat) ∧
    (takes s P (GRT_PORT_GCL 39) 0x80000000 = true ∧ takes s P (GRT_PORT_CFG 39) 0x803F0000 = true ∧ s.flag (GRT_PORT_CFG 39) 31 = true) ∧
    (s.portOn 39 = true ∧ s.portActive 39 = true ∧ State.reset.portOn 39 = false ∧ s.ingress 39 + 60 ≤ 0x40000 ∧
      (frame55 []).bytes.length ≤ 9216) ∧
    (s.keyFits key55 39 (frame55 []) ∧ ¬s.keyFits key55 39 { frame55 [] with id := 0x56 } ∧ s.girtHeld = false) ∧
    (actType (action 0 0 0 0) = 0 ∧ actType (action 3 0 0 0) = 3 ∧ actType (action 4 0 0 0) = 4 ∧
      (action 0 0 0 1).getLsbD 57 = true ∧ (regs [(PWR_DEV_STAT, 2)]).sleepState = true) ∧
    (let ring := [(GRT_RING_CTL 0 0 15, 0x80000000), (GRT_RING_LO 0 0 15, 0x40004), (GRT_RING_HI 0 0 15, loftBase / 2 ^ 32)]
     let u := up [(5, (key55, action 2 0 15 0))] ring
     let t := up [(5, (key55, action 2 0 15 0))] [(GRT_RX_PROD 0 15, 16)]
     u.flag (GRT_RING_CTL 0 0 15) 31 = true ∧ sub32 (u.reg (GRT_RX_PROD 0 15)) (u.reg (GRT_RX_CONS 0 15)) < (u.pktRing 0 0 15).2 ∧
      t.flag (GRT_RING_CTL 0 0 15) 31 = false ∧ (u.pktRing 0 0 15).1 = loftBase + 0x40000 ∧
      u.ringHeld (u.pktRing 0 0 15).1 = false ∧ (u.memRead (girtAgent 0) (loftBase + 0x40000) 32).1 = .ok (List.replicate 32 0) ∧
      (u.memWrite (girtAgent 0) (loftBase + 0x40000) (List.replicate 32 0)).1 = true) ∧
    (let x := sectionAt s 1862760904 0
     bitOf (s.fgWord 7 0) 63 = true ∧ bitOf (s.fgWord 7 0) 62 = false ∧ s.fgPrach 7 = false ∧ bitsOf (s.reg (GRT_FMT 2)) 15 12 = 1 ∧
      x.payload.length = x.numPrb.toNat * prbBytes 1 9 ∧ (open' w).sectionAhead 7 w x = 0 ∧
      x.subframeId.toNat < 10 ∧ x.slotId.toNat < s.fgSlots 7 ∧ x.symbolId.toNat < 14 ∧ s.sectionSound 7 x = true ∧
      s.sectionSound 7 { x with subframeId := 10 } = false ∧
      (open' w).sectionAhead 7 w (sectionAt s 1862760904 1) = 1 ∧
      (open' w).sectionAhead 7 { w with symbol := 1 } x < 0 ∧ (open' w).now < (open' w).closeTime 7 w ∧ s.fgCar 7 ∉ s.power.asleep ∧ tget? (open' w).girt.windows 7 = some w ∧ s.truss.frames = [] ∧
      s.fgFirstPrb 7 = 10 ∧ s.fgPrbs 7 = 2 ∧
      (∀ q ∈ [10, 11], ((open' w).girtPut 0 ((open' w).prbAddr 7 w 0 q) (List.replicate 48 0)).1 = true) ∧
      s.prbAddr 7 w 0 10 + 48 ≤ s.prbAddr 7 w 0 11) ∧
    (s.flag GRT_CTL 0 = true ∧ s.islandUp 3 = true ∧ s.carStarted 0 = true ∧ s.power.asleep = [] ∧ s.girt.lastWindow = [] ∧
      (s.shape 0).perSlot = 14) ∧
    (let w' : Window := ⟨1862760899, 0, [(0, 10)], false⟩
     (open' w').now ≥ (open' w').symTime 0 ((open' w').symNo 0 1862760899 0 2) + (open' w').fgOff 7 * (nsUnit : Int) ∧
      (open' w').closeTime 7 w' ≤ (open' w').now ∧ tget s.ridge.skipped 0 [] = [] ∧ s.fgStreams 7 = 1 ∧ s.lacks 7 w' 0 = [11]) := by
  and_intros <;> first | decide +kernel | (unfold State.keyFits; decide +kernel)

theorem witness_GirtSendsUnderGates :
    let slot : BitVec 32 := 1862760904
    let gates := [(GRT_PORT_GCL 39, 0x20000), (gclEntry 39 0 0, 0x40000000), (gclEntry 39 0 1, 0x80000000)]
    let g : Girt := { Girt.cold with fgs := [(7, flow 1)], cycleSym := [(39, (slot, 0))], marks := [(7, 0, 1862760904, 0)] }
    let s := girt gates g
    let no := s.symNo 0 1862760904 0 0
    (s.portOn 39 = true ∧ s.portAnchor 39 = 0 ∧ s.carStarted 0 = true ∧ s.symNo 0 1862760903 0 0 < no) ∧
    (tget s.girt.gate 39 0 + 1 < s.gclLen 39 ∧ s.girt.fgCnt = [] ∧
      s.anchorTime 39 1862760904 0 + (s.gclTime 39 1 : Int) * (nsUnit : Int) ≤ s.now ∧
      s.anchorTime 39 1862760904 0 + (s.gclTime 39 1 : Int) * (nsUnit : Int) <
        s.symTime 0 (s.symNo 0 1862760904 0 1) - (s.reg (GRT_PORT_ADV 39) : Int) * (nsUnit : Int)) ∧
    (State.reset.girt.cycleSym = [] ∧ s.portActive 39 = true ∧ (girt [(laneStat 55, 0)] g).portOn 39 = true) ∧
    (s.liveFgs 39 = [7] ∧ s.girt.sent = [] ∧ bitOf (s.gates 39) (s.fgClass 7) = true ∧ s.girtHeld = false ∧
      bitsOf (s.reg (GRT_FMT 2)) 15 12 ≠ 15 ∧ s.markFor 7 = some (7, 0, 1862760904, 0) ∧ s.fgStreams 7 = 1 ∧ 0 < s.fgPrbs 7 ∧
      (s.memRead (girtAgent 0) (s.fgBase 7) 96).1 = .ok (List.replicate 96 0) ∧ s.fgBase 7 + 96 ≤ hostBase) ∧
    (let x : TxItem := ⟨7, 6, 0, 0, 0, 0, 10, 2, []⟩
     let u := girt gates { g with txq := [(39, [x])] }
     (match u.gateEnd 39 6 with
        | none => true
        | some e => decide (u.now * u.portRate 39 + ((8 * x.bytes.length * nsUnit : Nat) : Int) ≤ e * u.portRate 39)) = true ∧
      tget? u.girt.txq 39 = some [x] ∧ x.cls < 8 ∧ bitOf (u.gates (u.fgPort x.fg)) x.cls = true ∧ tget u.girt.pktq 39 [] = []) ∧
    (let ring := [(GRT_RING_CTL 0 1 15, 0x80000000), (GRT_RING_LO 0 1 15, 0x40004), (GRT_RING_HI 0 1 15, loftBase / 2 ^ 32),
       (GRT_TX_PROD 0 15, 1)]
     let bs := toBytes 8 (loftBase + 0x50000) ++ toBytes 8 (6 * 2 ^ 24 + 39 * 2 ^ 16 + 20)
     let u := { girt (gates ++ ring) { g with pktq := [(39, [(0, 15, 0)])] } with mem := memPutAll [] (loftBase + 0x40000) bs }
     let t := { girt (gates ++ ring.take 3) g with mem := memPutAll [] (loftBase + 0x40000) bs }
     takes t P (GRT_TX_PROD 0 15) 1 = true ∧ t.reg (GRT_TX_CONS 0 15) = 0 ∧ t.flag (GRT_RING_CTL 0 1 15) 31 = true ∧
      t.girt.pktq = [] ∧ u.ringHeld (u.pktRing 0 1 15).1 = false ∧ (u.memRead (girtAgent 0) (loftBase + 0x40000) 16).1 = .ok bs ∧
      (u.memWrite (girtAgent 0) (loftBase + 0x40000) (List.replicate 8 0)).1 = true ∧ bitsOf (wordAt bs 1) 21 16 = 39 ∧
      u.reg (GRT_TX_PROD 0 15) = 1 ∧ bitOf (u.gates 39) (bitsOf (wordAt bs 1) 26 24) = true ∧
      (u.memRead (girtAgent 0) (loftBase + 0x50000) 20).1 = .ok (List.replicate 20 0)) := by
  decide +kernel

theorem witness_HostsAndBays :
    let s := regs [(HST_LINK_STAT 3, 0x30000), (bank 16 (HST_FN_CFG 3), 0x80000000), (BAY_HWIN_FN 0 3, 16)]
    let u := { s with life := { Life.cold with booted := true }, fns := [(fnKey 3 16, ⟨true, false, false, false, false⟩)] }
    let a := hostBase + 3 * 0x100000000000
    (takesAll State.reset [(HST_FN_CFG 3, 0x80000007), (BAY_IRQ 7, 0x80000310)] = true ∧ (0x80000310 : BitVec 32).getLsbD 31 = true) ∧
    (State.reset.linkL0 3 = false ∧ s.linkL0 3 = true ∧ s.life.booted = false ∧ u.life.booted = true) ∧
    ((u.agent (.skid 0)).bay = 0 ∧ u.fld (BAY_HWIN_FN 0 3) 4 0 = 16 ∧ u.fnBay 3 16 = 0 ∧ u.fnOn 3 16 = true ∧ (u.fn 3 16).bme = true ∧
      u.linkL0 3 = true ∧ isHost (.skid 0) = false ∧ hostBase ≤ a ∧ a + 64 ≤ hostBase + 0x400000000000 ∧
      (a + 63 - hostBase) / 0x100000000000 = 3 ∧ u.islandUp 3 = true ∧ (s.fn 3 16).bme = false) ∧
    (let q : HostNo × HostReq := (3, ⟨.skid 0, 16, 0, 64, 0⟩)
     [q].find? (fun y => y.1 == (3 : HostNo)) = some q ∧ ([] : List (HostNo × HostReq)).find? (fun y => y.1 == (3 : HostNo)) = none ∧
      (CplStatus.abort ≠ .ok)) ∧
    (u.gateOf (.host 3 16) 6 = .open ∧ u.gateOf (.host 3 16) 7 = .open ∧ u.gateOf (.host 3 16) (0x4000000 / 4096) = .open) ∧
    (u.life.inReset = false ∧ u.life.refclkLost = false ∧ u.pins.resetN = true ∧ u.flag TRS_STAT 0 = false ∧ u.devState ≠ 3 ∧
      (u.setReg PWR_DEV_STAT 3).devState = 3 ∧ (u.setReg PWR_DEV_STAT 3).linkL0 3 = true ∧ (u.setReg PWR_DEV_STAT 3).fnOn 3 16 = true) ∧
    (let m := { u with regs := u.regs ++ [(LFT_WIN 0, 0x80000000), (LFT_WIN_SIZE 0, 1)] }
     (m.memRead (m.agent (.host 3 16)) loftBase 64).1 = .ok (List.replicate 64 0) ∧
      (m.memWrite (m.agent (.host 3 16)) loftBase (toBytes 64 5)).1 = true) ∧
    ((match (u.memRead (u.agent (.host 3 16)) loftBase 64).1 with | .error .bus => true | _ => false) = true ∧
      (u.memWrite (u.agent (.host 3 16)) loftBase (toBytes 1 5)).1 = false ∧ 64 ≤ u.dramU) ∧
    ({ State.reset with bayResets := [7] }.turnsDown P (BAY_BENTS 0 7) 0 = true ∧
      (regs [(BAY_BENTS 0 6, 0x80)]).turnsDown P (BAY_BENTS 0 7) 0x80 = true) ∧
    (takes State.reset P (BAY_BENTS 0 7) 0 = true ∧ takes State.reset P (BAY_ENG 0 7 8) 1 = true ∧
      takes State.reset P (BAY_RESET_REQ 0 7) 1 = true ∧ takes State.reset P (BAY_CTL 7) 0x80000000 = true) ∧
    ([(7, 6)].find? (fun m : Nat × Nat => m.1 == 7) = some (7, 6)) ∧
    ({ State.reset with bayResets := [7] }.flag TRS_STAT 0 = false) := by
  decide +kernel

/-! ## Islands, life cycle, power, Gauge, faults and pins (15 to 19) -/

/-- Reset's state with island `i` as given. -/
abbrev island (i : Nat) (x : Island) (l : List (Nat × Nat)) : State :=
  { regs l with islands := (Vector.replicate 128 Island.cold).setIfInBounds i x }

theorem witness_IslandsAndRouters :
    (islandUsed 82 = true ∧ (State.reset.island 82).held = false ∧ (State.reset.island 82).crossing = .active ∧ islandUsed 127 = false ∧
      ((island 82 { Island.cold with held := true } []).island 82).held = true ∧
      State.reset.flag (XNG_QUAR_MAP (82 / 32)) (82 % 32) = false ∧ (regs [(XNG_QUAR_MAP 2, 0x40000)]).flag (XNG_QUAR_MAP 2) 18 = true) ∧
    (takes (regs [(XNG_ISL_SEL, 82)]) P XNG_ISL_CTL 0x80000000 = true ∧ (regs [(XNG_ISL_SEL, 82)]).fld XNG_ISL_SEL 6 0 = 82 ∧
      islandAlone 82 = true ∧ islandAlone 5 = false ∧ State.reset.bayCovers 82 = false ∧ State.reset.flag TRS_STAT 0 = false ∧
      { State.reset with bayResets := [0] }.bayCovers 15 = true ∧
      ((island 82 { Island.cold with crossing := .off } []).island 82).crossing = .off ∧
      ((island 82 { Island.cold with crossing := .resetting } []).island 82).crossing = .resetting) ∧
    (82 ∉ State.reset.islandResets ∧ 82 ∈ { State.reset with islandResets := [82] }.islandResets) ∧
    (State.reset.flag (PUR_RTR_STAT 63) 31 = false ∧ (regs [(PUR_RTR_STAT 63, 0x80000000)]).flag (PUR_RTR_STAT 63) 31 = true ∧
      State.reset.flag PUR_STAT 31 = false ∧ (regs [(PUR_STAT, 0x80000000)]).flag PUR_STAT 31 = true) := by decide +kernel

theorem witness_ResetsBootAndLifeCycle :
    let l := Life.cold
    let with' (l : Life) (r : List (Nat × Nat)) : State := { regs r with life := l }
    (l.state = 2 ∧ l.pendingState = none ∧ l.inTransition = false ∧ l.trainFail = 0 ∧ l.faulty = [] ∧ l.bistFail = [] ∧
      State.reset.faults.failed = [] ∧ max l.epochA.toNat l.epochB.toNat + 1 < 2 ^ 32 ∧ l.flashA = 0 ∧ l.awaitHost = false ∧
      l.refclkLost = false ∧ (regs [(HST_LINK_STAT 0, 0x80000000)]).flag (HST_LINK_STAT 0) 31 = true) ∧
    ((with' { l with state := 4 } []).life.state = 4 ∧ (with' { l with flashA := 2, flashB := 15 } []).life.flashB < 16 ∧
      (with' { l with state := 0 } []).life.state = 0) ∧
    (takes (with' { l with awaitHost := true } [(LCS_BOOT_LEN, 1)]) P LCS_BOOT_GO 1 = true ∧
      takes (with' l []) P LCS_BOOT_GO 1 = true ∧ (with' l []).fld LCS_BOOT_LEN 23 0 = 0 ∧
      0 < (with' l [(LCS_BOOT_LEN, 1)]).fld LCS_BOOT_LEN 23 0) ∧
    ((with' { l with refclkLost := true } []).life.refclkLost = true ∧ (with' { l with booted := true } []).life.booted = true) ∧
    ((∀ c < 64, State.reset.skidSt c = 0) ∧ (∀ c < 64, (State.reset.skidCh c).cur = none) ∧ (∀ c < 64, State.reset.skidOffer c = none)) ∧
    takes (with' { l with booted := true } []) P XNG_RESET_CTL 0x80000000 = true ∧
    (takes (regs [(LCS_TRANS_TGT, 4)]) P LCS_TRANS_GO 0x4C435854 = true ∧ takes (regs [(LCS_TRANS_TGT, 4)]) P LCS_TRANS_GO 0 = true ∧
      (regs [(LCS_TRANS_TGT, 4)]).fld LCS_TRANS_TGT 2 0 = 4 ∧ (regs [(LCS_TRANS_TGT, 3)]).fld LCS_TRANS_TGT 2 0 = 3 ∧
      isPlate P = true) := by
  and_intros <;> decide +kernel

/-- The device in a power state, with a transition's target and what its request left. -/
abbrev pwr (stat : Nat) (target : Option Nat) (next : Option (Nat × Nat)) (l : List (Nat × Nat)) : State :=
  { regs ((PWR_DEV_STAT, stat) :: l) with
    power := ⟨target, next, false, target.isSome, 0, Vector.replicate 8 false, Vector.replicate 8 false, [], [], none, false, none⟩ }

theorem witness_PowerStatesAndProfiles :
    let s := pwr 0 none none []
    (s.power.target = none ∧ s.fld PWR_DEV_STAT 1 0 = 0 ∧
      takesAll s [(PWR_DEV_REQ, 0), (PWR_DEV_REQ, 1), (PWR_DEV_REQ, 2), (PWR_DEV_REQ, 3), (PWR_ISL_REQ, 3), (PWR_CAR_REQ, 0x80000000),
        (PWR_PROFILE, 2), (PWR_PROFILE, s.fld PWR_PROFILE 1 0)] = true) ∧
    ((pwr 0 none none [(PWR_KEEP 7, 1)]).flag (PWR_KEEP 7) 0 = true ∧
      (pwr 0 none none [(SKD_CH_STAT 63, 3)]).skidSt 63 = 3 ∧ s.planeBusy = false ∧ s.flag DRC_STAT 31 = false ∧
      (∀ b < 8, s.flag (PWR_KEEP b) 0 = false) ∧ s.truss.frames = [] ∧ (∀ c < 64, s.skidSt c = 0) ∧ (∀ l < 56, s.laneOn l = false)) ∧
    ((pwr 0x12 none none []).fld PWR_DEV_STAT 1 0 = 2 ∧ (pwr 0x12 none none []).fld PWR_DEV_STAT 5 4 = 1) ∧
    ((pwr 0 (some 2) none []).power.next = none ∧ (pwr 0 (some 3) (some (1, 7)) []).power.next = some (1, 7) ∧
      (pwr 0x12 (some 1) none []).power.target = some 1 ∧ (pwr 0x12 (some 1) none []).girt.waiting = [] ∧
      (∀ c < 64, (s.skidCh c).cur = none) ∧ (∀ c < 72, (s.airCh c).jobs = []) ∧ (∀ n < 8, s.flag (PWR_WAKE_CFG n) 0 = false)) ∧
    ((regs [(PWR_ISL_SEL, 81)]).fld PWR_ISL_SEL 6 0 = 81 ∧ State.reset.engHeld 65 = false ∧ (State.reset.island 81).target = none ∧
      (State.reset.island 81).power = 0 ∧ ((island 81 { Island.cold with target := some 1 } []).island 81).next = none ∧
      ((island 81 { Island.cold with target := some 1, next := some (3, 7) } []).island 81).next = some (3, 7) ∧
      ((island 81 { Island.cold with crossing := .quarantine } []).island 81).crossing = .quarantine) ∧
    ((island 8 { Island.cold with crossing := .gated, power := 1, target := some 0 } []).island 8).target = some 0 ∧
    (let t := island 81 Island.cold [(PWR_DEV_STAT, 1)]
     t.fld PWR_DEV_STAT 1 0 = 1 ∧ t.flag (MRT_STAT 65) 8 = false ∧ t.engSt 65 = 0 ∧ (t.eng 65).task = none ∧ (t.eng 65).fenced = false) ∧
    (let f := frame0 .running [{ task0 with queue := 0 }]
     let t := { island 16 { Island.cold with crossing := .gated } [(PWR_DEV_STAT, 1), (qCfg 0, 0x80010001), (BAY_ENG 0 0 0, 1)] with
       truss := { Truss.cold with frames := [f] } }
     t.taskAt 0 = some (f, 0, task0) ∧ consumerIsland 128 = 16 ∧ (t.island 16).crossing = .gated ∧ t.eligible 128 0 = true ∧
      128 ∈ allConsumers) ∧
    ((pwr 0x12 none none [(PWR_WAKE_CFG 7, 1)]).flag (PWR_WAKE_CFG 7) 0 = true ∧ (regs [(PWR_WAKE_TMR, 0x80000000)]).flag PWR_WAKE_TMR 31 = true ∧
      (regs [(PWR_WAKE_EN, 3)]).flag PWR_WAKE_EN 1 = true ∧ (regs [(qCfg 1023, 0x80000000)]).qOn 1023 = true) ∧
    (s.power.pinLevel.getD 7 false ≠ true ∧ true ≠ s.flag (PWR_WAKE_CFG 7) 1) ∧
    (let t := { s with power := { s.power with carReq := [(255, (true, 0, 0))] } }
     tget? t.power.carReq 255 = some (true, 0, 0) ∧ tget? s.power.carReq 255 = none) ∧
    ((2 : Nat) ≠ s.fld PWR_PROFILE 1 0 ∧ s.power.profileTarget = none ∧ s.fld PWR_PROF_STAT 1 0 < 3 ∧
      { s.power with profileTarget := some 2 }.profileTarget = some 2) ∧
    (s.power.retCheck = none ∧ (∀ b < 8, ∀ n < 16, s.reg (GRT_TX_PROD b n) = s.reg (GRT_TX_CONS b n)) ∧
      (let t := { s with power := { s.power with retCheck := some (2, 5) } }
       t.power.target = none ∧ t.power.retCheck = some (2, 5) ∧ t.power.next = none ∧
       ¬∃ c < 16, t.flag DRC_STAT c = false ∧ max t.ridge.ticks (5 + 2000) < (t.dramCh c).retrain) ∧
      (let u := pwr 0 none none [(LFT_RET_EN0, 1)]
       let t := { u with loft := { u.loft with writeback := u.loft.writeback.setIfInBounds 0 [(0, 1, [])] } }
       t.planeBusy = true ∧ takes t P PWR_DEV_REQ 3 = true) ∧
      (let t := { pwr 0x12 (some 1) none [] with power := { (pwr 0x12 (some 1) none []).power with profDeferred := true } }
       t.power.profDeferred = true ∧ t.power.target = some 1)) := by
  and_intros <;> decide +kernel

theorem witness_GaugeSparesAndServicePins :
    -- entry 63 of group 1 in each pass; entry 62 of group 0 in every fourth
    let scan := [(GAU_SCAN_LEN, 64), (GAU_SCAN 63, 0x01000000), (GAU_SCAN 62, 0x00220000), (GAU_CTL, 0xC)]
    let s := regs scan
    let ring := [(GAU_RING_HI, loftBase / 2 ^ 32), (GAU_RING_LO, 0x44)]
    (takes s P GAU_CTL 0x8000000C = true ∧ takes s P GAU_CTL 0x80000004 = true ∧ s.flag GAU_CTL 3 = true ∧
      63 < s.fld GAU_SCAN_LEN 6 0 ∧ s.fld (GAU_SCAN 63) 24 24 = 1 ∧ s.flag GAU_STAT 31 = false ∧ s.islandUp 5 = true) ∧
    ((regs ((GAU_STAT, 0x80000000) :: scan)).flag GAU_STAT 31 = true ∧ (regs [(GAU_STAT, 0xC0000000)]).flag GAU_STAT 30 = true ∧
      (regs [(GAU_TRIG, 0x11F)]).flag GAU_TRIG 8 = true ∧ (regs [(GAU_TRIG, 0x11F)]).fld GAU_TRIG 4 0 = 31) ∧
    (let u := regs ((GAU_STAT, 0x80003F00) :: ring ++ scan)
     u.flag GAU_CTL 2 = true ∧ u.fld GAU_STAT 13 8 = 63 ∧ u.place .gauge (loftBase + 0x40) 16 = .sram (loftBase + 0x40) ∧
      u.fld GAU_RING_HI 15 0 * 0x100000000 + u.fld GAU_RING_LO 31 6 * 64 = loftBase + 0x40 ∧
      (regs ((LFT_WIN 0, 0x80000000) :: (LFT_WIN_SIZE 0, 1) :: ring ++ scan)).accessRefused ⟨.gauge, 0, false⟩ (.sram (loftBase + 0x40)) 16
        (loftBase + 0x40) = none ∧
      ¬2 ^ u.fld GAU_RING_LO 4 0 ≤ (u.reg GAU_RING_PROD + 2 ^ 32 - u.reg GAU_RING_CONS) % 2 ^ 32 ∧
      2 ^ 4 ≤ ((regs ((GAU_RING_PROD, 16) :: ring)).reg GAU_RING_PROD + 2 ^ 32 - 0) % 2 ^ 32 ∧ u.place .gauge 64 16 = .none) ∧
    ((regs [(MRT_STAT 66, 5)]).engSt 66 = 5 ∧ (State.reset.eng 66).fenced = false ∧ State.reset.engSt 66 ≠ 5) ∧
    (State.reset.coreFailed 71 = false ∧ tget? State.reset.truss.holding 71 = none ∧ State.reset.truss.frames = [] ∧
      (regs [(BNT_STAT 7, 0x01000000)]).coreFailed 71 = true) ∧
    (takes (regs [(PLT_FLT_HEAD, 65)]) P PLT_FLT_RD_SEQ 65 = true ∧ takes (regs [(PLT_FLT_HEAD, 65)]) P PLT_FLT_RD_SEQ 1 = true ∧
      takes State.reset P PLT_SVC_CLR 0x53564352 = true ∧ takes State.reset P PLT_SVC_CLR 0 = true) ∧
    ((0, 0) ∈ { State.reset with faults := ⟨[], [(0, 0)]⟩ }.faults.failed ∧ State.reset.fld PLT_SVC_UNIT 15 8 = 0) ∧
    (State.reset.life.inReset = false ∧ State.reset.pins.resetN = true ∧ { State.reset.pins with resetN := false }.resetN = false ∧
      State.reset.life.state = 2 ∧ (3 : Nat) < (4 : BitVec 8).toNat) := by
  and_intros <;> decide +kernel

end Sys2Proof.Tests
end

section
/-! SUPPORT. Bytes, CI16 samples and the sums of their products, as the signal engines narrow them (R128, R183). -/

namespace Sys2Proof.Machine

/-! ## Bytes and words -/

theorem ofBytes_take_lt (n : Nat) (bs : List Byte) : ofBytes (bs.take n) < 256 ^ n := by
  induction n generalizing bs with
  | zero => simp [ofBytes]
  | succ n ih =>
    cases bs with
    | nil => simp [ofBytes]
    | cons b bs =>
      have hb := b.isLt
      have ht := ih bs
      rw [List.take_succ_cons, ofBytes, pow_succ]
      omega

theorem ofBytes_take_add (m n : Nat) (bs : List Byte) :
    ofBytes (bs.take (m + n)) = ofBytes (bs.take m) + 256 ^ m * ofBytes ((bs.drop m).take n) := by
  induction m generalizing bs with
  | zero => simp [ofBytes]
  | succ m ih =>
    cases bs with
    | nil => simp [ofBytes]
    | cons b bs =>
      rw [Nat.add_right_comm, List.take_succ_cons, List.take_succ_cons, List.drop_succ_cons, ofBytes, ofBytes, ih]
      ring

theorem toBytes_append (m n a b : Nat) (h : a < 256 ^ m) : toBytes m a ++ toBytes n b = toBytes (m + n) (a + 256 ^ m * b) := by
  induction m generalizing a with
  | zero => simp_all [toBytes]
  | succ m ih =>
    have low : BitVec.ofNat 8 (a + 256 ^ (m + 1) * b) = BitVec.ofNat 8 a := by
      apply BitVec.eq_of_toNat_eq
      rw [BitVec.toNat_ofNat, BitVec.toNat_ofNat, pow_succ, mul_comm _ 256, mul_assoc]
      omega
    have rest : (a + 256 ^ (m + 1) * b) / 256 = a / 256 + 256 ^ m * b := by
      rw [pow_succ, mul_comm _ 256, mul_assoc]
      omega
    rw [Nat.add_right_comm, toBytes, toBytes, List.cons_append, low, rest, ih (a / 256) (by rw [pow_succ] at h; omega)]

/-! ## CI16 samples (R128, R183) -/

theorem sgn_eq_toInt (n v : Nat) : sgn n v = (BitVec.ofNat n v).toInt := by
  rw [sgn, BitVec.toInt, BitVec.toNat_ofNat]

theorem sgn_congr {n v w : Nat} (h : v % 2 ^ n = w % 2 ^ n) : sgn n v = sgn n w := by
  rw [sgn, sgn, h]

/-- A sample of a stream is its pair of parts. -/
theorem sampleAt_eq (bs : List Byte) (k : Nat) : sampleAt bs k = (ciPart bs (4 * k) false, ciPart bs (4 * k) true) := by
  have split := ofBytes_take_add 2 2 (bs.drop (4 * k))
  have low := ofBytes_take_lt 2 (bs.drop (4 * k))
  rw [List.drop_drop] at split
  simp only [sampleAt, cre, cim, ciPart, ← sgn_eq_toInt, Bool.false_eq_true, if_false, if_true, Nat.add_zero, split]
  exact Prod.ext (sgn_congr (by omega)) (sgn_congr (by omega))

theorem ciPart_drop (bs : List Byte) (lo off : Nat) (q : Bool) : ciPart (bs.drop lo) off q = ciPart bs (lo + off) q := by
  rw [ciPart, ciPart, List.drop_drop, Nat.add_assoc]

theorem satS_eq_clip16 (x : Int) : satS 16 x = (clip16 x).toInt := by
  have half : ((2 ^ (16 - 1) : Nat) : Int) = 32768 := by norm_num
  have two : (2 : Int) ^ (16 - 1) = 32768 := by norm_num
  rw [satS, clip16, satRule, BitVec.toInt_ofInt, Int.bmod_def, half, two]
  simp only [if_true]
  split <;> split <;> omega

theorem wrap_eq_toNat (n : Nat) (x : Int) : wrap n x = (BitVec.ofInt n x).toNat := by
  rw [wrap, BitVec.toNat_ofInt]

theorem ci16_eq (re im : Int) : ci16 re im = toBytes 2 (clip16 re).toNat ++ toBytes 2 (clip16 im).toNat := by
  have := (clip16 re).isLt
  rw [ci16, toBytes_append 2 2 _ _ this, BitVec.toNat_append, Nat.shiftLeft_eq, mul_comm,
    ← Nat.two_pow_add_eq_or_of_lt this, add_comm]
  rfl

/-- Rounding and saturating a sample gives its CI16 bytes, and counts the parts that were clamped (R183). -/
theorem narrowSample_eq (p : Int × Int) (shift : Nat) : narrowSample p shift =
    (ci16 (rnd p.1 shift) (rnd p.2 shift), clips16 (rnd p.1 shift) + clips16 (rnd p.2 shift)) := by
  have bytes (x : Int) : wrap 16 (satS 16 x) = (clip16 x).toNat := by
    rw [satS_eq_clip16, wrap_eq_toNat, BitVec.ofInt_toInt]
  have count (x : Int) : bitNat (satS 16 x != x) = clips16 x := by
    rw [satS_eq_clip16, clips16, bitNat, bne]
    split <;> simp_all
  simp only [narrowSample, bytes, count, ci16_eq]

/-! ## Sums -/

/-- The sum that an engine accumulates product by product. -/
theorem foldl_cmulI (n : Nat) (w x : Nat → Int × Int) :
    (List.range n).foldl (fun (acc : Int × Int) i => (acc.1 + (cmulI (w i) (x i)).1, acc.2 + (cmulI (w i) (x i)).2)) (0, 0) =
      sumCi n w x := by
  induction n with
  | zero => rfl
  | succ n ih =>
    rw [List.range_succ, List.foldl_append, ih]
    simp only [sumCi, List.range_succ, List.map_append, List.sum_append, List.map_singleton, List.sum_singleton]
    rfl

theorem streamOut_eq (n : Nat) (g : Nat → List Byte × Nat) :
    streamOut n g = ((List.range n).flatMap fun k => (g k).1, ((List.range n).map fun k => (g k).2).sum) := by
  simp [streamOut, List.sum_eq_foldl, List.flatMap_def, Function.comp_def]

/-! ## The accumulator's bits (R183) -/

theorem ciPart_natAbs_le (bs : List Byte) (off : Nat) (q : Bool) : (ciPart bs off q).natAbs ≤ 2 ^ 15 := by
  have lo := BitVec.le_toInt (BitVec.ofNat 16 (ofBytes ((bs.drop (off + if q then 2 else 0)).take 2)))
  have hi := BitVec.toInt_lt (x := BitVec.ofNat 16 (ofBytes ((bs.drop (off + if q then 2 else 0)).take 2)))
  rw [ciPart]
  omega

theorem mul_natAbs_le {a b : Int} (ha : a.natAbs ≤ 2 ^ 15) (hb : b.natAbs ≤ 2 ^ 15) : (a * b).natAbs ≤ 2 ^ 30 := by
  rw [Int.natAbs_mul]
  exact (Nat.mul_le_mul ha hb).trans (by norm_num)

theorem sum_natAbs_le (n b : Nat) (f : Nat → Int) (h : ∀ i, (f i).natAbs ≤ b) :
    (((List.range n).map f).sum).natAbs ≤ n * b := by
  induction n with
  | zero => simp
  | succ n ih =>
    have := h n
    simp only [List.range_succ, List.map_append, List.sum_append, List.map_singleton, List.sum_singleton, add_mul, one_mul]
    omega

/-- A sum of products of CI16 samples: each part of a product needs 32 bits. -/
theorem sumCi_natAbs_le (n : Nat) (w x : Nat → Int × Int) (hw : ∀ i, (w i).1.natAbs ≤ 2 ^ 15 ∧ (w i).2.natAbs ≤ 2 ^ 15)
    (hx : ∀ i, (x i).1.natAbs ≤ 2 ^ 15 ∧ (x i).2.natAbs ≤ 2 ^ 15) :
    (sumCi n w x).1.natAbs ≤ n * 2 ^ 31 ∧ (sumCi n w x).2.natAbs ≤ n * 2 ^ 31 := by
  constructor
  · refine sum_natAbs_le n _ _ fun i => ?_
    have re := mul_natAbs_le (hw i).1 (hx i).1
    have im := mul_natAbs_le (hw i).2 (hx i).2
    omega
  · refine sum_natAbs_le n _ _ fun i => ?_
    have re := mul_natAbs_le (hw i).1 (hx i).2
    have im := mul_natAbs_le (hw i).2 (hx i).1
    omega

end Sys2Proof.Machine
end

section
/-! SUPPORT. Reads of memory without stored errors: what they answer, and that they leave the state. -/

namespace Sys2Proof.Machine

theorem sramRead_clean {s : State} (hs : s.NoErrors) (bay key n : Nat) : s.sramRead bay key n = (.ok (s.bytes key n), s) := by
  rw [State.sramRead, hs.1]
  rfl

theorem dramRead_clean {s : State} (hs : s.NoErrors) (bay o n : Nat) :
    s.dramRead bay o n = (.ok (s.bytes (dramBase + o) n), s) := by
  rw [State.dramRead, State.dramErrs, hs.2.2]
  rfl

theorem place_common_host {s : State} {a n h x : Nat}
    (hp : State.place.common a n s (fun lo len => decide (lo ≤ a ∧ a + n ≤ lo + len)) = .host h x) : hostBase ≤ a := by
  unfold State.place.common at hp
  by_contra hlt
  simp only [hlt, false_and, decide_false, Bool.false_eq_true, if_false] at hp
  split_ifs at hp

/-- Only the addresses of the host windows lie in a host's memory. -/
theorem hostBase_le_of_place {s : State} {who : Requester} {a n h x : Nat} (hp : s.place who a n = .host h x) : hostBase ≤ a := by
  unfold State.place at hp
  split at hp
  · simp only at hp
    split_ifs at hp
    exact place_common_host hp
  · exact place_common_host hp

theorem partRead_state {s : State} (hs : s.NoErrors) {ag : Agent} {a n : Nat} {bs : List Byte} (ha : a < hostBase)
    (h : (s.partRead ag a n).1 = .ok bs) : (s.partRead ag a n).2 = s := by
  unfold State.partRead at h ⊢
  split_ifs with h0
  · rfl
  · simp only [h0, if_false] at h
    cases hr : s.accessRefused ag (s.place ag.who a n) n a with
    | some t => simp [hr] at h
    | none =>
      simp only [hr] at h ⊢
      cases hp : s.place ag.who a n with
      | none => rfl
      | sram key => simp only [sramRead_clean hs]
      | data c key => simp only [sramRead_clean hs]
      | prog c key => simp only; split <;> rfl
      | window off => rfl
      | dram o => simp only [dramRead_clean hs]
      | host k x => exact absurd (hostBase_le_of_place hp) (by omega)

theorem dramU_lt (s : State) : s.dramU < 2 ^ 37 := by
  have : s.fld DRC_SIZE 8 0 < 2 ^ 9 := Nat.mod_lt _ (by norm_num)
  unfold State.dramU
  omega

/-- No part of an access that begins below the host windows begins in them. -/
theorem pieceLen_room {s : State} {a : Nat} (ha : a < hostBase) :
    a + (s.pieceLen a - a % s.pieceLen a) < hostBase := by
  have hu := dramU_lt s
  suffices a + s.pieceLen a < hostBase by omega
  simp only [State.pieceLen, loftBase, bufBase, dataBase, dramBase, hostBase] at *
  split_ifs <;> omega

theorem cut_lt (s : State) (fuel : Nat) {a n : Nat} (ha : a < hostBase) : ∀ p ∈ s.cut fuel a n, p.1 < hostBase := by
  induction fuel generalizing a n with
  | zero => simpa [State.cut] using ha
  | succ fuel ih =>
    simp only [State.cut]
    split_ifs
    · simpa using ha
    · exact List.forall_mem_cons.2 ⟨ha, ih (pieceLen_room ha)⟩

/-- One part of a read, after the parts before it. -/
def readStep (ag : Agent) (r : Except MemErr (List Byte) × State) (p : Nat × Nat) : Except MemErr (List Byte) × State :=
  match r with
  | (.ok bs, s) => match s.partRead ag p.1 p.2 with
    | (.ok more, s) => (.ok (bs ++ more), s)
    | (.error e, s) => (.error e, s)
  | (.error e, s) => (.error e, s)

theorem memRead_eq (s : State) (ag : Agent) (a n : Nat) : s.memRead ag a n =
    match s.spanRefused ag a n with
    | some t => (.error .bus, t)
    | none => (s.pieces a n).foldl (readStep ag) (.ok [], s) := by
  unfold State.memRead
  cases s.spanRefused ag a n
  · simp only
    rfl
  · rfl

theorem foldl_readStep_error (ag : Agent) (ps : List (Nat × Nat)) (e : MemErr) (s : State) :
    ps.foldl (readStep ag) (.error e, s) = (.error e, s) := by
  induction ps with
  | nil => rfl
  | cons p ps ih => exact ih

theorem foldl_readStep_state {s : State} (hs : s.NoErrors) {ag : Agent} {ps : List (Nat × Nat)} {bs0 bs : List Byte}
    (hp : ∀ p ∈ ps, p.1 < hostBase) (h : (ps.foldl (readStep ag) (.ok bs0, s)).1 = .ok bs) :
    (ps.foldl (readStep ag) (.ok bs0, s)).2 = s := by
  induction ps generalizing bs0 with
  | nil => rfl
  | cons p ps ih =>
    obtain ⟨hp, hps⟩ := List.forall_mem_cons.1 hp
    rw [List.foldl_cons] at h ⊢
    cases hr : s.partRead ag p.1 p.2 with
    | mk r t =>
      cases r with
      | error e => simp [readStep, hr, foldl_readStep_error] at h
      | ok more =>
        have ht : t = s := by
          have := partRead_state hs hp (by rw [hr])
          rwa [hr] at this
        simp only [readStep, hr, ht] at h ⊢
        exact ih hps h

/-- A read of the device's own memory that answers bytes changes nothing. -/
theorem memRead_state {s : State} (hs : s.NoErrors) {ag : Agent} {a n : Nat} {bs : List Byte} (ha : a < hostBase)
    (h : (s.memRead ag a n).1 = .ok bs) : s.memRead ag a n = (.ok bs, s) := by
  refine Prod.ext h ?_
  rw [memRead_eq] at h ⊢
  cases hr : s.spanRefused ag a n with
  | some t => simp [hr] at h
  | none =>
    simp only [hr] at h ⊢
    exact foldl_readStep_state hs (cut_lt s _ ha) h

theorem readStreams_state {s : State} (hs : s.NoErrors) {j : Job} {word bytes : Nat} {is : List Nat} {xs : List (List Byte)}
    (hi : ∀ i ∈ is, j.stream word i < hostBase) (h : (j.readStreams word bytes is s).1 = .ok xs) :
    j.readStreams word bytes is s = (.ok xs, s) := by
  induction is generalizing xs with
  | nil => exact Prod.ext h rfl
  | cons i is ih =>
    obtain ⟨hi, his⟩ := List.forall_mem_cons.1 hi
    cases hm : (s.memRead j.agent (j.stream word i) bytes).1 with
    | error e =>
      have : s.memRead j.agent (j.stream word i) bytes = (.error e, (s.memRead j.agent (j.stream word i) bytes).2) :=
        Prod.ext hm rfl
      rw [Job.readStreams, this] at h
      cases h
    | ok bs =>
      simp only [Job.readStreams, memRead_state hs hi hm] at h ⊢
      cases hr : (j.readStreams word bytes is s).1 with
      | error e =>
        have : j.readStreams word bytes is s = (.error e, (j.readStreams word bytes is s).2) := Prod.ext hr rfl
        rw [this] at h
        cases h
      | ok rest =>
        rw [ih his hr] at h ⊢
        exact Prod.ext h rfl

end Sys2Proof.Machine
end

section
/-! SUPPORT. Accepted writes of memory without stored errors: what they keep, and that the free values taken
before them do not matter. -/

namespace Sys2Proof.Machine

/-- The state with another number of free values taken. -/
def State.withFree (s : State) (n : Nat) : State := { s with free := n }

/-- What an accepted store leaves as it was: the stored bytes wait in `wr`, and of the registers only the merge count moves. -/
structure Stored (s t : State) : Prop where
  clean : t.NoErrors
  free : t.free = s.free
  mem : t.mem = s.mem
  engines : t.engines = s.engines
  cores : t.cores = s.cores
  truss : t.truss = s.truss
  reg : ∀ b, b ≠ DRC_MERGE_CNT → t.reg b = s.reg b

theorem Stored.refl {s : State} (hs : s.NoErrors) : Stored s s :=
  ⟨hs, rfl, rfl, rfl, rfl, rfl, fun _ _ => rfl⟩

theorem Stored.trans {s t u : State} (h : Stored s t) (h' : Stored t u) : Stored s u :=
  ⟨h'.clean, h'.free.trans h.free, h'.mem.trans h.mem, h'.engines.trans h.engines, h'.cores.trans h.cores, h'.truss.trans h.truss,
    fun b hb => (h'.reg b hb).trans (h.reg b hb)⟩

/-- `f` answers `x` and stores, to the same effect whatever free values have been taken. -/
structure Stores {α : Type} (f : State → α × State) (x : α) (s t : State) : Prop where
  run : ∀ n, f (s.withFree n) = (x, t.withFree n)
  stored : Stored s t

theorem Stores.run_self {α : Type} {f : State → α × State} {x : α} {s t : State} (h : Stores f x s t) : f s = (x, t) := by
  have run := h.run s.free
  have same : t.withFree s.free = t := by rw [← h.stored.free]; rfl
  rwa [same] at run

theorem store_clean {s : State} (hs : s.NoErrors) (a : Nat) (bs : List Byte) : Stored s (s.store a bs) := by
  unfold State.store
  split
  · exact .refl hs
  · exact ⟨hs, rfl, rfl, rfl, rfl, rfl, fun _ _ => rfl⟩

theorem store_withFree (s : State) (a n : Nat) (bs : List Byte) :
    (s.withFree n).store a bs = (s.store a bs).withFree n := by
  unfold State.store
  split <;> rfl

theorem place_withFree (s : State) (n : Nat) : (s.withFree n).place = s.place := rfl

theorem cut_withFree (s : State) (n fuel a k : Nat) : (s.withFree n).cut fuel a k = s.cut fuel a k := by
  induction fuel generalizing a k with
  | zero => rfl
  | succ fuel ih =>
    have same : (s.withFree n).pieceLen a = s.pieceLen a := rfl
    simp only [State.cut, same, ih]

theorem accessRefused_withFree {s : State} {ag : Agent} {p : Place} {k a : Nat} (n : Nat)
    (h : s.accessRefused ag p k a = none) : (s.withFree n).accessRefused ag p k a = none := by
  have same : ((s.withFree n).accessRefused ag p k a).isNone = (s.accessRefused ag p k a).isNone := by
    cases p <;> simp only [State.accessRefused, apply_ite Option.isNone, Option.isNone_some, Option.isNone_none] <;> rfl
  rwa [h, Option.isNone_none, Option.isNone_iff_eq_none] at same

theorem spanRefused_withFree {s : State} {ag : Agent} {a k : Nat} (n : Nat) (h : s.spanRefused ag a k = none) :
    (s.withFree n).spanRefused ag a k = none := by
  have same : ((s.withFree n).spanRefused ag a k).isNone = (s.spanRefused ag a k).isNone := by
    unfold State.spanRefused
    rw [place_withFree]
    cases s.place ag.who a k <;> simp only [apply_ite Option.isNone, Option.isNone_some, Option.isNone_none] <;> rfl
  rwa [h, Option.isNone_none, Option.isNone_iff_eq_none] at same

theorem sramWrite_stores {s : State} (hs : s.NoErrors) (key : Nat) (bs : List Byte) :
    Stores (fun u => (true, u.sramWrite key bs)) true s (s.sramWrite key bs) := by
  have clean : (s.sramWrite key bs).sramErr = [] := by simp [State.sramWrite, hs.1]
  cases bs <;> exact ⟨fun _ => rfl, ⟨⟨clean, hs.2⟩, rfl, rfl, rfl, rfl, rfl, fun _ _ => rfl⟩⟩

/-- Once a step is refused, the steps after it answer so too. -/
theorem foldl_refused {β : Type} (f : Bool × State → β → Bool × State) (hno : ∀ b s, (f (false, s) b).1 = false)
    (l : List β) (s : State) : (l.foldl f (false, s)).1 = false := by
  induction l generalizing s with
  | nil => rfl
  | cons b l ih =>
    have hb : f (false, s) b = (false, (f (false, s) b).2) := Prod.ext (hno b s) rfl
    rw [List.foldl_cons, hb]
    exact ih _

/-- Steps each of which stores, one after another. -/
theorem foldl_stores {β : Type} (f : Bool × State → β → Bool × State) (hno : ∀ b s, (f (false, s) b).1 = false)
    (hf : ∀ b s, s.NoErrors → (f (true, s) b).1 = true → ∃ t, Stores (fun u => f (true, u) b) true s t)
    (l : List β) {s : State} (hs : s.NoErrors) (h : (l.foldl f (true, s)).1 = true) :
    ∃ t, Stores (fun u => l.foldl f (true, u)) true s t := by
  induction l generalizing s with
  | nil => exact ⟨s, fun _ => rfl, .refl hs⟩
  | cons b l ih =>
    have accepted : (f (true, s) b).1 = true := by
      by_contra hb
      have hb : f (true, s) b = (false, (f (true, s) b).2) := Prod.ext (by simpa using hb) rfl
      rw [List.foldl_cons, hb, foldl_refused f hno] at h
      cases h
    obtain ⟨t, ht⟩ := hf b s hs accepted
    rw [List.foldl_cons, ht.run_self] at h
    obtain ⟨u, hu⟩ := ih ht.stored.clean h
    exact ⟨u, fun n => by rw [List.foldl_cons, ht.run, hu.run], ht.stored.trans hu.stored⟩

/-- One word of a write of DRAM, after the words before it. -/
def dramWordStep (bay o : Nat) (bs : List Byte) (iecc : Bool) (r : Bool × State) (w : Nat) : Bool × State :=
  let n := bs.length
  let lo := max w o
  let hi := min (w + 8) (o + n)
  let part := (bs.drop (lo - o)).take (hi - lo)
  let s := r.2
  if hi - lo = 8 ∨ !iecc then
    let fresh := ((BitVec.ofNat 72 (2 ^ (8 * (hi - lo)) - 1)) <<< (8 * (lo - w)))
    let kept := if hi - lo = 8 then 0 else tget s.dramErr w 0 &&& ~~~fresh
    (r.1, { s.store (dramBase + lo) part with dramErr := if kept = 0 then tdel s.dramErr w else tput s.dramErr w kept })
  else
    let s := s.bump DRC_MERGE_CNT
    match s.dramRead bay w 8 with
    | (.error _, s) => (false, s)
    | (.ok old, s) =>
      let new := old.take (lo - w) ++ part ++ old.drop (hi - w)
      (r.1, { s.store (dramBase + w) new with dramErr := tdel s.dramErr w })

theorem dramWrite_eq (s : State) (bay o : Nat) (bs : List Byte) : s.dramWrite bay o bs =
    ((List.range ((o + bs.length - 1) / 8 - o / 8 + 1)).map fun i => (o / 8 + i) * 8).foldl
      (dramWordStep bay o bs (s.flag DRC_CFG 31)) (true, s) := by
  rfl

theorem withFree_clean {s : State} (hs : s.NoErrors) (n : Nat) : (s.withFree n).NoErrors := hs

theorem setProgErr_clean {s : State} (hs : s.NoErrors) : { s with progErr := [] } = s := by
  rw [← hs.2.1]

theorem setDramErr_clean {s : State} (hs : s.NoErrors) : { s with dramErr := [] } = s := by
  rw [← hs.2.2]

/-- A whole word, or a part of one without inline ECC, is stored as it is. -/
theorem dramWordStep_whole {s : State} (hs : s.NoErrors) (bay o : Nat) (bs : List Byte) (iecc ok : Bool) (w : Nat)
    (h : min (w + 8) (o + bs.length) - max w o = 8 ∨ (!iecc) = true) :
    dramWordStep bay o bs iecc (ok, s) w =
      (ok, s.store (dramBase + max w o) ((bs.drop (max w o - o)).take (min (w + 8) (o + bs.length) - max w o))) := by
  have zero (x : BitVec 72) : 0 &&& x = 0 := BitVec.zero_and
  simp only [dramWordStep, if_pos h, hs.2.2, tget, List.lookup_nil, Option.getD_none, zero, ite_self, if_true]
  exact congrArg (Prod.mk ok) (setDramErr_clean (store_clean hs _ _).clean)

/-- The word at `w` of DRAM with the bytes of a write at `o` merged into it (R307). -/
def mergedWord (s : State) (o : Nat) (bs : List Byte) (w : Nat) : List Byte :=
  let lo := max w o
  let hi := min (w + 8) (o + bs.length)
  let old := s.bytes (dramBase + w) 8
  old.take (lo - w) ++ (bs.drop (lo - o)).take (hi - lo) ++ old.drop (hi - w)

/-- Another word is merged with the bytes it holds. -/
theorem dramWordStep_merge {s : State} (hs : s.NoErrors) (bay o : Nat) (bs : List Byte) (iecc ok : Bool) (w : Nat)
    (h : ¬(min (w + 8) (o + bs.length) - max w o = 8 ∨ (!iecc) = true)) :
    dramWordStep bay o bs iecc (ok, s) w = (ok, (s.bump DRC_MERGE_CNT).store (dramBase + w) (mergedWord s o bs w)) := by
  have hs : (s.bump DRC_MERGE_CNT).NoErrors := hs
  simp only [dramWordStep, if_neg h, dramRead_clean hs]
  rw [show (s.bump DRC_MERGE_CNT).dramErr = [] from hs.2.2]
  exact congrArg (Prod.mk ok) (setDramErr_clean (store_clean hs _ _).clean)

theorem bump_merge_stored {s : State} (hs : s.NoErrors) : Stored s (s.bump DRC_MERGE_CNT) :=
  ⟨hs, rfl, rfl, rfl, rfl, rfl, fun b hb => by rw [reg_bump, if_neg hb]⟩

theorem dramWordStep_stores {s : State} (hs : s.NoErrors) (bay o : Nat) (bs : List Byte) (iecc : Bool) (w : Nat) :
    ∃ t, Stores (fun u => dramWordStep bay o bs iecc (true, u) w) true s t := by
  by_cases h : min (w + 8) (o + bs.length) - max w o = 8 ∨ (!iecc) = true
  · exact ⟨_, fun n => by rw [dramWordStep_whole (withFree_clean hs n) bay o bs iecc true w h, store_withFree],
      store_clean hs _ _⟩
  · exact ⟨(s.bump DRC_MERGE_CNT).store (dramBase + w) (mergedWord s o bs w), fun n => by
        rw [dramWordStep_merge (withFree_clean hs n) bay o bs iecc true w h, ← store_withFree]
        rfl,
      (bump_merge_stored hs).trans (store_clean (bump_merge_stored hs).clean _ _)⟩

theorem dramWordStep_refused (bay o : Nat) (bs : List Byte) (iecc : Bool) (w : Nat) (s : State) :
    (dramWordStep bay o bs iecc (false, s) w).1 = false := by
  unfold dramWordStep
  simp only
  split
  · rfl
  · split <;> rfl

theorem dramWrite_stores {s : State} (hs : s.NoErrors) (bay o : Nat) (bs : List Byte) (h : (s.dramWrite bay o bs).1 = true) :
    ∃ t, Stores (fun u => u.dramWrite bay o bs) true s t := by
  rw [dramWrite_eq] at h
  obtain ⟨t, ht⟩ :=
    foldl_stores _ (dramWordStep_refused bay o bs _) (fun w s hs _ => dramWordStep_stores hs bay o bs _ w) _ hs h
  exact ⟨t, ht.run, ht.stored⟩

/-- A part of a write that is accepted stores. -/
theorem partWrite_stores {s : State} (hs : s.NoErrors) (ag : Agent) (a : Nat) (bs : List Byte)
    (h : (s.partWrite ag a bs).1 = true) : ∃ t, Stores (fun u => u.partWrite ag a bs) true s t := by
  by_cases he : bs.isEmpty = true
  · exact ⟨s, fun n => by simp only [State.partWrite, if_pos he], .refl hs⟩
  generalize hp : s.place ag.who a bs.length = p
  cases hr : s.accessRefused ag p bs.length a with
  | some t => simp [State.partWrite, he, hp, hr] at h
  | none =>
    have admitted (n : Nat) : (s.withFree n).accessRefused ag p bs.length a = none := accessRefused_withFree n hr
    simp only [State.partWrite, if_neg he, hp, hr] at h
    suffices ∃ t, (∀ n, (s.withFree n).partWrite ag a bs = (true, t.withFree n)) ∧ Stored s t from
      this.imp fun _ ht => ⟨ht.1, ht.2⟩
    simp only [State.partWrite, if_neg he, place_withFree, hp, admitted]
    cases p with
    | none => cases h
    | window => cases h
    | sram key => exact ⟨_, (sramWrite_stores hs key bs).run, (sramWrite_stores hs key bs).stored⟩
    | data c key => exact ⟨_, (sramWrite_stores hs key bs).run, (sramWrite_stores hs key bs).stored⟩
    | prog c key =>
      refine ⟨s.store key bs, fun n => ?_, store_clean hs key bs⟩
      have clean := withFree_clean hs n
      rw [← store_withFree, clean.2.1]
      exact congrArg (Prod.mk true) (setProgErr_clean (store_clean clean key bs).clean)
    | dram o =>
      obtain ⟨t, ht⟩ := dramWrite_stores hs ag.bay o bs h
      exact ⟨t, ht.run, ht.stored⟩
    | host k x =>
      exact ⟨s.emit (.hostWrite (Fin.ofNat 4 k) (Fin.ofNat 17 (s.fld (BAY_HWIN_FN ag.bay k) 4 0))
        (BitVec.ofNat 64 (s.hostAddr ag.bay k x)) bs), fun n => rfl, ⟨hs, rfl, rfl, rfl, rfl, rfl, fun _ _ => rfl⟩⟩

/-- A write that is accepted stores. -/
theorem memWrite_stores {s : State} (hs : s.NoErrors) (ag : Agent) (a : Nat) (bs : List Byte)
    (h : (s.memWrite ag a bs).1 = true) : ∃ t, Stores (fun u => u.memWrite ag a bs) true s t := by
  cases hr : s.spanRefused ag a bs.length with
  | some t => simp [State.memWrite, hr] at h
  | none =>
    have pieces (n : Nat) : (s.withFree n).pieces a bs.length = s.pieces a bs.length := cut_withFree ..
    simp only [State.memWrite, hr] at h
    obtain ⟨t, ht⟩ := foldl_stores _ (fun _ _ => rfl) (fun p s hs hp => by
      simp only [Bool.true_and] at hp ⊢
      exact partWrite_stores hs ag p.1 _ hp) _ hs h
    refine ⟨t, fun n => ?_, ht.stored⟩
    simp only [State.memWrite, spanRefused_withFree n hr, pieces]
    exact ht.run n

/-- Writes in order that are all accepted store. -/
theorem putAll_stores {s : State} (hs : s.NoErrors) (ag : Agent) (l : List (Nat × List Byte))
    (h : (s.putAll ag l).1 = none) : ∃ t, Stores (fun u => u.putAll ag l) none s t := by
  induction l generalizing s with
  | nil => exact ⟨s, fun _ => rfl, .refl hs⟩
  | cons x l ih =>
    obtain ⟨a, bs⟩ := x
    have accepted : (s.memWrite ag a bs).1 = true := by
      by_contra hb
      have hb : s.memWrite ag a bs = (false, (s.memWrite ag a bs).2) := Prod.ext (by simpa using hb) rfl
      rw [State.putAll, hb] at h
      cases h
    obtain ⟨t, ht⟩ := memWrite_stores hs ag a bs accepted
    simp only [State.putAll, ht.run_self] at h
    obtain ⟨u, hu⟩ := ih ht.stored.clean h
    exact ⟨u, fun n => by simp only [State.putAll, ht.run, hu.run], ht.stored.trans hu.stored⟩

end Sys2Proof.Machine
end

section
/-! SUPPORT. A job of any engine from its descriptor's checks to its report (R168, R170, R172). -/

namespace Sys2Proof.Machine

/-! ## Checks of a descriptor (R170) -/

theorem foldl_min_ne_zero (l : List Nat) {c : Nat} (hc : c ≠ 0) (hl : ∀ x ∈ l, x ≠ 0) : l.foldl min c ≠ 0 := by
  induction l generalizing c with
  | nil => exact hc
  | cons x l ih =>
    obtain ⟨hx, hl⟩ := List.forall_mem_cons.1 hl
    exact ih (by omega) hl

/-- A descriptor that passes every check is of the kind asked for, and each reference of its plan passes. -/
theorem check_zero {j : Job} {kind nops : Nat} {p : Plan} (h : j.check kind nops p = 0) :
    j.f 0 39 32 = kind ∧ ∀ u ∈ p.refs, j.refCode u = 0 := by
  simp only [Job.check] at h
  split at h
  · cases h
  split at h
  · cases h
  rename_i word _
  refine ⟨not_not.1 fun hk => word (.inl hk), fun u hu => ?_⟩
  generalize hcodes : List.filter _ _ = codes at h
  have nonzero : ∀ x ∈ codes, x ≠ 0 := fun x hx => by
    rw [← hcodes, List.mem_filter] at hx
    simpa using hx.2
  cases codes with
  | nil =>
    by_contra hne
    have : j.refCode u ∈ ([] : List Nat) := by
      rw [← hcodes]
      exact List.mem_filter.2 ⟨List.mem_append_left _ (List.mem_map_of_mem hu), by simpa using hne⟩
    cases this
  | cons c r =>
    obtain ⟨hc, hr⟩ := List.forall_mem_cons.1 nonzero
    exact absurd h (foldl_min_ne_zero r hc hr)

/-- The streams of a reference that passes lie in the engine's memories, below the host windows. -/
theorem stream_lt_of_refCode {j : Job} {word n bytes : Nat} (h : j.refCode ⟨word, n, bytes⟩ = 0) :
    ∀ i ∈ List.range n, j.stream word i < hostBase := by
  intro i hi
  rw [List.mem_range] at hi
  cases hb : j.buffer (j.w word) with
  | none => simp [Job.refCode, hb] at h
  | some b =>
    have reach : i * brefStride (j.w word) ≤ if n > 1 then (n - 1) * brefStride (j.w word) + bytes else bytes := by
      split
      · exact (Nat.mul_le_mul_right _ (by omega)).trans (Nat.le_add_right ..)
      · rw [show i = 0 by omega, Nat.zero_mul]
        exact Nat.zero_le _
    simp only [Job.stream, Job.refCode, hb] at h ⊢
    generalize (if n > 1 then (n - 1) * brefStride (j.w word) + bytes else bytes) = extent at h reach
    split_ifs at h with hlen halign hspace
    simp only [inEngineSpace, Bool.not_eq_true', Bool.not_eq_false, Bool.or_eq_true, decide_eq_true_eq, loftBase, bufBase,
      dataBase, dramBase] at hspace
    simp only [hostBase]
    omega

/-- The inputs that the checks admit are read without a change of state. -/
theorem withInput_of_jobReads {s : State} (hs : s.NoErrors) {j : Job} {word bytes n : Nat} {xs : List (List Byte)}
    (hc : j.refCode ⟨word, n, bytes⟩ = 0) (h : s.JobReads j word bytes n xs) (k : List (List Byte) → State → JobEnd × State) :
    j.withInput word bytes n s k = k xs s := by
  simp only [Job.withInput, readStreams_state hs (stream_lt_of_refCode hc) h]

/-! ## A job from its command to its end -/

/-- The job that an engine makes of the bytes of its descriptor and of its buffer block. -/
def jobOfBytes (e bay addr nIn nOut : Nat) (bs bb : List Byte) : Job :=
  let bufs := (List.range (nIn + nOut)).map fun k => (bitsOf (wordAt bb (2 * k)) 47 0, bitsOf (wordAt bb (2 * k + 1)) 31 0)
  ⟨e, bay, addr, (List.range 8).map (wordAt bs), bufs.take nIn, bufs.drop nIn⟩

theorem jobOfBytes_eq {j : Job} {nIn nOut : Nat} {bs bb : List Byte} (hw : ∀ n < 8, j.w n = wordAt bs n)
    (hlen : j.words.length = 8) (hins : j.ins.length = nIn) (houts : j.outs.length = nOut)
    (hbufs : ∀ n < nIn + nOut,
      (j.ins ++ j.outs)[n]? = some (bitsOf (wordAt bb (2 * n)) 47 0, bitsOf (wordAt bb (2 * n + 1)) 31 0)) :
    jobOfBytes j.e j.bay j.addr nIn nOut bs bb = j := by
  have words : (List.range 8).map (wordAt bs) = j.words := by
    refine List.ext_getElem (by simpa using hlen.symm) fun n hn hn' => ?_
    have := hw n (by simpa using hn)
    rw [Job.w, List.getD_eq_getElem _ _ hn'] at this
    simpa using this.symm
  have bufs : ((List.range (nIn + nOut)).map fun k => (bitsOf (wordAt bb (2 * k)) 47 0, bitsOf (wordAt bb (2 * k + 1)) 31 0)) =
      j.ins ++ j.outs := by
    refine List.ext_getElem? fun n => ?_
    by_cases hn : n < nIn + nOut
    · rw [hbufs n hn, List.getElem?_map, List.getElem?_range hn]
      rfl
    · rw [List.getElem?_eq_none (by simpa using hn), List.getElem?_eq_none (by simp; omega)]
  rw [jobOfBytes, words, bufs, ← hins, List.take_left, List.drop_left]

/-- The engine that holds a job whose descriptor passes every check does the op's work and ends the job. -/
theorem runJob_eq {s : State} {e : Nat} {j : Job} (hj : s.JobOf e j) {kind nops op : Nat} {plan : Job → Plan}
    (hc : j.check kind nops (plan j) = 0) (ho : j.f 0 31 24 = op) (work : Job → State → JobEnd × State) :
    s.runJob e kind nops op plan work = (work j s).2.endJob j (work j s).1 := by
  obtain ⟨hs, idx, f, i, t, bs, bb, htask, hrep, -, hst, hup, hat, halign, hjob, hbuf, hdesc, hblock, he, hbay, haddr, hw, hlen,
    hins, houts, hbufs⟩ := hj
  have whole := jobOfBytes_eq hw hlen hins houts hbufs
  rw [he, hbay, haddr, jobOfBytes] at whole
  simp only [State.runJob, htask, hrep, hst, hup, hat, halign, Job.agent, memRead_state hs hjob hdesc,
    memRead_state hs hbuf hblock]
  simp only [ne_eq, not_true_eq_false, Bool.not_true, Bool.false_eq_true, or_self, if_false, whole, hc, ho]

/-! ## The end of a job (R168, R172) -/

theorem status_eq (j : Job) (cycles sat word1 : Nat) : j.status cycles sat word1 =
    if j.w 7 % 2 ^ 48 = 0 then [] else [(j.stream 7 0, statusBlock sat cycles word1)] := by
  have block : statusBlock sat cycles word1 =
      toBytes 8 (cycles % 2 ^ 32 * 2 ^ 32 + sat % 2 ^ 32) ++ toBytes 8 word1 ++ toBytes 16 0 := by
    simp only [statusBlock, List.map_cons, List.map_nil, List.flatten_cons, List.flatten_nil, List.append_assoc]
    rfl
  rw [Job.status, block]

theorem reg_setWide (s : State) (a b v : Nat) : (s.setWide a v).reg b =
    if b = a + 4 then v / 2 ^ 32 % 2 ^ 32 else if b = a then v % 2 ^ 32 else s.reg b := by
  simp [State.setWide]

theorem eng_setEng (s : State) {e : Nat} (x : Engine) (he : e < 67) : (s.setEng e x).eng e = x := by
  simp [State.eng, State.setEng, Vector.getD, he]

/-- What the engine counts and remembers of a job that finished, over the state `s` in which its outputs are written. -/
def finished (s : State) (j : Job) (sat cycles : Nat) (outs : List (Nat × List Byte)) : State :=
  ((s.bumpBy (MRT_SAT_CNT j.e) sat).bumpWide (MRT_BUSY_LO j.e) cycles).setEng j.e { s.eng j.e with
    report := some .finished, cycles, word0 := j.w 0, written := outs.map fun o => (o.1, o.2.length), changed := [] }

/-- A job of which no table changed, and that is not MRT_HQ's, ends with its outputs and its status block stored. -/
theorem endJob_finished {s t : State} {j : Job} {sat cycles word1 : Nat} {outs : List (Nat × List Byte)} (n : Nat)
    (hch : (s.eng j.e).changed = []) (hk : j.f 0 39 32 ≠ 9)
    (h : (s.withFree n).putAll j.agent (outs ++ j.status cycles sat word1) = (none, t)) :
    (s.withFree n).endJob j (.done sat cycles word1 outs []) = finished t j sat cycles outs := by
  have same : ((s.withFree n).eng j.e).changed = [] := hch
  have seen (u : State) : u.harqSeen j outs = u := by simp [State.harqSeen, hk]
  rw [status_eq] at h
  simp only [State.endJob, same, List.any_nil, Bool.false_eq_true, if_false, h, seen]
  rfl

/-- The registers that a finished job counts in: the parts saturated, and the engine's busy cycles in two words. -/
theorem finished_reg (s : State) (j : Job) (sat cycles : Nat) (outs : List (Nat × List Byte)) (b : Nat) :
    (finished s j sat cycles outs).reg b =
      if b = MRT_BUSY_LO j.e + 4 then (s.wide (MRT_BUSY_LO j.e) + cycles) % 2 ^ 64 / 2 ^ 32
      else if b = MRT_BUSY_LO j.e then (s.wide (MRT_BUSY_LO j.e) + cycles) % 2 ^ 32
      else if b = MRT_SAT_CNT j.e then min (s.reg (MRT_SAT_CNT j.e) + sat) 0xFFFFFFFF
      else s.reg b := by
  have counted (a : Nat) : (s.bumpBy (MRT_SAT_CNT j.e) sat).reg a =
      if a = MRT_SAT_CNT j.e then min (s.reg (MRT_SAT_CNT j.e) + sat) 0xFFFFFFFF else s.reg a := by
    rw [State.bumpBy, reg_setReg, Nat.mod_eq_of_lt (by omega)]
  have busy : (s.bumpBy (MRT_SAT_CNT j.e) sat).wide (MRT_BUSY_LO j.e) = s.wide (MRT_BUSY_LO j.e) := by
    rw [State.wide, counted, counted, if_neg (by simp only [MRT_BUSY_LO, MRT_SAT_CNT]; omega),
      if_neg (by simp only [MRT_BUSY_LO, MRT_SAT_CNT]; omega)]
    rfl
  have stored : (finished s j sat cycles outs).reg b =
      ((s.bumpBy (MRT_SAT_CNT j.e) sat).bumpWide (MRT_BUSY_LO j.e) cycles).reg b := rfl
  rw [stored, State.bumpWide, reg_setWide, busy, counted]
  congr 1
  · omega
  · congr 1
    omega

theorem finished_wide (s : State) (j : Job) (sat cycles : Nat) (outs : List (Nat × List Byte)) :
    (finished s j sat cycles outs).wide (MRT_BUSY_LO j.e) = (s.wide (MRT_BUSY_LO j.e) + cycles) % 2 ^ 64 := by
  rw [State.wide, finished_reg, finished_reg, if_neg (by omega), if_pos rfl, if_pos rfl]
  omega

theorem finished_eng {s : State} {j : Job} (he : j.e < 67) (sat cycles : Nat) (outs : List (Nat × List Byte)) :
    (finished s j sat cycles outs).eng j.e = { s.eng j.e with
      report := some .finished, cycles, word0 := j.w 0, written := outs.map fun o => (o.1, o.2.length), changed := [] } :=
  eng_setEng _ _ he

/-- A job whose outputs and status block are stored is done, by the cycles `c`. -/
theorem jobDone_finished {s t : State} {j : Job} {n sat cycles c word1 : Nat} {outs : List (Nat × List Byte)} {refs : List Nat}
    (he : j.e < 67) (hc : cycles ≤ c) (hd : refs.any j.inDram = false → c = cycles) (ht : Stored s t)
    (hb : (s.putAll j.agent (outs ++ j.status c sat word1)).2 = t) :
    JobDone s (s.after (finished (t.withFree n) j sat c outs)) j refs (fun _ => outs) sat cycles word1 [] := by
  have after_reg (b : Nat) : (s.after (finished (t.withFree n) j sat c outs)).reg b = (finished t j sat c outs).reg b := rfl
  have eng : (s.after (finished (t.withFree n) j sat c outs)).eng j.e = (finished t j sat c outs).eng j.e := rfl
  have wide : (s.after (finished (t.withFree n) j sat c outs)).wide (MRT_BUSY_LO j.e) =
      (finished t j sat c outs).wide (MRT_BUSY_LO j.e) := rfl
  have task : t.eng j.e = s.eng j.e := by rw [State.eng, ht.engines]; rfl
  have kept (b : Nat) (h : b / 4096 = engPage j.e) : t.reg b = s.reg b := by
    rw [engPage] at h
    exact ht.reg b (by rw [DRC_MERGE_CNT]; omega)
  have sat_page : MRT_SAT_CNT j.e / 4096 = engPage j.e := by simp only [MRT_SAT_CNT, engPage]; omega
  have last_page : MRT_LAST_CYC j.e / 4096 = engPage j.e := by simp only [MRT_LAST_CYC, engPage]; omega
  have lo_page : MRT_BUSY_LO j.e / 4096 = engPage j.e := by simp only [MRT_BUSY_LO, engPage]; omega
  have hi_page : (MRT_BUSY_LO j.e + 4) / 4096 = engPage j.e := by simp only [MRT_BUSY_LO, engPage]; omega
  refine ⟨c, hc, hd, fun a => ?_, ?_, ?_, ?_, ?_, ?_, ?_, by simp, ht.cores, ht.truss, fun a _ ha => ?_⟩
  · exact (byte_after (t := finished (t.withFree n) j sat c outs) ht.mem a).trans (by rw [hb]; rfl)
  · rw [eng, finished_eng he]
  · rw [eng, finished_eng he, task]
  · rw [after_reg, finished_reg, if_neg (by simp only [MRT_BUSY_LO, MRT_SAT_CNT]; omega),
      if_neg (by simp only [MRT_BUSY_LO, MRT_SAT_CNT]; omega), if_pos rfl, kept _ sat_page]
  · rw [eng, finished_eng he]
  · rw [after_reg, finished_reg, if_neg (by simp only [MRT_BUSY_LO, MRT_LAST_CYC]; omega),
      if_neg (by simp only [MRT_BUSY_LO, MRT_LAST_CYC]; omega), if_neg (by simp only [MRT_SAT_CNT, MRT_LAST_CYC]; omega),
      kept _ last_page]
  · rw [wide, finished_wide, State.wide, kept _ lo_page, kept _ hi_page]
    rfl
  · rw [List.mem_cons, not_or] at ha
    obtain ⟨own, memory⟩ := ha
    have merge : a ≠ DRC_MERGE_CNT := by
      rintro rfl
      exact memory (by decide)
    have other {b : Nat} (hb : b / 4096 = engPage j.e) : a ≠ b := fun h => own (h ▸ hb)
    rw [after_reg, finished_reg, if_neg (other hi_page), if_neg (other lo_page), if_neg (other sat_page), ht.reg a merge]

theorem State.JobOf.engine {s : State} {e : Nat} {j : Job} (hj : s.JobOf e j) : j.e = e := by
  obtain ⟨-, _, _, _, _, _, _, -, -, -, -, -, -, -, -, -, -, -, engine, -⟩ := hj
  exact engine

theorem State.JobOf.changed {s : State} {e : Nat} {j : Job} (hj : s.JobOf e j) : (s.eng e).changed = [] := by
  obtain ⟨-, _, _, _, _, _, _, -, -, changed, -⟩ := hj
  exact changed

/-- An op whose work ends in outputs that all can be written, whatever free values it takes, finishes. -/
theorem finishes_of_work {i : Instr} {s : State} {e : Nat} {j : Job} {kind nops op : Nat} {plan : Job → Plan}
    {work : Job → State → JobEnd × State} {refs : List Nat} {outs : List (Nat × List Byte)} {sat cycles c word1 : Nat} (n : Nat)
    (hexec : exec i s = .next (s.after (s.runJob e kind nops op plan work))) (hj : s.JobOf e j) (he : e < 67)
    (hc : j.check kind nops (plan j) = 0) (hk : kind ≠ 9) (ho : j.f 0 31 24 = op)
    (hw : work j s = (.done sat c word1 outs [], s.withFree n)) (hcyc : cycles ≤ c)
    (hd : refs.any j.inDram = false → c = cycles) : Finishes i s j refs (fun _ => outs) sat cycles word1 [] := by
  intro accepted
  have hje := hj.engine
  obtain ⟨t, ht⟩ := putAll_stores hj.1 j.agent _ (accepted c)
  have hk9 : j.f 0 39 32 ≠ 9 := by rw [(check_zero hc).1]; exact hk
  refine ⟨_, hexec, ?_⟩
  rw [runJob_eq hj hc ho, hw, endJob_finished n (hje ▸ hj.changed) hk9 (ht.run n)]
  exact jobDone_finished (by omega) hcyc hd ht.stored (by rw [ht.run_self])

end Sys2Proof.Machine
end

section
/-! The Beam Engines and applied detection (R182 to R185, R191 to R193). -/

namespace Sys2Proof.Machine

/-! ## Output streams of samples -/

/-- A sample as an engine writes it: its bytes, and how many of its parts were clamped. -/
def sampleOut (p : Int × Int) : List Byte × Nat := (ci16 p.1 p.2, clips16 p.1 + clips16 p.2)

/-- The output streams of a job whose samples are `p o k`. -/
def sampleStreams (j : Job) (m n : Nat) (p : Nat → Nat → Int × Int) : List (Nat × List Byte) :=
  (List.range m).map fun o => (j.stream 4 o, (List.range n).flatMap fun k => ci16 (p o k).1 (p o k).2)

/-- The parts clamped in those streams. -/
def clampedParts (m n : Nat) (p : Nat → Nat → Int × Int) : Nat :=
  ((List.range m).map fun o => ((List.range n).map fun k => clips16 (p o k).1 + clips16 (p o k).2).sum).sum

section
variable {m n : Nat} {g : Nat → Nat → List Byte × Nat} {p : Nat → Nat → Int × Int}
  (h : ∀ o < m, ∀ k < n, g o k = sampleOut (p o k))
include h

theorem streamOut_of_samples {o : Nat} (ho : o < m) : streamOut n (g o) =
    ((List.range n).flatMap fun k => ci16 (p o k).1 (p o k).2,
      ((List.range n).map fun k => clips16 (p o k).1 + clips16 (p o k).2).sum) := by
  have sample (k : Nat) (hk : k ∈ List.range n) : g o k = sampleOut (p o k) := h o ho k (List.mem_range.1 hk)
  rw [streamOut_eq, List.flatMap_congr fun k hk => congrArg Prod.fst (sample k hk),
    List.map_congr_left fun k hk => congrArg Prod.snd (sample k hk)]
  rfl

theorem sampleStreams_eq (j : Job) : ((List.range m).map fun o =>
    (j.stream 4 o, (((List.range m).map fun o => streamOut n (g o)).getD o ([], 0)).1)) = sampleStreams j m n p := by
  refine List.map_congr_left fun o ho => ?_
  have ho : o < m := List.mem_range.1 ho
  simp [ho, streamOut_of_samples h ho]

theorem clampedParts_eq :
    (((List.range m).map fun o => streamOut n (g o)).map Prod.snd).foldl (· + ·) 0 = clampedParts m n p := by
  rw [← List.sum_eq_foldl, List.map_map]
  refine congrArg List.sum (List.map_congr_left fun o ho => ?_)
  rw [Function.comp_apply, streamOut_of_samples h (List.mem_range.1 ho)]

end

/-! ## Beam engines (R182 to R185) -/

/-- Output sample `k` of stream `o` of a Beam Engine job, rounded and not yet clamped (R182, R183). -/
def beamOut (b : Bfm) (xs : List (List Byte)) (ws : List Byte) (o k : Nat) : Int × Int :=
  let g := if b.gran = 5 then 0 else k / (12 * 2 ^ b.gran)
  let acc := sumCi b.sIn
    (fun x => (ciPart ws ((g * b.sOut * b.sIn + o * b.sIn + x) * 4) false,
      ciPart ws ((g * b.sOut * b.sIn + o * b.sIn + x) * 4) true))
    fun x => (ciPart (xs.getD x []) (4 * k) false, ciPart (xs.getD x []) (4 * k) true)
  (rnd acc.1 b.shift, rnd acc.2 b.shift)

theorem bfmSample_eq (b : Bfm) (xs : List (List Byte)) (ws : List Byte) (o k : Nat) :
    bfmSample b xs ws o k = sampleOut (beamOut b xs ws o k) := by
  have place (g x : Nat) : 4 * ((g * b.sOut + o) * b.sIn + x) = (g * b.sOut * b.sIn + o * b.sIn + x) * 4 := by ring
  simp only [bfmSample, narrowSample_eq, foldl_cmulI, sampleAt_eq, place]
  rfl

/-- Bytes in DRAM take at least as long as others. -/
theorem moveCycles_le {bytes dram gbs : Nat} (hd : dram ≤ bytes) (hg : 111 ≤ gbs) :
    moveCycles bytes 0 gbs ≤ moveCycles bytes dram gbs := by
  have : dram * 111 ≤ dram * gbs := Nat.mul_le_mul_left _ hg
  refine Nat.div_le_div_right (Nat.sub_le_sub_right (Nat.add_le_add_right ?_ _) _)
  omega

theorem moveCycles_in (bytes : Nat) : moveCycles bytes 0 512 = (bytes * 12 + 5119) / 5120 := by
  rw [moveCycles, cdiv]
  omega

theorem moveCycles_out (bytes : Nat) : moveCycles bytes 0 256 = (bytes * 12 + 2559) / 2560 := by
  rw [moveCycles, cdiv]
  omega

/-- The cycles of R185 with no byte in DRAM. -/
def beamCycles (b : Bfm) : Nat :=
  max ((b.n * b.a * b.l + 511) / 512) (max (((4 * b.n * b.sIn + 4 * b.groups * b.a * b.l) * 12 + 5119) / 5120)
    ((4 * b.n * b.sOut * 12 + 2559) / 2560))

theorem bfmCycles_zero (b : Bfm) : bfmCycles b 0 0 0 0 = beamCycles b := by
  simp only [bfmCycles, moveCycles_in, moveCycles_out, beamCycles, cdiv, Nat.add_zero]
  omega

theorem beamCycles_le {b : Bfm} {dramIn dramOut : Nat} (hi : dramIn ≤ 4 * b.n * b.sIn + 4 * b.groups * b.a * b.l)
    (ho : dramOut ≤ 4 * b.n * b.sOut) (delayIn delayOut : Nat) : beamCycles b ≤ bfmCycles b dramIn dramOut delayIn delayOut := by
  have input := moveCycles_le hi (show 111 ≤ 512 by norm_num)
  have output := moveCycles_le ho (show 111 ≤ 256 by norm_num)
  rw [← bfmCycles_zero, bfmCycles, bfmCycles]
  exact max_le_max le_rfl
    (max_le_max (Nat.add_le_add input (Nat.zero_le _)) (Nat.add_le_add output (Nat.zero_le _)))

/-- What DRAM adds to the cycles is nothing where no byte lies there, and takes at most a free value. -/
theorem dramDelay_eq (bytes : Nat) (s : State) : ∃ d n, dramDelay bytes s = (d, s.withFree n) ∧ (bytes = 0 → d = 0) := by
  by_cases h : bytes = 0
  · exact ⟨0, s.free, if_pos h, fun _ => rfl⟩
  · refine ⟨(Config.freeWord s.free).toNat % 2 ^ 24, s.free + 1, ?_, fun h' => absurd h' h⟩
    simp only [dramDelay, if_neg h, State.fresh, State.withFree]

theorem dramBytes_le (j : Job) (word bytes : Nat) : j.dramBytes word bytes ≤ bytes := by
  unfold Job.dramBytes
  split
  · exact le_rfl
  · exact Nat.zero_le _

theorem cdiv_le {n m : Nat} (hm : 0 < m) : cdiv n m ≤ n := by
  have : n * 1 ≤ n * m := Nat.mul_le_mul_left _ hm
  rw [cdiv, ← Nat.lt_succ_iff, Nat.div_lt_iff_lt_mul hm, Nat.succ_mul]
  omega

theorem bfm_groups_lt (precode : Bool) (j : Job) : (bfmOf precode j).groups < 2 ^ 16 := by
  have hn : (bfmOf precode j).n < 2 ^ 13 := Nat.mod_lt _ (by norm_num)
  have hg : cdiv (bfmOf precode j).n (12 * 2 ^ (bfmOf precode j).gran) ≤ (bfmOf precode j).n := cdiv_le (by positivity)
  show (if (bfmOf precode j).gran = 5 then 1 else cdiv (bfmOf precode j).n (12 * 2 ^ (bfmOf precode j).gran)) < 2 ^ 16
  split <;> omega

/-- The cycles of a Beam Engine job: those of R185, or more where its inputs or outputs lie in DRAM. -/
theorem beamCycles_spec {j : Job} {b : Bfm} {weights delayIn delayOut : Nat} (hw : weights = 4 * b.groups * b.a * b.l)
    (hi : j.dramBytes 2 (4 * b.n * b.sIn) + j.dramBytes 3 weights = 0 → delayIn = 0)
    (ho : j.dramBytes 4 (4 * b.n * b.sOut) = 0 → delayOut = 0) :
    let c := bfmCycles b (j.dramBytes 2 (4 * b.n * b.sIn) + j.dramBytes 3 weights)
      (j.dramBytes 4 (4 * b.n * b.sOut)) delayIn delayOut
    beamCycles b ≤ c ∧ ([2, 3, 4].any j.inDram = false → c = beamCycles b) := by
  subst hw
  refine ⟨beamCycles_le (Nat.add_le_add (dramBytes_le j 2 _) (dramBytes_le j 3 _)) (dramBytes_le j 4 _) _ _, fun away => ?_⟩
  simp only [List.any_cons, List.any_nil, Bool.or_false, Bool.or_eq_false_iff] at away
  have zero (word bytes : Nat) (h : j.inDram word = false) : j.dramBytes word bytes = 0 := by simp [Job.dramBytes, h]
  have inputs := zero 2 (4 * b.n * b.sIn) away.1
  have weights := zero 3 (4 * b.groups * b.a * b.l) away.2.1
  have outputs := zero 4 (4 * b.n * b.sOut) away.2.2
  rw [hi (by omega), ho outputs, inputs, weights, outputs, bfmCycles_zero]

/-- The whole work of a Beam Engine job. -/
theorem bfmWork_eq {s : State} (hs : s.NoErrors) {j : Job} {precode : Bool} {b : Bfm} (hb : bfmOf precode j = b)
    {xs ws : List (List Byte)} (inputs : j.refCode ⟨2, b.sIn, 4 * b.n⟩ = 0)
    (weights : j.refCode ⟨3, 1, 4 * b.groups * b.a * b.l⟩ = 0)
    (hx : s.JobReads j 2 (4 * b.n) b.sIn xs) (hw : s.JobReads j 3 (4 * b.groups * b.a * b.l) 1 ws) :
    ∃ c n, bfmWork precode j s = (.done (clampedParts b.sOut b.n (beamOut b xs (ws.getD 0 []))) c b.groups
        (sampleStreams j b.sOut b.n (beamOut b xs (ws.getD 0 []))) [], s.withFree n) ∧
      beamCycles b ≤ c ∧ ([2, 3, 4].any j.inDram = false → c = beamCycles b) := by
  have samples (o : Nat) (_ : o < b.sOut) (k : Nat) (_ : k < b.n) := bfmSample_eq b xs (ws.getD 0 []) o k
  obtain ⟨d, n, delay, d0⟩ :=
    dramDelay_eq (j.dramBytes 2 (4 * b.n * b.sIn) + j.dramBytes 3 (4 * b.groups * b.a * b.l)) s
  obtain ⟨d', n', delay', d0'⟩ := dramDelay_eq (j.dramBytes 4 (4 * b.n * b.sOut)) (s.withFree n)
  refine ⟨_, n', ?_, beamCycles_spec rfl d0 d0'⟩
  have small : b.groups % 2 ^ 16 = b.groups := Nat.mod_eq_of_lt (hb ▸ bfm_groups_lt precode j)
  simp only [bfmWork, hb, withInput_of_jobReads hs inputs hx, withInput_of_jobReads hs weights hw, delay, delay',
    sampleStreams_eq samples, clampedParts_eq samples, small]
  rfl

/-- A Beam Engine job that its checks admit finishes with the exact samples of R183. -/
theorem beam_finishes {i : Instr} {s : State} {e : Nat} {j : Job} {precode : Bool} {op : Nat} {b : Bfm} {xs ws : List (List Byte)}
    (hb : bfmOf precode j = b) (hprecode : (op == 0) = precode)
    (hexec : exec i s = .next (s.after (s.runJob e 1 2 op bfmPlan (bfmWork precode)))) (he : e < 67) (hj : s.JobOf e j)
    (hc : j.check 1 2 (bfmPlan j) = 0) (ho : j.f 0 31 24 = op) (hx : s.JobReads j 2 (4 * b.n) b.sIn xs)
    (hw : s.JobReads j 3 (4 * b.groups * b.a * b.l) 1 ws) :
    Finishes i s j [2, 3, 4] (fun _ => sampleStreams j b.sOut b.n (beamOut b xs (ws.getD 0 [])))
      (clampedParts b.sOut b.n (beamOut b xs (ws.getD 0 []))) (beamCycles b) b.groups [] := by
  have refs (u : RefUse) (hu : u ∈ (bfmPlan j).refs) : j.refCode u = 0 := (check_zero hc).2 u hu
  simp only [bfmPlan, ho, hprecode, hb, List.forall_mem_cons] at refs
  obtain ⟨inputs, weights, -⟩ := refs
  obtain ⟨c, n, work, least, away⟩ := bfmWork_eq hj.1 hb inputs weights hx hw
  exact finishes_of_work n hexec hj he hc (by norm_num) ho work least away

/-! ## Applied detection (R191 to R193) -/

/-- The exponent of the weight record of sample `k`. -/
def applyExp (d : Det) (recs : List (List Byte)) (k : Nat) : Int :=
  (BitVec.ofNat 8 (ofBytes ((recs.getD (k / (12 * 2 ^ d.gsz)) []).take 1))).toInt

/-- Output sample `k` of stream `o` of an APPLY, rounded and not yet clamped: layer o mod L of symbol o / L (R191, R192). -/
def applyOut (d : Det) (xs recs : List (List Byte)) (o k : Nat) : Int × Int :=
  let rec' := recs.getD (k / (12 * 2 ^ d.gsz)) []
  let acc := sumCi d.r
    (fun r => (ciPart rec' (4 + 4 * (o % d.l * d.r + r)) false, ciPart rec' (4 + 4 * (o % d.l * d.r + r)) true))
    fun r => (ciPart (xs.getD (o / d.l * d.r + r) []) (4 * k) false, ciPart (xs.getD (o / d.l * d.r + r) []) (4 * k) true)
  (rnd acc.1 (15 - applyExp d recs k).toNat, rnd acc.2 (15 - applyExp d recs k).toNat)

theorem sumCi_congr {n : Nat} {w x y : Nat → Int × Int} (h : ∀ i < n, x i = y i) : sumCi n w x = sumCi n w y := by
  have same (f : Int × Int → Int × Int → Int) :
      (List.range n).map (fun i => f (w i) (x i)) = (List.range n).map fun i => f (w i) (y i) :=
    List.map_congr_left fun i hi => by rw [h i (List.mem_range.1 hi)]
  exact Prod.ext (congrArg List.sum (same fun a b => a.1 * b.1 - a.2 * b.2))
    (congrArg List.sum (same fun a b => a.1 * b.2 + a.2 * b.1))

theorem applySample_eq {d : Det} {xs recs : List (List Byte)} (o k : Nat) (he : applyExp d recs k ≤ 15) :
    applySample d ((xs.drop (o / d.l * d.r)).take d.r) recs (o % d.l) k = sampleOut (applyOut d xs recs o k) := by
  have stream (r : Nat) (hr : r < d.r) : ((xs.drop (o / d.l * d.r)).take d.r).getD r [] = xs.getD (o / d.l * d.r + r) [] := by
    simp [List.getD_eq_getElem?_getD, hr]
  have low : ¬ sgn 8 (ofBytes ((recs.getD (k / (12 * 2 ^ d.gsz)) []).take 1)) > 15 := by
    rw [sgn_eq_toInt]
    exact not_lt.2 he
  simp only [applySample, if_neg low, narrowSample_eq, foldl_cmulI, sampleAt_eq, ciPart_drop]
  rw [sumCi_congr fun r hr => by rw [stream r hr], sgn_eq_toInt]
  rfl

/-- An APPLY that its checks admit, no exponent above 15, finishes with the exact samples of R191. -/
theorem apply_finishes {i : Instr} {s : State} {e : Nat} {j : Job} {d : Det} {xs recs : List (List Byte)} (hd : detOf j = d)
    (hexec : exec i s = .next (s.after (s.runJob e 2 3 2 detPlan detApplyWork))) (he : e < 67) (hj : s.JobOf e j)
    (hc : j.check 2 3 (detPlan j) = 0) (ho : j.f 0 31 24 = 2) (hx : s.JobReads j 2 (4 * d.n) (d.r * d.symbols) xs)
    (hr : s.JobReads j 3 d.recLen d.groups recs) (hexp : ∀ k < d.n, applyExp d recs k ≤ 15) :
    Finishes i s j [] (fun _ => sampleStreams j (d.l * d.symbols) d.n (applyOut d xs recs))
      (clampedParts (d.l * d.symbols) d.n (applyOut d xs recs))
      (d.symbols * (cdiv (d.n * d.r * d.l) 64 + 2 * d.groups) + 48) 0 [] := by
  have refs (u : RefUse) (hu : u ∈ (detPlan j).refs) : j.refCode u = 0 := (check_zero hc).2 u hu
  simp only [detPlan, ho, hd, if_true, List.forall_mem_cons] at refs
  obtain ⟨inputs, records, -⟩ := refs
  have samples (o : Nat) (_ : o < d.l * d.symbols) (k : Nat) (hk : k < d.n) := applySample_eq (xs := xs) o k (hexp k hk)
  refine finishes_of_work s.free hexec hj he hc (by norm_num) ho ?_ le_rfl fun _ => rfl
  simp only [detApplyWork, hd, withInput_of_jobReads hj.1 inputs hx, withInput_of_jobReads hj.1 records hr,
    sampleStreams_eq samples, clampedParts_eq samples]
  rfl

/-- Settles O37: the job's inputs are read without a change of state, its samples are the exact ones, and its writes have the
same effect whatever free values the cycles of DRAM take. -/
theorem beamsAndDetectionAreExact : Obligations.BeamsAndDetectionAreExact := by
  intro s e j xs ws l ants n gran shift groups beam dl dr size dg symbols exp dacc dout
  refine ⟨?_, ?_, ?_, ?_⟩
  · intro hj hc ho hx hw
    exact beam_finishes (b := bfmOf true j) rfl rfl rfl (by omega) hj hc ho hx hw
  · intro hj hc ho hx hw
    exact beam_finishes (b := bfmOf false j) rfl rfl rfl (by omega) hj hc ho hx hw
  · intro m hm g x a
    obtain ⟨re, im⟩ := sumCi_natAbs_le m (fun i => (ciPart (g i) 0 false, ciPart (g i) 0 true))
      (fun i => (ciPart (x i) 0 false, ciPart (x i) 0 true))
      (fun i => ⟨ciPart_natAbs_le (g i) 0 false, ciPart_natAbs_le (g i) 0 true⟩)
      fun i => ⟨ciPart_natAbs_le (x i) 0 false, ciPart_natAbs_le (x i) 0 true⟩
    have bits : m * 2 ^ 31 ≤ 2 ^ 37 := by omega
    exact ⟨re.trans bits, im.trans bits⟩
  · intro hj hc ho hx hr hexp
    exact apply_finishes (d := detOf j) rfl rfl (by omega) hj hc ho hx hr hexp

end Sys2Proof.Machine
end

section
/-! SUPPORT. The check bits of a byte (R274, R275): syndrome and parity are linear in the wrong bits, and each stored bit has a
Hamming position of its own, k4 the position 0. -/

namespace Sys2Proof.Machine

/-! ## Linearity -/

theorem selectedXor_xor (m n : BitVec 13) (x y i h : Nat) :
    ((if m.getLsbD i then x ^^^ h else x) ^^^ if n.getLsbD i then y ^^^ h else y) =
      if (m ^^^ n).getLsbD i then (x ^^^ y) ^^^ h else x ^^^ y := by
  rw [BitVec.getLsbD_xor]
  cases m.getLsbD i <;> cases n.getLsbD i
  case false.false => rfl
  case false.true => exact (Nat.xor_assoc x y h).symm
  case true.false => exact Nat.xor_right_comm x h y
  case true.true =>
    show (x ^^^ h) ^^^ (y ^^^ h) = x ^^^ y
    rw [Nat.xor_right_comm, ← Nat.xor_assoc x y h, Nat.xor_xor_cancel_right]

theorem synOf_xor (m n : BitVec 13) : synOf (m ^^^ n) = synOf m ^^^ synOf n :=
  List.foldl_hom₂ (List.range 12) Nat.xor _ _ _ 0 0 fun x y i => selectedXor_xor m n x y i (hamPos i)

theorem bne_bne_bne : ∀ p x q y : Bool, ((p != x) != (q != y)) = ((p != q) != (x ^^ y)) := by decide

theorem parOf_xor (m n : BitVec 13) : parOf (m ^^^ n) = (parOf m != parOf n) := by
  unfold parOf
  rw [← List.foldl_hom₂ (List.range 13) bne _ _ (fun p i => p != (m ^^^ n).getLsbD i) false false fun p q i => ?_]
  · rfl
  · rw [bne_bne_bne, BitVec.getLsbD_xor]

/-! ## One wrong bit -/

/-- The mask of one wrong stored bit. -/
abbrev wrongBit (i : Nat) : BitVec 13 := BitVec.ofNat 13 (2 ^ i)

theorem synOf_wrongBit : ∀ i : Fin 13, synOf (wrongBit i) = hamPos i := by decide

theorem parOf_wrongBit : ∀ i : Fin 13, parOf (wrongBit i) = true := by decide

theorem hamPos_injective : ∀ i j : Fin 13, hamPos i = hamPos j → i = j := by decide

theorem ofNat_add_eq_wrongBit_xor : ∀ i j : Fin 13, i ≠ j →
    BitVec.ofNat 13 (2 ^ i.val + 2 ^ j.val) = wrongBit i ^^^ wrongBit j := by decide

/-! ## The decoding table -/

theorem eccDecode_of_no_error {b : Byte} {m : BitVec 13} (hs : synOf m = 0) (hp : parOf m = false) :
    eccDecode b m = .ok (b ^^^ m.setWidth 8) := by
  simp [eccDecode, hs, hp]

/-- A syndrome with even parity is a double error. -/
theorem eccDecode_of_even {b : Byte} {m : BitVec 13} (hs : synOf m ≠ 0) (hp : parOf m = false) :
    eccDecode b m = .bad := by
  simp [eccDecode, hp]

theorem find_hamPos : ∀ i : Fin 12, (List.range 12).find? (fun k => hamPos k == hamPos i) = some i.val := by decide

theorem hamPos_ne_zero : ∀ i : Fin 12, hamPos i ≠ 0 := by decide

theorem hamPos_le : ∀ i : Fin 12, hamPos i ≤ 12 := by decide

theorem two_pow_eq_zero_of_check : ∀ i : Fin 12, 8 ≤ i.val → 2#8 ^ i.val = 0 := by decide

/-- With odd parity, the bit at the syndrome's Hamming position is turned over; a check bit has no part in the byte. -/
theorem eccDecode_of_odd {b : Byte} {m : BitVec 13} (i : Fin 13) (hs : synOf m = hamPos i) (hp : parOf m = true) :
    eccDecode b m = .corrected (b ^^^ m.setWidth 8 ^^^ BitVec.ofNat 8 (2 ^ i.val)) i := by
  cases i using Fin.lastCases with
  | last => simp [eccDecode, hs, hp, hamPos]
  | cast i =>
    have hi : synOf m = hamPos i := hs
    have check (h : 8 ≤ i.val) : 2#8 ^ i.val = 0 := two_pow_eq_zero_of_check i h
    have pos : hamPos i ≠ 0 := hamPos_ne_zero i
    simp +contextual [eccDecode, hi, hp, hamPos_le, find_hamPos, check]

theorem eccDecode_wrongBit (b : Byte) (i : Fin 13) : eccDecode b (wrongBit i) = .corrected b i := by
  have restored : b ^^^ (wrongBit i).setWidth 8 ^^^ BitVec.ofNat 8 (2 ^ i.val) = b := by
    rw [BitVec.setWidth_ofNat_of_le (by omega), BitVec.xor_assoc, BitVec.xor_self, BitVec.xor_zero]
  rw [eccDecode_of_odd i (synOf_wrongBit i) (parOf_wrongBit i), restored]

/-- Two wrong bits have different positions, so their syndrome is not 0, and their parities cancel. -/
theorem eccDecode_wrongBit_xor (b : Byte) {i j : Fin 13} (h : i ≠ j) : eccDecode b (wrongBit i ^^^ wrongBit j) = .bad := by
  apply eccDecode_of_even
  · rw [synOf_xor, synOf_wrongBit, synOf_wrongBit, Ne, Nat.xor_eq_zero_iff]
    exact mt (hamPos_injective i j) h
  · rw [parOf_xor, parOf_wrongBit, parOf_wrongBit]
    rfl

end Sys2Proof.Machine
end

section
/-! Correction and detection by the check bits (R278). -/

namespace Sys2Proof.Machine

/-- Settles O47: a single error's syndrome is its own position, and two errors' is never 0. Wrong bits d0, d1 and d2 have the
positions 3, 5 and 6, which cancel, so the three of them read as k4 in error. -/
theorem checkBitsCorrectOneDetectTwo : Obligations.CheckBitsCorrectOneDetectTwo := by
  refine ⟨eccDecode_wrongBit, ?_, ?_, 0, 7, 7, 12, ?_, ?_, ?_⟩
  · intro b i j h
    rw [ofNat_add_eq_wrongBit_xor i j h, eccDecode_wrongBit_xor b h]
  · intro b
    rw [eccDecode_of_no_error (by decide) (by decide), show BitVec.setWidth 8 (0 : BitVec 13) = 0#8 from rfl, BitVec.xor_zero]
  · decide
  · exact eccDecode_of_odd (m := 7) 12 (by decide) (by decide)
  · decide

end Sys2Proof.Machine
end
